-- ==== Sys2Proof/Word.lean ====
section
/-! DEFINITION. The byte of the host line and of the seat lines, and the text made of bytes. -/

namespace Sys2Proof

/-- One byte of a host frame, of a line message or of a card identity. -/
abbrev Byte := BitVec 8

/-- A text as the part stores it: bytes 0x20 to 0x7E (00_scope 4.4, R204). -/
abbrev Text := List Byte

/-- One of the 64 seat positions, numbered in seat order: A01 to A32 are 0 to 31, B01 to B32 are
32 to 63 (R207). -/
abbrev SeatId := Fin 64

/-- One of the four screens: S-A1, S-A2, S-B1, S-B2 are 0 to 3 (units 64 to 67 of R207). -/
abbrev ScreenId := Fin 4

/-- A screen item number (R150 to R152). -/
abbrev ItemId := Fin 16

/-- A role number (R71). -/
abbrev RoleId := Fin 8

end Sys2Proof
end

