-- ==== Sys2Proof/Config.lean ====
section
/-! DEFINITION. The capacities the manual states, and the free values: what the manual leaves unstated,
as constants without a body, of which nothing can be proved. -/

namespace Sys2Proof

/-- At most 8 speaker entries (R2). -/
def Config.maxSpeakers : Nat := 8
/-- At most 2 chair-class entries (R2). -/
def Config.maxChairs : Nat := 2
/-- At most 24 request entries (R3). -/
def Config.maxRequests : Nat := 24
/-- The speech log holds at most 48 records (R48). -/
def Config.logCapacity : Nat := 48
/-- The booking index holds up to 96 entries (R92). -/
def Config.indexCapacity : Nat := 96
/-- The input queue holds up to 4 checked frames (R202). -/
def Config.queueCapacity : Nat := 4
/-- Fewer than 4 requests may be outstanding when one is taken (R202). -/
def Config.maxOutstanding : Nat := 4
/-- The waiting list holds at most 4 REJECTs (R206). -/
def Config.maxRejects : Nat := 4
/-- The store has 16 sectors (R116). -/
def Config.sectors : Nat := 16
/-- A sector has 256 units of which unit 0 is its header (R116). -/
def Config.unitsPerSector : Nat := 256
/-- The highest room clock value (R88). -/
def Config.clockMax : Nat := 4294967295
/-- The highest write count (R118, R126). -/
def Config.writeCountMax : Nat := 4294967295
/-- The highest sequence number (R117, R126). -/
def Config.sequenceMax : Nat := 65535

/-- The enumerations that replies and notices carry and R218 does not number. -/
inductive Config.CodeTable where
  | floorState | lineState | faultCause | engineState | phase | statusCode | faultKind
  | haltCause | screensFound | micGain | loudspeaker | partState
deriving DecidableEq, Repr

/-- FREE VALUE (log entry 3). The byte that stands for value `n` of an enumeration, or for a level that is no number
(OFF, MUTE, UNKNOWN), whose numbering the manual does not give (R217, R218). -/
opaque Config.unnumbered : Config.CodeTable → Nat → Byte

/-- FREE VALUE (log entry 3). The bytes a reply carries for a field of the given width, wider than a byte, that is
absent, where R217 gives no form for the absence. -/
opaque Config.absentField : Nat → List Byte

/-- FREE VALUE (log entry 3). The bytes GET_SEAT carries for a pending set, given the code bytes of its
order kinds (R180). -/
opaque Config.orderSetField : List Byte → List Byte

/-- FREE VALUE (log entry 4). The data bytes of an ORDER, given its code byte and what it carries as numbers
and text: chapter 11 lays out the header and the code, not the data. -/
opaque Config.orderData : Byte → List Nat → Text → List Byte

/-- FREE VALUE (log entry 3). The revision number that IDENTIFY reports (R215). DESIGN CHOICE (log entry 64): its width
of one byte, since R215 gives the number no range and no width. -/
opaque Config.revision : Byte

end Sys2Proof
end

