-- ==== Sys2Proof/Syntax.lean ====
section
/-! DEFINITION. The commands and events of the part: one constructor of `Instr` for each row of
spec/opcode_table.json, with the operands each brings in from outside. -/

namespace Sys2Proof

/-- A seat line (chapter 8). -/
inductive LineId where
  | a | b
deriving DecidableEq, Repr, Inhabited

/-- Why a line is in FAULT (R155, R170). -/
inductive FaultCause where
  | shorted | bitErrors
deriving DecidableEq, Repr, Inhabited

/-- One character of a unit's answer as the engine received it (R157): its data bits, its marker bit,
whether its stop bit read low, and the bit time, counted from the end of the controller's check byte,
at which its stop bit ended (R161). -/
structure AnswerChar where
  data : Byte
  marker : Bool
  framingError : Bool
  endsAt : Nat
deriving DecidableEq, Repr, Inhabited

/-- What the engine received after its check byte: the bit time at which the first start bit began, if
any did, and the characters in order (R161, R162). -/
structure LineAnswer where
  startAt : Option Nat
  chars : List AnswerChar
deriving DecidableEq, Repr, Inhabited

/-- A store unit found worn: one bit wrong (`corrected`) or two and more (`uncorrectable`) (R116). -/
structure WornUnit where
  sector : Fin 16
  unit : Nat
  uncorrectable : Bool
deriving DecidableEq, Repr, Inhabited

/-- How an erase ended (R123, R124); a failed erase leaves the sector's header erased, still valid, or
neither (R117: "RETIRED … Any"). -/
inductive EraseOutcome where
  | erased
  | failedHeaderErased
  | failedHeaderValid
  | failedHeaderInvalid
deriving DecidableEq, Repr, Inhabited

/-- How a retry of a FAULT line ended (R171): the line was held low; the line stayed high through the
delimiter and no probe is due; the probe was answered as given; the probe was abandoned by a bit
error; or the wake pulse did not read back low, though the line was not held low. -/
inductive RetryResult where
  | heldLow
  | quiet
  | probed (answer : LineAnswer)
  | bitError
  | pulseLost
deriving DecidableEq, Repr, Inhabited

/-- The commands and events. A request carries its frame's tag and payload bytes, laid out as chapter 11
gives them; an event carries what the outside world brings. -/
inductive Instr where
  | powerOn (rate1 rate0 : Bool)
  | completeFrame (bytes : List Byte)
  | rejectTruncated
  | rejectBadLength (second : Byte)
  | frameSent
  | restartReset
  | unknownKind (kind tag : Byte) (payload : List Byte)
  | grant (tag : Byte) (payload : List Byte)
  | close (tag : Byte) (payload : List Byte)
  | withdraw (tag : Byte) (payload : List Byte)
  | clearFloor (tag : Byte) (payload : List Byte)
  | setFloor (tag : Byte) (payload : List Byte)
  | floorStatus (tag : Byte) (payload : List Byte)
  | readLog (tag : Byte) (payload : List Byte)
  | setLevels (tag : Byte) (payload : List Byte)
  | setTrim (tag : Byte) (payload : List Byte)
  | getLevels (tag : Byte) (payload : List Byte)
  | setRole (tag : Byte) (payload : List Byte)
  | getRole (tag : Byte) (payload : List Byte)
  | setSeatRole (tag : Byte) (payload : List Byte)
  | setFilter (tag : Byte) (payload : List Byte)
  | getFilter (tag : Byte) (payload : List Byte)
  | enableFilter (tag : Byte) (payload : List Byte)
  | disableFilter (tag : Byte) (payload : List Byte)
  | setRoom (tag : Byte) (payload : List Byte)
  | setTime (tag : Byte) (payload : List Byte)
  | getTime (tag : Byte) (payload : List Byte)
  | listBookings (tag : Byte) (payload : List Byte)
  | openNow (tag : Byte) (payload : List Byte)
  | book (tag : Byte) (payload : List Byte)
  | walkIn (tag : Byte) (payload : List Byte)
  | amend (tag : Byte) (payload : List Byte)
  | cancel (tag : Byte) (payload : List Byte)
  | extend (tag : Byte) (payload : List Byte)
  | endNow (tag : Byte) (payload : List Byte)
  | getBooking (tag : Byte) (payload : List Byte)
  | storeStatus (tag : Byte) (payload : List Byte)
  | storeClear (tag : Byte) (payload : List Byte)
  | compact (tag : Byte) (payload : List Byte)
  | setLabel (tag : Byte) (payload : List Byte)
  | getDisplay (tag : Byte) (payload : List Byte)
  | setLines (tag : Byte) (payload : List Byte)
  | rescan (tag : Byte) (payload : List Byte)
  | lineStatus (tag : Byte) (payload : List Byte)
  | getSeat (tag : Byte) (payload : List Byte)
  | start (tag : Byte) (payload : List Byte)
  | restart (tag : Byte) (payload : List Byte)
  | setNotices (tag : Byte) (payload : List Byte)
  | identify (tag : Byte) (payload : List Byte)
  | ping (tag : Byte) (payload : List Byte)
  | secondEvent
  | speechWarning (seat : SeatId)
  | speechLimit (seat : SeatId)
  | allowanceReached (seat : SeatId)
  | minuteEvent
  | lineSleep (line : LineId)
  | storeProgramComplete (wear : List WornUnit)
  | storeReadComplete (wear : List WornUnit)
  | rosterLoadComplete (wear : List WornUnit)
  | eraseComplete (outcome : EraseOutcome)
  | scanComplete (wear : List WornUnit) (eraseFailures : List (Fin 16))
  | pollAnswer (line : LineId) (answer : LineAnswer)
  | fetchAnswer (line : LineId) (answer : LineAnswer)
  | orderAcknowledged (line : LineId) (answer : LineAnswer)
  | exchangeFailure (line : LineId) (answer : LineAnswer)
  | bitError (line : LineId)
  | resyncGapEnd (line : LineId)
  | lineFault (line : LineId) (cause : FaultCause)
  | wakeDelimiterEnd (line : LineId)
  | wakeRequest (line : LineId) (lowMicros : Nat)
  | lineRetryEnd (line : LineId) (result : RetryResult)
  | assignAnswer (line : LineId) (answer : LineAnswer)
  | confirmingPoll (line : LineId) (answer : LineAnswer)
  | screenPoll (line : LineId) (answer : LineAnswer)
  | unassign (line : LineId)
  | sleep (line : LineId)
  | hostByteReceived (byte : Byte) (stopBit : Bool)
  | lineGoesHigh (line : LineId)
  | powerLoss (unitsDone : Nat) (torn : Bool)
deriving DecidableEq, Repr, Inhabited

end Sys2Proof
end

