-- ==== Sys2Proof/Machine/State.lean ====
section
/-! DEFINITION. The state of the part as plain data, block by block as 00_scope 2.1 lists the owners, and the
state right after power-on. -/

namespace Sys2Proof.Machine

/-! ## Results, kinds and reasons -/

/-- The nineteen results, numbered in this order (R205, R218). -/
inductive Result where
  | ok | okClamped | unknownKind | badLength | badValue | wrongState | busy | full | absent
  | notPermitted | conflict | noTime | notFound | locked | notReady | tooLate
  | storeFull | storeFault | storeHalted
deriving DecidableEq, Repr, Inhabited

/-- The REJECT reasons (R200 to R202, R218). -/
inductive RejectReason where
  | truncated | badLength | badCheck | full
deriving DecidableEq, Repr, Inhabited

/-- Presence of a unit (R179, R184). -/
inductive Presence where
  | absent | present | silent | lost
deriving DecidableEq, Repr, Inhabited

/-- Kind of a unit (R179, R223). -/
inductive UnitKind where
  | delegate | chair | screen
deriving DecidableEq, Repr, Inhabited

/-- Card state of a seat (R77). -/
inductive CardState where
  | none | reading | held | bound | unlisted | duplicate
deriving DecidableEq, Repr, Inhabited

/-- The thirteen close reasons (01_floor_control 1.8, R218). -/
inductive CloseReason where
  | own | chair | host | replaced | priority | clear | limit | timeUp | allowance | lost
  | cardOut | role | meetingEnd
deriving DecidableEq, Repr, Inhabited

/-- The refusal codes a seat can hold (R14, 01_floor_control 1.8). -/
inductive RefusalCode where
  | full | queueFull | noneWaiting | noOwnClose | notPermitted | cardNeeded | cardInUse | timeUsed
deriving DecidableEq, Repr, Inhabited

/-- A booking's state (R92, R218). -/
inductive BookingState where
  | pending | lobby | inSession | done | missed | cancelled | damaged
deriving DecidableEq, Repr, Inhabited

/-! ## Floor controller, speech timer and log -/

/-- Mode of the floor policy (R5). -/
inductive FloorMode where
  | openMode | requestMode
deriving DecidableEq, Repr, Inhabited

/-- Full action of the floor policy (R5). -/
inductive FullAction where
  | refuse | queue | replaceOldest
deriving DecidableEq, Repr, Inhabited

/-- At-limit action of the floor policy (R5). -/
inductive LimitAction where
  | warn | close
deriving DecidableEq, Repr, Inhabited

/-- Priority action of the floor policy (R5). -/
inductive PriorityAction where
  | mute | cancel
deriving DecidableEq, Repr, Inhabited

/-- The twelve fields of a floor policy (R5). -/
structure Policy where
  mode : FloorMode
  smax : Nat
  fullAction : FullAction
  autoAdvance : Bool
  ownClose : Bool
  speechLimit : Nat
  warningLead : Nat
  atLimit : LimitAction
  allowance : Nat
  cardsRequired : Bool
  closedList : Bool
  priorityAction : PriorityAction
deriving DecidableEq, Repr, Inhabited

/-- The walk-in defaults (R5). -/
def Policy.walkIn : Policy where
  mode := .openMode
  smax := 4
  fullAction := .queue
  autoAdvance := false
  ownClose := true
  speechLimit := 0
  warningLead := 30
  atLimit := .warn
  allowance := 0
  cardsRequired := false
  closedList := false
  priorityAction := .mute

/-- A speaker entry (R2); `speech` tells one opening from another (R148, log entry 5). -/
structure SpeakerEntry where
  seat : SeatId
  speech : Nat
  openStamp : Nat
  elapsed : Nat
  muted : Bool
  wasMuted : Bool
  chairClass : Bool
  warned : Bool
  overran : Bool
deriving DecidableEq, Repr, Inhabited

/-- A request entry (R3). -/
structure RequestEntry where
  seat : SeatId
  band : Nat
  arrival : Nat
deriving DecidableEq, Repr, Inhabited

/-- The floor controller's state (R1). The refusal codes are kept seat by seat in the seat records. -/
structure Floor where
  isOpen : Bool
  speakers : List SpeakerEntry
  requests : List RequestEntry
  policy : Policy
  holders : List SeatId
  muting : Bool
  arrivalCounter : Nat
  speechCount : Nat
deriving DecidableEq, Repr, Inhabited

/-- A record of a finished speech (R49), with the entry's warned state, which R42 gives it. DESIGN CHOICE (log entry
48): R49's table and R222's layout do not list the warned state, and no reply sends it. -/
structure LogRecord where
  booking : Nat
  seat : SeatId
  attendee : Option Nat
  openStamp : Nat
  duration : Nat
  reason : CloseReason
  warned : Bool
  overran : Bool
  wasMuted : Bool
deriving DecidableEq, Repr, Inhabited

/-- The speech log and its dropped count (R48, R50). -/
structure SpeechLog where
  records : List LogRecord
  dropped : Nat
deriving DecidableEq, Repr, Inhabited

/-! ## Level computer -/

/-- A microphone gain: OFF or halves above 0 dB (00_scope 4.2). -/
inductive MicLevel where
  | off
  | gain (halves : Nat)
deriving DecidableEq, Repr, Inhabited

/-- A loudspeaker level: MUTE or halves of attenuation (00_scope 4.2). -/
inductive SpeakerLevel where
  | mute
  | code (halves : Nat)
deriving DecidableEq, Repr, Inhabited

/-- The six master inputs (R53, R54). -/
structure Masters where
  mic : Nat
  attenuation : Bool
  base : Nat
  duck1 : Nat
  duck2 : Nat
  slew : Nat
deriving DecidableEq, Repr, Inhabited

/-! ## Role unit -/

/-- A role definition (R71). -/
structure RoleDef where
  name : Text
  band : Nat
  mayRequest : Bool
  maySpeak : Bool
  chairClass : Bool
  lift : Nat
deriving DecidableEq, Repr, Inhabited

/-- A role filter entry (R74); a length rule of `none` is ANY. -/
structure FilterEntry where
  enabled : Bool
  value : List Byte
  mask : List Byte
  lengthRule : Option Nat
  role : RoleId
deriving DecidableEq, Repr, Inhabited

/-- The role unit: eight definitions and sixteen filter entries (R71, R74). -/
structure RoleUnit where
  defs : Vector RoleDef 8
  filters : Vector FilterEntry 16
deriving DecidableEq, Repr

/-! ## Display composer -/

/-- The status codes of a seat (R147). -/
inductive StatusCode where
  | lobby | roomClosed
  | refusal (code : RefusalCode)
  | muted | speakingOver | speakingWarn | speaking | request | idle
deriving DecidableEq, Repr, Inhabited

/-- The status key (R148). -/
structure StatusKey where
  code : StatusCode
  position : Option Nat
  speech : Option Nat
  limit : Option Nat
deriving DecidableEq, Repr, Inhabited

/-- Timing kind of a speaker slot (R152). -/
inductive TimingKind where
  | elapsed | left | over
deriving DecidableEq, Repr, Inhabited

/-- Phase of the current meeting (R102). -/
inductive Phase where
  | loading | lobby | inSession
deriving DecidableEq, Repr, Inhabited

/-- The key of a screen item (R150 to R152). -/
inductive ItemKey where
  | title (phase : Phase) (number : Nat) (title : Text) (startMin endMin : Nat) (resumed : Bool)
  | titleNext (number : Nat) (title : Text) (startMin : Nat)
  | titleNone
  | clock (minute : Option Nat) (phase : Option Phase) (minutesLeft : Option Int)
      (toStart : Option Nat) (warning : Bool)
  | speaker (speech : Nat) (seat : SeatId) (label : Text) (chair muted warned overran : Bool)
      (timing : TimingKind) (limit : Option Nat)
  | queue (seat : SeatId) (label : Text) (band : Nat)
  | empty
deriving DecidableEq, Repr, Inhabited

/-! ## Seat table -/

/-- The card part of a seat record (R77). -/
structure CardPart where
  state : CardState
  identity : Option (List Byte)
  role : Option RoleId
  attendee : Option Nat
  unreadable : Bool
deriving DecidableEq, Repr, Inhabited

/-- The pending set of a seat (R190). -/
structure SeatPending where
  confirm : Bool
  speaker : Bool
  mic : Bool
  gain : Bool
  status : Bool
  label : Bool
deriving DecidableEq, Repr, Inhabited

/-- The record of one seat position: the seat table's fields (R179), the card part (R77), the levels (R53),
the seat default role (R73), the display records (R141) and the refusal code (R14). A sent value or
last-sent record of `none` is UNKNOWN. -/
structure SeatRec where
  kind : Option UnitKind
  presence : Presence
  missCount : Nat
  heldMic : Option Nat
  heldNext : Option Nat
  heldCard : Option Nat
  heldPriority : Bool
  confirmOutstanding : Bool
  fetchMark : Bool
  marks : SeatPending
  card : CardPart
  micTrim : Int
  speakerTrim : Int
  targetMic : MicLevel
  targetSpeaker : SpeakerLevel
  sentMic : Option MicLevel
  sentSpeaker : Option SpeakerLevel
  frozen : Bool
  defaultRole : RoleId
  hostSet : Bool
  hostLabel : Option Text
  labelSent : Option Text
  statusSent : Option StatusKey
  refusal : Option RefusalCode
deriving DecidableEq, Repr, Inhabited

/-- The record of one screen (R179, R141, R190). -/
structure ScreenRec where
  kind : Option UnitKind
  presence : Presence
  missCount : Nat
  confirmOutstanding : Bool
  confirmMark : Bool
  itemMarks : Vector Bool 16
  itemSent : Vector (Option ItemKey) 16
deriving DecidableEq, Repr

/-- A unit the part can address: a seat or a screen (R179). -/
inductive Station where
  | seat (i : SeatId)
  | screen (j : ScreenId)
deriving DecidableEq, Repr, Inhabited

/-! ## Meeting sequencer -/

/-- One attendee of a booking (R91). -/
structure Attendee where
  name : Text
  card : Option (List Byte)
  seat : Option SeatId
  role : Option RoleId
deriving DecidableEq, Repr, Inhabited

/-- The host-given fields of a booking (R91). -/
structure BookingData where
  startMin : Nat
  endMin : Nat
  title : Text
  organiser : Text
  policy : Policy
  attendees : List Attendee
deriving DecidableEq, Repr, Inhabited

/-- Where a record lies in the store: its sector and its first unit (R92, R118). -/
structure Place where
  sector : Fin 16
  unit : Nat
deriving DecidableEq, Repr, Inhabited

/-- What the engine keeps of a settled booking's latest STATE record (R118, R129). -/
structure StateNote where
  writeCount : Nat
  state : BookingState
  place : Place
deriving DecidableEq, Repr, Inhabited

/-- An entry of the booking index (R92), with the write count the engine keeps beside it (R118). -/
structure IndexEntry where
  number : Nat
  version : Nat
  startMin : Nat
  endMin : Nat
  title : Text
  attendeeCount : Nat
  state : BookingState
  place : Place
  writeCount : Nat
  stateNote : Option StateNote
deriving DecidableEq, Repr, Inhabited

/-- An attendee of the meeting roster with its bound seat and spoken total (R41, R77, R108). -/
structure RosterEntry where
  attendee : Attendee
  boundSeat : Option SeatId
  total : Nat
deriving DecidableEq, Repr, Inhabited

/-- The current meeting (R102); `policy` is the booking's own, as its roster load read it (log entry 9). -/
structure Current where
  number : Nat
  phase : Phase
  resumed : Bool
  warned : Bool
  policy : Policy
deriving DecidableEq, Repr, Inhabited

/-- The five room settings (R90). -/
structure RoomSettings where
  gap : Nat
  lobbyLead : Nat
  endWarning : Nat
  idleTime : Nat
  cardRole : RoleId
deriving DecidableEq, Repr, Inhabited

/-- The kinds of booking change (R93). -/
inductive ChangeKind where
  | book | walkIn | amend | cancel | extend | endNow
deriving DecidableEq, Repr, Inhabited

/-- The booking change in flight (R93): who asked, which booking, the new fields, whether a field was clamped,
and the settled booking that makes room (R96). -/
structure BookingChange where
  kind : ChangeKind
  tag : Byte
  number : Nat
  data : BookingData
  clamped : Bool
  evict : Option Nat
deriving DecidableEq, Repr, Inhabited

/-- What a roster load brought (R108). -/
inductive LoadResult where
  | failed
  | read (data : BookingData)
deriving DecidableEq, Repr, Inhabited

/-- The meeting sequencer (R88 to R115), less the clock. `roster` is `none` while no roster is loaded. -/
structure Sequencer where
  room : RoomSettings
  index : List IndexEntry
  lastAssigned : Nat
  roster : Option (List RosterEntry)
  current : Option Current
  resumeMark : Bool
  change : Option BookingChange
  heldLoad : Option LoadResult
  lastSettled : Option (Nat × BookingState)
deriving DecidableEq, Repr, Inhabited

/-! ## Store engine -/

/-- What a record carries beside its head (R118). -/
inductive RecordBody where
  | booking (data : BookingData)
  | state (settled : BookingState)
deriving DecidableEq, Repr, Inhabited

/-- How a programmed unit reads (R116): clean, with one bit wrong, uncorrectable (worn or poisoned), or still
erased. -/
inductive UnitHealth where
  | clean | corrected | uncorrectable | erased
deriving DecidableEq, Repr, Inhabited

/-- A record on the medium: its first unit, its head (R118), its content, and how each unit reads. `headKnown` says that
the head carries one of the two kinds and a length of that kind (R137); every record the engine programs has such a
head. -/
structure MediumRecord where
  unit : Nat
  number : Nat
  version : Nat
  writeCount : Nat
  poison : Bool
  headKnown : Bool
  body : RecordBody
  health : List UnitHealth
deriving DecidableEq, Repr, Inhabited

/-- A sector's header on the medium (R117). -/
inductive HeaderCell where
  | erased
  | valid (sequence : Nat) (corrected : Bool)
  | invalid
deriving DecidableEq, Repr, Inhabited

/-- One sector of the medium: its header and the records in it, by rising unit. -/
structure SectorMedium where
  header : HeaderCell
  records : List MediumRecord
deriving DecidableEq, Repr, Inhabited

/-- A sector's state in the sector table (R117). -/
inductive SectorState where
  | erased | opened | full | retired
deriving DecidableEq, Repr, Inhabited

/-- An entry of the sector table (R119): a sector's state and sequence number. -/
structure SectorEntry where
  state : SectorState
  sequence : Nat
deriving DecidableEq, Repr, Inhabited

/-- The states of the store engine (R120). -/
inductive EngineState where
  | scanning | idle | programming | erasing | suspended
deriving DecidableEq, Repr, Inhabited

/-- A read asked by the sequencer (R125): for a roster load, a GET_BOOKING or the EXTEND in flight. -/
inductive ReadJob where
  | roster (number : Nat)
  | getBooking (number : Nat) (tag : Byte)
  | extend (number : Nat)
deriving DecidableEq, Repr, Inhabited

/-- Whose program it is (R120): the booking change in flight, a STATE record of the sequencer, or a
compaction copy. -/
inductive Purpose where
  | change
  | settle
  | copy
deriving DecidableEq, Repr, Inhabited

/-- A record to program: `badUnits` are the units written poisoned and `poison` is the poison mark of its head
(R131), `writeCount` is `none` until the engine gives it (R118), `retry` marks the second attempt (R122), and
`waits` says that the program has looked for room and waits for it (R121, R132). -/
structure ProgramJob where
  purpose : Purpose
  number : Nat
  version : Nat
  body : RecordBody
  writeCount : Option Nat
  badUnits : List Nat
  poison : Bool
  retry : Bool
  waits : Bool
deriving DecidableEq, Repr, Inhabited

/-- The program in progress (R120, R121): the job, its write count and the place its record goes. Where a sector is
being opened, `header` is the sequence number of the header, and the header is what is being programmed; the
record's own program follows it. -/
structure Programming where
  job : ProgramJob
  writeCount : Nat
  place : Place
  header : Option Nat
deriving DecidableEq, Repr, Inhabited

/-- The compaction pass in progress (R130): its victim, the units it has copied out of it, the units reclaimed
as its erase begins (R132; log entry 14), and the tag of the COMPACT waiting for it (R133). -/
structure Pass where
  victim : Fin 16
  copied : Nat
  reclaimed : Nat
  tag : Option Byte
deriving DecidableEq, Repr, Inhabited

/-- The outcomes that a STORE notice carries (R134). -/
inductive StoreOutcome where
  | ok | storeFull | storeFault | storeHalted
deriving DecidableEq, Repr, Inhabited

/-- The store engine (R116 to R140). `medium` is the nonvolatile store; everything else is RAM. `orphan` is a
program that a RESTART found in progress (R140). -/
structure Store where
  medium : Vector SectorMedium 16
  table : List SectorEntry
  nextFree : Nat
  engine : EngineState
  active : Option Programming
  orphan : Option Programming
  reads : List ReadJob
  programs : List ProgramJob
  pass : Option Pass
  latch : Bool
  corrected : Nat
  lastOutcome : StoreOutcome
  nextWrite : Nat
deriving DecidableEq, Repr

/-! ## Seat lines -/

/-- The states of a line (R155, R156). -/
inductive LineState where
  | off | asleep | waking | enumerating | running | fault
deriving DecidableEq, Repr, Inhabited

/-- The kinds of order (R190). -/
inductive OrderKind where
  | confirm | speaker | mic | gain | status | label
  | item (i : ItemId)
deriving DecidableEq, Repr, Inhabited

/-- Which part of an order is on the line (R196). -/
inductive Segment where
  | whole | first | second
deriving DecidableEq, Repr, Inhabited

/-- What an order carries (R63 to R65, R142, R188). -/
inductive OrderContent where
  | confirm
  | speaker (level : SpeakerLevel)
  | mic (level : MicLevel)
  | gain (halves : Nat)
  | status (key : StatusKey) (number : Nat)
  | label (text : Text)
  | item (i : ItemId) (key : ItemKey) (seconds : Nat)
deriving DecidableEq, Repr, Inhabited

/-- An exchange of a line engine (R159): its addressee and what the outcome is handed to. -/
inductive Exchange where
  | poll (addr : Nat) (probe : Bool)
  | fetch (seat : SeatId)
  | order (station : Station) (content : OrderContent) (segment : Segment)
  | unassign
  | sleep
  | assign (position : Nat)
  | confirmPoll (position : Nat)
  | screenPoll (addr : Nat)
deriving DecidableEq, Repr, Inhabited

/-- What a line engine is doing: nothing, a wake pulse and delimiter (R166), an exchange, the resync gap after
an exchange abandoned by a bit error (R163), or a FAULT retry (R171). -/
inductive Activity where
  | none
  | wake
  | exchange (x : Exchange)
  | gap (x : Exchange)
  | retry
deriving DecidableEq, Repr, Inhabited

/-- The six failure counters of a line (R155). -/
structure LineCounters where
  noResponse : Nat
  incomplete : Nat
  badCheck : Nat
  orderMismatch : Nat
  bitError : Nat
  faults : Nat
deriving DecidableEq, Repr, Inhabited

/-- The failure kinds of an exchange (R162). -/
inductive FailureKind where
  | noResponse | incomplete | badCheck | orderMismatch
deriving DecidableEq, Repr, Inhabited

/-- The poll round (R186, R192): its number, whether it has begun, whether it is probing, and the last
addresses polled and probed in it. -/
structure Round where
  number : Nat
  begun : Bool
  probing : Bool
  lastPolled : Nat
  lastProbed : Nat
deriving DecidableEq, Repr, Inhabited

/-- Where an enumeration stands (R172 to R174): UNASSIGNs sent, the position being given, ASSIGNs sent for it,
whether the last of them got NO_RESPONSE, polls made of the position or screen, the kinds found by
position, and the screen addresses found. -/
structure EnumState where
  unassigns : Nat
  position : Nat
  assigns : Nat
  noResponse : Bool
  polls : Nat
  kinds : List UnitKind
  screens : List Nat
deriving DecidableEq, Repr, Inhabited

/-- What a line reports at the end of its enumeration or at its FAULT: its state and what it found (R175, R177). -/
structure LineReport where
  state : LineState
  seatsFound : Nat
  screensFound : List Nat
deriving DecidableEq, Repr, Inhabited

/-- One line engine with its line (R155), its round (R186), its arbiter (R193, R194) and its exchange. `begun` is yes
once the engine, having waited for a low line, drives (R165); `second` is the second segment that is due (R196);
`sleepDue` says that R168 has called for sleep; `rescans` are the tags of the RESCANs in progress, in the order they
were taken (R176; log entry 22); `reportOwed` that START waits for the line (R175); `reported` is what the line reported
to START (R175, R212). -/
structure Line where
  enabled : Bool
  bitRate : Nat
  wakeDelimiter : Nat
  state : LineState
  cause : Option FaultCause
  enumOwed : Bool
  seatsFound : Nat
  screensFound : List Nat
  consecutive : Nat
  idle : Nat
  minuteLast : Option Nat
  counters : LineCounters
  round : Round
  others : Nat
  urgentPtr : Option Nat
  fetchPtr : Option Nat
  bulkPtr : Option Nat
  activity : Activity
  begun : Bool
  second : Option (ScreenId × OrderContent)
  enumeration : EnumState
  sleepDue : Bool
  rescans : List Byte
  reportOwed : Bool
  reported : Option LineReport
deriving DecidableEq, Repr, Inhabited

/-! ## Host link -/

/-- A host frame less its sync, length and check (R199). -/
structure Frame where
  kind : Byte
  tag : Byte
  payload : List Byte
deriving DecidableEq, Repr, Inhabited

/-- What a frame going out is (R206, R213). -/
inductive FrameClass where
  | reply | restartReply | reject | notice
deriving DecidableEq, Repr, Inhabited

/-- A frame going out. -/
structure OutFrame where
  cls : FrameClass
  frame : Frame
deriving DecidableEq, Repr, Inhabited

/-- The receiver (R200): HUNTING, or RECEIVING with the bytes taken since the sync byte. -/
inductive Receiver where
  | hunting
  | receiving (bytes : List Byte)
deriving DecidableEq, Repr, Inhabited

/-- Why the HALTED latch was set (R134). -/
inductive HaltCause where
  | verify | tooFewSectors | counter
deriving DecidableEq, Repr, Inhabited

/-- Kind and subject of a fault (R134, R209). -/
inductive FaultNote where
  | lineFault (line : LineId) (cause : FaultCause)
  | storeRetire (sector : Nat)
  | storeHalted (cause : HaltCause)
  | damagedBooking (number : Nat)
deriving DecidableEq, Repr, Inhabited

/-- The enable flags of the seven notice kinds (R207). -/
structure NoticeFlags where
  fault : Bool
  meeting : Bool
  floor : Bool
  seat : Bool
  speech : Bool
  store : Bool
  log : Bool
deriving DecidableEq, Repr, Inhabited

/-- The notice table's marks and pending sets (R207); the sets are kept by rising unit number. -/
structure NoticeMarks where
  fault : Bool
  meeting : Bool
  floor : Bool
  seats : List Nat
  speeches : List Nat
  store : Bool
  log : Bool
deriving DecidableEq, Repr, Inhabited

/-- The host link (R198 to R216). `startTag` is the start-in-flight mark with the tag of its START (R211). -/
structure HostLink where
  receiver : Receiver
  queue : List Frame
  outstanding : Nat
  awaitingReset : Bool
  waiting : List OutFrame
  onLine : Option OutFrame
  lostRejects : Nat
  enables : NoticeFlags
  marks : NoticeMarks
  closeCount : Nat
  lastClose : Option (SeatId × CloseReason)
  faultNote : Option FaultNote
  faultCount : Nat
  run : Bool
  startTag : Option Byte
deriving DecidableEq, Repr, Inhabited

/-! ## The part -/

/-- The state of the part. `powered` is no between a power loss and the next power-on (R140, R214);
`rate` is the host-line rate read from the straps (R198); `clock` is `none` while UNSET (R88); `pending`
is the queue of the commands that wait, first in first out. -/
structure State where
  powered : Bool
  rate : Nat
  clock : Option Nat
  floor : Floor
  log : SpeechLog
  masters : Masters
  roles : RoleUnit
  seats : Vector SeatRec 64
  screens : Vector ScreenRec 4
  seq : Sequencer
  store : Store
  lineA : Line
  lineB : Line
  link : HostLink
  pending : List Instr
deriving DecidableEq, Repr

/-- Why the part stops with a fault. The manual gives every command and event an effect in every state it can
arise in, so the model raises none (log entry 2); the type is empty. -/
inductive Fault where
deriving DecidableEq, Repr

/-- Why a command is refused. `notModelled` is what a command without a meaning would answer, and is safe;
every command has its meaning, so none answers with it. -/
inductive Refusal where
  | notModelled (mnemonic : String)
deriving DecidableEq, Repr

/-! ## After power-on -/

/-- Characters of a text known at writing. -/
def textOf (codes : List Nat) : Text := codes.map (BitVec.ofNat 8)

/-- The floor after power-on (R1). -/
def Floor.initial : Floor where
  isOpen := false
  speakers := []
  requests := []
  policy := Policy.walkIn
  holders := []
  muting := false
  arrivalCounter := 0
  speechCount := 0

/-- The master inputs after power-on (R53). -/
def Masters.initial : Masters where
  mic := 36
  attenuation := true
  base := 24
  duck1 := 24
  duck2 := 12
  slew := 6

/-- The role definitions after power-on (R71): DELEGATE, CHAIR, GUEST, LISTENER, ROLE4 to ROLE7. -/
def RoleDef.initial (n : Nat) : RoleDef :=
  match n with
  | 0 => ⟨textOf [68, 69, 76, 69, 71, 65, 84, 69], 1, true, true, false, 0⟩
  | 1 => ⟨textOf [67, 72, 65, 73, 82], 3, true, true, true, 6⟩
  | 2 => ⟨textOf [71, 85, 69, 83, 84], 0, true, true, false, 0⟩
  | 3 => ⟨textOf [76, 73, 83, 84, 69, 78, 69, 82], 0, false, false, false, 0⟩
  | n => ⟨textOf [82, 79, 76, 69, 48 + n], 0, false, false, false, 0⟩

/-- A filter entry after power-on (R74). -/
def FilterEntry.initial : FilterEntry where
  enabled := false
  value := List.replicate 8 0
  mask := List.replicate 8 0
  lengthRule := none
  role := 0

/-- The role unit after power-on (R71, R74). -/
def RoleUnit.initial : RoleUnit where
  defs := Vector.ofFn fun i => RoleDef.initial i.val
  filters := Vector.replicate 16 FilterEntry.initial

/-- A card part with no card (R77). -/
def CardPart.empty : CardPart where
  state := .none
  identity := none
  role := none
  attendee := none
  unreadable := false

/-- An empty pending set of a seat (R179). -/
def SeatPending.empty : SeatPending := ⟨false, false, false, false, false, false⟩

/-- A seat record after power-on (R53, R73, R77, R141, R179). -/
def SeatRec.initial : SeatRec where
  kind := none
  presence := .absent
  missCount := 0
  heldMic := none
  heldNext := none
  heldCard := none
  heldPriority := false
  confirmOutstanding := false
  fetchMark := false
  marks := SeatPending.empty
  card := CardPart.empty
  micTrim := 0
  speakerTrim := 0
  targetMic := .off
  targetSpeaker := .code 24
  sentMic := none
  sentSpeaker := none
  frozen := true
  defaultRole := 0
  hostSet := false
  hostLabel := none
  labelSent := none
  statusSent := none
  refusal := none

/-- A screen record after power-on (R141, R179). -/
def ScreenRec.initial : ScreenRec where
  kind := none
  presence := .absent
  missCount := 0
  confirmOutstanding := false
  confirmMark := false
  itemMarks := Vector.replicate 16 false
  itemSent := Vector.replicate 16 none

/-- The room settings after power-on (R90). -/
def RoomSettings.initial : RoomSettings where
  gap := 5
  lobbyLead := 10
  endWarning := 5
  idleTime := 15
  cardRole := 2

/-- The sequencer after power-on (R92, R102, R110, R115). -/
def Sequencer.initial : Sequencer where
  room := RoomSettings.initial
  index := []
  lastAssigned := 0
  roster := none
  current := none
  resumeMark := true
  change := none
  heldLoad := none
  lastSettled := none

/-- A sector whose every unit is erased (R117). -/
def SectorMedium.blank : SectorMedium := ⟨.erased, []⟩

/-- The store engine after power-on over the given medium (R116, R119, R120, R127, R134). -/
def Store.initial (medium : Vector SectorMedium 16) : Store where
  medium := medium
  table := []
  nextFree := 0
  engine := .scanning
  active := none
  orphan := none
  reads := []
  programs := []
  pass := none
  latch := false
  corrected := 0
  lastOutcome := .ok
  nextWrite := 0

/-- Failure counters at 0 (R155). -/
def LineCounters.zero : LineCounters := ⟨0, 0, 0, 0, 0, 0⟩

/-- The round before the first round after the line enters RUNNING (R186). -/
def Round.initial : Round := ⟨0, false, true, 0, 0⟩

/-- An enumeration before its first UNASSIGN (R172). -/
def EnumState.initial : EnumState := ⟨0, 1, 0, false, 0, [], []⟩

/-- A line after power-on (R155, R186, R194). -/
def Line.initial : Line where
  enabled := true
  bitRate := 250000
  wakeDelimiter := 4
  state := .off
  cause := none
  enumOwed := false
  seatsFound := 0
  screensFound := []
  consecutive := 0
  idle := 0
  minuteLast := none
  counters := LineCounters.zero
  round := Round.initial
  others := 0
  urgentPtr := none
  fetchPtr := none
  bulkPtr := none
  activity := .none
  begun := false
  second := none
  enumeration := EnumState.initial
  sleepDue := false
  rescans := []
  reportOwed := false
  reported := none

/-- The host link after power-on (R214). -/
def HostLink.initial : HostLink where
  receiver := .hunting
  queue := []
  outstanding := 0
  awaitingReset := false
  waiting := []
  onLine := none
  lostRejects := 0
  enables := ⟨true, true, true, true, true, true, true⟩
  marks := ⟨false, false, false, [], [], false, false⟩
  closeCount := 0
  lastClose := none
  faultNote := none
  faultCount := 0
  run := false
  startTag := none

/-- The machine right after power-on, with the start-up scan begun (R214), both straps low (log entry 6)
and a store in which every unit is erased (log entry 7). -/
def State.reset : State where
  powered := true
  rate := 19200
  clock := none
  floor := Floor.initial
  log := ⟨[], 0⟩
  masters := Masters.initial
  roles := RoleUnit.initial
  seats := Vector.replicate 64 SeatRec.initial
  screens := Vector.replicate 4 ScreenRec.initial
  seq := Sequencer.initial
  store := Store.initial (Vector.replicate 16 SectorMedium.blank)
  lineA := Line.initial
  lineB := Line.initial
  link := HostLink.initial
  pending := []

end Sys2Proof.Machine
end

