-- ==== Sys2Proof/Machine/Operands.lean ====
section
/-! DEFINITION. The field forms of chapter 11: how the part reads the bytes of a request's payload and writes
those of a reply or notice (R204, R217 to R222). -/

namespace Sys2Proof.Machine

/-! ## Reading -/

/-- The byte at an offset of a payload whose length has been judged (R203). -/
def byteAt (p : List Byte) (i : Nat) : Byte := p.getD i 0

/-- A number of one byte (R217). -/
def num1 (p : List Byte) (i : Nat) : Nat := (byteAt p i).toNat

/-- A number of two bytes, low byte first (R217). -/
def num2 (p : List Byte) (i : Nat) : Nat := num1 p i + 256 * num1 p (i + 1)

/-- A number of four bytes, low byte first (R217). -/
def num4 (p : List Byte) (i : Nat) : Nat := num2 p i + 65536 * num2 p (i + 2)

/-- A signed number of one byte, two's complement (R217). -/
def signedAt (p : List Byte) (i : Nat) : Int := (byteAt p i).toInt

/-- A yes/no field: any byte but 0x00 and 0x01 is BAD_VALUE (R217). -/
def yesNo (b : Byte) : Option Bool :=
  if b = 0 then some false else if b = 1 then some true else none

/-- A seat field: 0 to 63 (R217). -/
def seatOf (b : Byte) : Option SeatId :=
  if h : b.toNat < 64 then some ⟨b.toNat, h⟩ else none

/-- A unit field: 0 to 63 for a seat and 64 to 67 for a screen (R217). -/
def stationOf (b : Byte) : Option Station :=
  if h : b.toNat < 64 then some (.seat ⟨b.toNat, h⟩)
  else if h : b.toNat - 64 < 4 then some (.screen ⟨b.toNat - 64, h⟩)
  else none

/-- A line field: DEDUCED (log entry 8), 0 for A and 1 for B. -/
def lineOf (b : Byte) : Option LineId :=
  if b = 0 then some .a else if b = 1 then some .b else none

/-- A role number, 0 to 7 (R71). -/
def roleOf (b : Byte) : Option RoleId :=
  if h : b.toNat < 8 then some ⟨b.toNat, h⟩ else none

/-- An optional role: 0xFF is absent (R217, R220). -/
def optionalRole (b : Byte) : Option (Option RoleId) :=
  if b = 0xFF then some none else (roleOf b).map some

/-- An optional seat: 0xFF is absent (R217, R220). -/
def optionalSeat (b : Byte) : Option (Option SeatId) :=
  if b = 0xFF then some none else (seatOf b).map some

/-- A filter entry number, 0 to 15 (R74). -/
def filterOf (b : Byte) : Option (Fin 16) :=
  if h : b.toNat < 16 then some ⟨b.toNat, h⟩ else none

/-- A length rule: an exact length from 4 to 16, or ANY; DEDUCED (log entry 8), ANY is read as an absent
byte, 0xFF. -/
def lengthRuleOf (b : Byte) : Option (Option Nat) :=
  if b = 0xFF then some none
  else if 4 ≤ b.toNat ∧ b.toNat ≤ 16 then some (some b.toNat)
  else none

/-- The text rule: a byte outside 0x20 to 0x7E is stored as 0x3F (R204). -/
def storedChar (b : Byte) : Byte := if 0x20 ≤ b ∧ b ≤ 0x7E then b else 0x3F

/-- A text field of width `width`: a length byte, then the characters, cut at the width (R204, R217). -/
def textAt (p : List Byte) (i width : Nat) : Text :=
  ((p.drop (i + 1)).take (min (num1 p i) width)).map storedChar

/-- An identity field of width 16: length 0 is absent, 4 to 16 is read, any other is BAD_VALUE (R217). -/
def identityAt (p : List Byte) (i : Nat) : Option (Option (List Byte)) :=
  let n := num1 p i
  if n = 0 then some none
  else if 4 ≤ n ∧ n ≤ 16 then some (some ((p.drop (i + 1)).take n))
  else none

/-- A floor mode (R218). -/
def modeOf (b : Byte) : Option FloorMode :=
  if b = 0 then some .openMode else if b = 1 then some .requestMode else none

/-- A full action (R218). -/
def fullActionOf (b : Byte) : Option FullAction :=
  if b = 0 then some .refuse else if b = 1 then some .queue
  else if b = 2 then some .replaceOldest else none

/-- An at-limit action (R218). -/
def limitActionOf (b : Byte) : Option LimitAction :=
  if b = 0 then some .warn else if b = 1 then some .close else none

/-- A priority action (R218). -/
def priorityActionOf (b : Byte) : Option PriorityAction :=
  if b = 0 then some .mute else if b = 1 then some .cancel else none

/-- The floor policy block of 14 bytes, its numbers as given (R220). -/
def policyAt (p : List Byte) (i : Nat) : Option Policy := do
  let mode ← modeOf (byteAt p i)
  let fullAction ← fullActionOf (byteAt p (i + 2))
  let autoAdvance ← yesNo (byteAt p (i + 3))
  let ownClose ← yesNo (byteAt p (i + 4))
  let atLimit ← limitActionOf (byteAt p (i + 8))
  let cardsRequired ← yesNo (byteAt p (i + 11))
  let closedList ← yesNo (byteAt p (i + 12))
  let priorityAction ← priorityActionOf (byteAt p (i + 13))
  return {
    mode := mode, smax := num1 p (i + 1), fullAction := fullAction, autoAdvance := autoAdvance,
    ownClose := ownClose, speechLimit := num2 p (i + 5), warningLead := num1 p (i + 7),
    atLimit := atLimit, allowance := num2 p (i + 9), cardsRequired := cardsRequired,
    closedList := closedList, priorityAction := priorityAction }

/-- A number brought into a range. -/
def clampTo (lo hi n : Nat) : Nat := if n < lo then lo else if hi < n then hi else n

/-- A quantity for which 0 means "none", any other being brought into a range (R31). -/
def clampOrNone (lo hi n : Nat) : Nat := if n = 0 then 0 else clampTo lo hi n

/-- The numeric fields of a policy brought into their ranges (R31). -/
def clampPolicy (p : Policy) : Policy :=
  { p with
    smax := clampTo 1 6 p.smax
    speechLimit := clampOrNone 30 3600 p.speechLimit
    warningLead := clampTo 0 120 p.warningLead
    allowance := clampOrNone 60 7200 p.allowance }

/-- An attendee entry of 44 bytes; `none` where a field is BAD_VALUE (R91, R220, R221). -/
def attendeeAt (p : List Byte) (i : Nat) : Option Attendee := do
  let name := textAt p i 24
  let card ← identityAt p (i + 25)
  let seat ← optionalSeat (byteAt p (i + 42))
  let role ← optionalRole (byteAt p (i + 43))
  if name = [] then none else return { name := name, card := card, seat := seat, role := role }

/-- The attendee entries from an offset, in booking order (R220). -/
def attendeesAt (p : List Byte) (i : Nat) : Nat → Option (List Attendee)
  | 0 => some []
  | n + 1 => do
    let a ← attendeeAt p i
    let rest ← attendeesAt p (i + 44) n
    return a :: rest

/-- The fields of a BOOK payload that starts at an offset; `none` where R91 answers BAD_VALUE. -/
def bookingAt (p : List Byte) (i : Nat) : Option BookingData := do
  let title := textAt p (i + 8) 40
  let policy ← policyAt p (i + 74)
  let count := num1 p (i + 88)
  let attendees ← if count ≤ 24 then attendeesAt p (i + 89) count else none
  if title = [] ∨ ¬ (attendees.filterMap (·.card)).Nodup
      ∨ ¬ (attendees.filterMap (·.seat)).Nodup then none
  else return {
    startMin := num4 p i, endMin := num4 p (i + 4), title := title,
    organiser := textAt p (i + 49) 24, policy := policy, attendees := attendees }

/-! ## Writing -/

/-- A number of one byte (R217). -/
def put1 (n : Nat) : List Byte := [BitVec.ofNat 8 n]

/-- A number of two bytes, low byte first (R217). -/
def put2 (n : Nat) : List Byte := put1 n ++ put1 (n / 256)

/-- A number of four bytes, low byte first (R217). -/
def put4 (n : Nat) : List Byte := put2 n ++ put2 (n / 65536)

/-- A signed number (R217). -/
def putSigned (n : Int) : List Byte := [BitVec.ofInt 8 n]

/-- A yes/no field (R217). -/
def putYesNo (b : Bool) : List Byte := [if b then 1 else 0]

/-- An optional byte: 0xFF when absent (R217). -/
def putOptional : Option Nat → List Byte
  | none => [0xFF]
  | some n => put1 n

/-- A text field of a width (R217). -/
def putText (width : Nat) (t : Text) : List Byte :=
  put1 t.length ++ t ++ List.replicate (width - t.length) 0

/-- An identity field of width 16 (R217). -/
def putIdentity : Option (List Byte) → List Byte
  | none => List.replicate 17 0
  | some c => put1 c.length ++ c ++ List.replicate (16 - c.length) 0

/-- A unit field (R217, R207). -/
def stationNumber : Station → Nat
  | .seat i => i.val
  | .screen j => 64 + j.val

/-- A result's number (R218). -/
def resultNumber : Result → Nat
  | .ok => 0 | .okClamped => 1 | .unknownKind => 2 | .badLength => 3 | .badValue => 4
  | .wrongState => 5 | .busy => 6 | .full => 7 | .absent => 8 | .notPermitted => 9
  | .conflict => 10 | .noTime => 11 | .notFound => 12 | .locked => 13 | .notReady => 14
  | .tooLate => 15 | .storeFull => 16 | .storeFault => 17 | .storeHalted => 18

/-- A REJECT reason's number (R218). -/
def rejectNumber : RejectReason → Nat
  | .truncated => 0 | .badLength => 1 | .badCheck => 2 | .full => 3

/-- A close reason's number (R218). -/
def closeNumber : CloseReason → Nat
  | .own => 0 | .chair => 1 | .host => 2 | .replaced => 3 | .priority => 4 | .clear => 5
  | .limit => 6 | .timeUp => 7 | .allowance => 8 | .lost => 9 | .cardOut => 10 | .role => 11
  | .meetingEnd => 12

/-- A booking state's number (R218). -/
def bookingNumber : BookingState → Nat
  | .pending => 0 | .lobby => 1 | .inSession => 2 | .done => 3 | .missed => 4 | .cancelled => 5
  | .damaged => 6

/-- A presence's number (R218). -/
def presenceNumber : Presence → Nat
  | .absent => 0 | .present => 1 | .silent => 2 | .lost => 3

/-- A unit kind's number in host frames (R218). -/
def kindNumber : UnitKind → Nat
  | .delegate => 0 | .chair => 1 | .screen => 2

/-- A card state's number (R218). -/
def cardNumber : CardState → Nat
  | .none => 0 | .reading => 1 | .held => 2 | .bound => 3 | .unlisted => 4 | .duplicate => 5

/-- A mode's number (R218). -/
def modeNumber : FloorMode → Nat
  | .openMode => 0 | .requestMode => 1

/-- A full action's number (R218). -/
def fullActionNumber : FullAction → Nat
  | .refuse => 0 | .queue => 1 | .replaceOldest => 2

/-- An at-limit action's number (R218). -/
def limitActionNumber : LimitAction → Nat
  | .warn => 0 | .close => 1

/-- A priority action's number (R218). -/
def priorityActionNumber : PriorityAction → Nat
  | .mute => 0 | .cancel => 1

/-- The outcome of a STORE notice, as the result of the same name (R134, R218). -/
def storeOutcomeResult : StoreOutcome → Result
  | .ok => .ok | .storeFull => .storeFull | .storeFault => .storeFault
  | .storeHalted => .storeHalted

/-- The floor policy block of 14 bytes (R220). -/
def putPolicy (p : Policy) : List Byte :=
  put1 (modeNumber p.mode) ++ put1 p.smax ++ put1 (fullActionNumber p.fullAction)
    ++ putYesNo p.autoAdvance ++ putYesNo p.ownClose ++ put2 p.speechLimit ++ put1 p.warningLead
    ++ put1 (limitActionNumber p.atLimit) ++ put2 p.allowance ++ putYesNo p.cardsRequired
    ++ putYesNo p.closedList ++ put1 (priorityActionNumber p.priorityAction)

/-- An attendee entry of 44 bytes (R220). -/
def putAttendee (a : Attendee) : List Byte :=
  putText 24 a.name ++ putIdentity a.card ++ putOptional (a.seat.map (·.val))
    ++ putOptional (a.role.map (·.val))

/-- The fixed part of a BOOK payload (R220), with the attendee count given. -/
def putBookingHead (b : BookingData) : List Byte :=
  put4 b.startMin ++ put4 b.endMin ++ putText 40 b.title ++ putText 24 b.organiser
    ++ putPolicy b.policy ++ put1 b.attendees.length

/-- A whole BOOK payload (R220). -/
def putBooking (b : BookingData) : List Byte :=
  putBookingHead b ++ b.attendees.flatMap putAttendee

end Sys2Proof.Machine
end

