-- ==== Sys2Proof/Machine/Flags.lean ====
section
/-! DEFINITION. Checks and flag bytes: the frame check (R201), the check byte, header and code of a line
message (R158, R223), the judgement of a unit's answer (R161, R162, R224), and the flag bytes of R222. -/

namespace Sys2Proof.Machine

/-! ## The host frame -/

/-- One bit of the frame check (R201). -/
def crcBit (c : BitVec 16) : BitVec 16 :=
  if c.msb then (c <<< 1) ^^^ 0x1021 else c <<< 1

/-- One byte of the frame check, its highest bit first (R201). -/
def crcByte (c : BitVec 16) (b : Byte) : BitVec 16 :=
  crcBit (crcBit (crcBit (crcBit (crcBit (crcBit (crcBit (crcBit
    (c ^^^ (b.setWidth 16 <<< 8)))))))))

/-- The frame check over the bytes given (R201). -/
def crc (bytes : List Byte) : BitVec 16 := bytes.foldl crcByte 0xFFFF

/-- The bytes of a frame after its sync byte, up to the check (R199). -/
def frameBody (f : Frame) : List Byte :=
  put2 (f.payload.length + 2) ++ [f.kind, f.tag] ++ f.payload

/-- The check of a frame, high byte first (R201). -/
def frameCheck (body : List Byte) : List Byte :=
  [((crc body) >>> 8).setWidth 8, (crc body).setWidth 8]

/-- A whole host frame as it goes over the line (R199, R218). -/
def frameBytes (f : Frame) : List Byte := 0xA5 :: (frameBody f ++ frameCheck (frameBody f))

/-! ## The line message -/

/-- The types of exchange in a header, bits 6 and 7 (R223). -/
inductive ExchangeType where
  | poll | order | fetch | assign
deriving DecidableEq, Repr

/-- A header's 8 data bits: the line address in bits 0 to 5, the type in bits 6 and 7 (R223). -/
def headerByte (t : ExchangeType) (addr : Nat) : Byte :=
  BitVec.ofNat 8 addr ||| (match t with | .poll => 0x00 | .order => 0x40 | .fetch => 0x80 | .assign => 0xC0)

/-- The check byte: every bit of the sum, modulo 256, inverted (R158). -/
def lineCheck (bytes : List Byte) : Byte := ~~~ (bytes.foldl (· + ·) 0)

/-- A controller message less its check byte (R158). -/
def messageBody (header code : Byte) (data : List Byte) : List Byte :=
  header :: code :: BitVec.ofNat 8 data.length :: data

/-- A controller message (R158). -/
def messageBytes (header code : Byte) (data : List Byte) : List Byte :=
  messageBody header code data ++ [lineCheck (messageBody header code data)]

/-- The code byte of an order kind (R223). -/
def orderCode (content : OrderContent) (segment : Segment) : Byte :=
  match content with
  | .confirm => 0x01
  | .speaker _ => 0x02
  | .mic _ => 0x03
  | .gain _ => 0x04
  | .status _ _ => 0x05
  | .label _ => 0x06
  | .item i _ _ =>
    match segment with
    | .whole => BitVec.ofNat 8 (0x20 + i.val)
    | .first => BitVec.ofNat 8 (0x40 + i.val)
    | .second => BitVec.ofNat 8 (0x60 + i.val)

/-- The kind byte of a poll or ASSIGN answer (R223, R224). -/
def answerKind (b : Byte) : Option UnitKind :=
  if b = 0x01 then some .delegate else if b = 0x02 then some .chair
  else if b = 0x03 then some .screen else none

/-! ## The answer -/

/-- The time allowed for a whole answer of `n` characters, in bit times (R161). -/
def answerBound (n : Nat) : Nat := 24 + 14 * n

/-- A character that ended within the bound, without framing error and with marker 0 (R162). -/
def charGood (bound : Nat) (c : AnswerChar) : Bool :=
  decide (c.endsAt ≤ bound) && !c.framingError && !c.marker

/-- Whether an answer began in time (R161). -/
def answerBegan (a : LineAnswer) : Bool :=
  match a.startAt with
  | none => false
  | some t => decide (t ≤ 24)

/-- The data of the first `n` characters, if all of them came and were good within the bound given (R162).
Characters beyond the n-th are not taken (R161). -/
def takeAnswer (a : LineAnswer) (n bound : Nat) : Except FailureKind (List Byte) :=
  if answerBegan a = false then .error .noResponse
  else if n ≤ a.chars.length ∧ (a.chars.take n).all (charGood bound) then
    .ok ((a.chars.take n).map (·.data))
  else .error .incomplete

/-- The fields of a poll answer (R181, R223). -/
structure PollFields where
  mic : Nat
  next : Nat
  card : Nat
  cardPresent : Bool
  priority : Bool
  fresh : Bool
  kind : UnitKind
deriving DecidableEq, Repr

/-- The fields of the four poll answer bytes (R223). -/
def pollFields (b0 b1 : Byte) (kind : UnitKind) : PollFields where
  mic := b0.toNat % 4
  next := b0.toNat / 4 % 4
  card := b0.toNat / 16 % 4
  cardPresent := b0.getLsbD 6
  priority := b0.getLsbD 7
  fresh := b1.getLsbD 0
  kind := kind

/-- Whether a kind fits a line address (R162): a screen at 48 and 49, a seat kind elsewhere. -/
def kindFits (addr : Nat) (kind : UnitKind) : Bool :=
  if addr = 48 ∨ addr = 49 then decide (kind = .screen) else decide (kind ≠ .screen)

/-- The judgement of a POLL answer (R159, R162, R224). -/
def judgePoll (addr : Nat) (a : LineAnswer) : Except FailureKind PollFields :=
  match takeAnswer a 5 (answerBound 5) with
  | .error e => .error e
  | .ok bytes =>
    if lineCheck (headerByte .poll addr :: bytes.take 4) = byteAt bytes 4 then
      match answerKind (byteAt bytes 2) with
      | some k =>
        if kindFits addr k then .ok (pollFields (byteAt bytes 0) (byteAt bytes 1) k)
        else .error .badCheck
      | none => .error .badCheck
    else .error .badCheck

/-- The judgement of a FETCH answer, the identity bytes when clean (R159, R161, R162). A length byte above
24 is BAD_CHECK (log entry 10). -/
def judgeFetch (addr : Nat) (a : LineAnswer) : Except FailureKind (List Byte) :=
  match takeAnswer a 1 (answerBound 26) with
  | .error e => .error e
  | .ok lengthByte =>
    let n := num1 lengthByte 0
    if 24 < n then .error .badCheck
    else
      match takeAnswer a (n + 2) (answerBound 26) with
      | .error e => .error e
      | .ok bytes =>
        if lineCheck (headerByte .fetch addr :: bytes.take (n + 1)) = byteAt bytes (n + 1) then
          .ok ((bytes.drop 1).take n)
        else .error .badCheck

/-- The judgement of an ORDER's echo against the check byte the controller computed (R159, R162). -/
def judgeOrder (check : Byte) (a : LineAnswer) : Except FailureKind Unit :=
  match takeAnswer a 1 (answerBound 1) with
  | .error e => .error e
  | .ok bytes => if byteAt bytes 0 = check then .ok () else .error .orderMismatch

/-- The judgement of an ASSIGN answer: the kind, then the check over the ASSIGN with the kind byte added into
the sum (R159, R162, R224). -/
def judgeAssign (position : Nat) (a : LineAnswer) : Except FailureKind UnitKind :=
  match takeAnswer a 2 (answerBound 2) with
  | .error e => .error e
  | .ok bytes =>
    match answerKind (byteAt bytes 0) with
    | none => .error .badCheck
    | some .screen => .error .badCheck
    | some k =>
      if byteAt bytes 1 =
          lineCheck (messageBody (headerByte .assign 63) (BitVec.ofNat 8 position) []
            ++ [byteAt bytes 0]) then .ok k
      else .error .orderMismatch

/-! ## Flag bytes -/

/-- A flag byte: yes in the bits named, 0 in the others (R217). -/
def flagByte (bits : List Bool) : List Byte :=
  put1 (bits.foldr (fun b n => (if b then 1 else 0) + 2 * n) 0)

/-- The flag byte of a speaker entry (R222). -/
def speakerFlags (e : SpeakerEntry) : List Byte :=
  flagByte [e.muted, e.wasMuted, e.chairClass, e.warned, e.overran]

/-- The flag byte of a log record (R222). -/
def recordFlags (r : LogRecord) : List Byte := flagByte [r.overran, r.wasMuted]

end Sys2Proof.Machine
end

