-- ==== Sys2Proof/Machine/Ops.lean ====
section
/-! DEFINITION. The named operations over the blocks of State that every family shares: reading and writing a
block, a seat, a screen or a line; the notice marks; replies and REJECTs; the booking index; and handing
reads and programs to the store engine. -/

namespace Sys2Proof.Machine

/-! ## Blocks -/

/-- Write the room clock. -/
def State.setClock (s : State) (c : Option Nat) : State := { s with clock := c }
/-- Write the floor. -/
def State.setFloor (s : State) (f : Floor) : State := { s with floor := f }
/-- Write the speech log. -/
def State.setLog (s : State) (l : SpeechLog) : State := { s with log := l }
/-- Write the master inputs. -/
def State.setMasters (s : State) (m : Masters) : State := { s with masters := m }
/-- Write the role unit. -/
def State.setRoles (s : State) (r : RoleUnit) : State := { s with roles := r }
/-- Write all seat records. -/
def State.setSeats (s : State) (v : Vector SeatRec 64) : State := { s with seats := v }
/-- Write all screen records. -/
def State.setScreens (s : State) (v : Vector ScreenRec 4) : State := { s with screens := v }
/-- Write the sequencer. -/
def State.setSeq (s : State) (q : Sequencer) : State := { s with seq := q }
/-- Write the store engine. -/
def State.setStore (s : State) (t : Store) : State := { s with store := t }
/-- Write the host link. -/
def State.setLink (s : State) (k : HostLink) : State := { s with link := k }

/-- A line by its letter. -/
def State.line (s : State) : LineId → Line
  | .a => s.lineA
  | .b => s.lineB

/-- Write a line. -/
def State.setLine (s : State) (l : LineId) (x : Line) : State :=
  match l with
  | .a => { s with lineA := x }
  | .b => { s with lineB := x }

/-- Change a line. -/
def State.modLine (s : State) (l : LineId) (f : Line → Line) : State := s.setLine l (f (s.line l))

/-- The record of a seat. -/
def State.seat (s : State) (i : SeatId) : SeatRec := s.seats[i]

/-- Change the record of a seat. -/
def State.modSeat (s : State) (i : SeatId) (f : SeatRec → SeatRec) : State :=
  s.setSeats (s.seats.set i.val (f s.seats[i]))

/-- The record of a screen. -/
def State.screen (s : State) (j : ScreenId) : ScreenRec := s.screens[j]

/-- Change the record of a screen. -/
def State.modScreen (s : State) (j : ScreenId) (f : ScreenRec → ScreenRec) : State :=
  s.setScreens (s.screens.set j.val (f s.screens[j]))

/-! ## Seats, screens and addresses (00_scope 4.1) -/

/-- The seats in seat order, A01 to A32 and then B01 to B32. -/
def allSeats : List SeatId := List.finRange 64

/-- The screens S-A1, S-A2, S-B1, S-B2. -/
def allScreens : List ScreenId := List.finRange 4

/-- The line a seat is on. -/
def lineOfSeat (i : SeatId) : LineId := if i.val < 32 then .a else .b

/-- A seat's position, 1 to 32, which is its line address. -/
def positionOfSeat (i : SeatId) : Nat := i.val % 32 + 1

/-- The seat at a position, 1 to 32, of a line. -/
def seatAtPosition (l : LineId) (k : Nat) : SeatId :=
  match l with
  | .a => Fin.ofNat 64 ((k - 1) % 32)
  | .b => Fin.ofNat 64 (32 + (k - 1) % 32)

/-- The screen at address 48 (`false`) or 49 (`true`) of a line. -/
def screenAt (l : LineId) (second : Bool) : ScreenId :=
  match l, second with
  | .a, false => 0
  | .a, true => 1
  | .b, false => 2
  | .b, true => 3

/-- The line a screen is on. -/
def lineOfScreen (j : ScreenId) : LineId := if j.val < 2 then .a else .b

/-- The unit a line address names, if it names one: 1 to 32 a seat, 48 and 49 a screen. -/
def stationAt (l : LineId) (addr : Nat) : Option Station :=
  if 1 ≤ addr ∧ addr ≤ 32 then some (.seat (seatAtPosition l addr))
  else if addr = 48 then some (.screen (screenAt l false))
  else if addr = 49 then some (.screen (screenAt l true))
  else none

/-- The line address of a unit. -/
def addressOf : Station → Nat
  | .seat i => positionOfSeat i
  | .screen j => 48 + j.val % 2

/-- The line a unit is on. -/
def lineOfStation : Station → LineId
  | .seat i => lineOfSeat i
  | .screen j => lineOfScreen j

/-- The addresses of a line in address order, 1 to 32 and then 48 and 49 (R192). -/
def addresses : List Nat := (List.range 32).map (· + 1) ++ [48, 49]

/-- The seats of a line in position order. -/
def seatsOfLine (l : LineId) : List SeatId := allSeats.filter (fun i => decide (lineOfSeat i = l))

/-- The screens of a line in address order. -/
def screensOfLine (l : LineId) : List ScreenId :=
  allScreens.filter (fun j => decide (lineOfScreen j = l))

/-- The units of a line in address order. -/
def stationsOfLine (l : LineId) : List Station :=
  (seatsOfLine l).map Station.seat ++ (screensOfLine l).map Station.screen

/-- PRESENT or SILENT. -/
def inService (p : Presence) : Bool := p = .present || p = .silent

/-- The presence of a unit. -/
def State.presence (s : State) : Station → Presence
  | .seat i => (s.seat i).presence
  | .screen j => (s.screen j).presence

/-- The kind of a unit. -/
def State.kind (s : State) : Station → Option UnitKind
  | .seat i => (s.seat i).kind
  | .screen j => (s.screen j).kind

/-- Advance a count that stops at a limit. -/
def satAdd (limit n k : Nat) : Nat := min limit (n + k)

/-! ## Notice marks (R207) -/

/-- Change the notice marks. -/
def State.modMarks (s : State) (f : NoticeMarks → NoticeMarks) : State :=
  s.setLink { s.link with marks := f s.link.marks }

/-- A unit joins a pending set, which is kept by rising unit number (R207). -/
def insertUnit (n : Nat) : List Nat → List Nat
  | [] => [n]
  | m :: rest => if n < m then n :: m :: rest else if n = m then m :: rest else m :: insertUnit n rest

/-- Mark a FAULT notice: its kind and subject go into the FAULT record and the count advances (R209). -/
def markFault (note : FaultNote) (s : State) : State :=
  s.setLink { s.link with
    faultNote := some note
    faultCount := satAdd 255 s.link.faultCount 1
    marks := { s.link.marks with fault := true } }

/-- Mark a MEETING notice (R115). -/
def markMeeting (s : State) : State := s.modMarks fun m => { m with meeting := true }

/-- Mark a FLOOR notice (R14). -/
def markFloor (s : State) : State := s.modMarks fun m => { m with floor := true }

/-- Mark a SEAT notice for a unit (R180). -/
def markSeat (u : Station) (s : State) : State :=
  s.modMarks fun m => { m with seats := insertUnit (stationNumber u) m.seats }

/-- Mark a SPEECH notice for a seat (R47). -/
def markSpeech (i : SeatId) (s : State) : State :=
  s.modMarks fun m => { m with speeches := insertUnit i.val m.speeches }

/-- Mark a STORE notice (R134). -/
def markStore (s : State) : State := s.modMarks fun m => { m with store := true }

/-- Mark a LOG notice (R52). -/
def markLog (s : State) : State := s.modMarks fun m => { m with log := true }

/-! ## Replies and REJECTs (R203, R206, R219) -/

/-- A frame joins the waiting list. -/
def placeFrame (f : OutFrame) (s : State) : State :=
  s.setLink { s.link with waiting := s.link.waiting ++ [f] }

/-- The reply frame to a request: the kind with its highest bit set, the request's tag, the result and the
body (R219). -/
def replyFrame (kind tag : Byte) (r : Result) (body : List Byte) : Frame :=
  ⟨kind ||| 0x80, tag, put1 (resultNumber r) ++ body⟩

/-- Form the reply to a request (R203). -/
def reply (kind tag : Byte) (r : Result) (body : List Byte) (s : State) : State :=
  placeFrame ⟨.reply, replyFrame kind tag r body⟩ s

/-- OK, or OK_CLAMPED where a quantity was brought into range (R205). -/
def okOr (clamped : Bool) : Result := if clamped then .okClamped else .ok

/-- Place a REJECT, or count it as lost where 4 are waiting (R206). -/
def reject (tag : Byte) (r : RejectReason) (s : State) : State :=
  if (s.link.waiting.filter (fun f => decide (f.cls = .reject))).length < Config.maxRejects then
    placeFrame ⟨.reject, ⟨0x7F, tag, put1 (rejectNumber r)⟩⟩ s
  else s.setLink { s.link with lostRejects := satAdd 255 s.link.lostRejects 1 }

/-! ## Clock and booking index -/

/-- The current minute, absent while the clock is UNSET (R88). -/
def State.now (s : State) : Option Nat := s.clock.map (· / 60)

/-- The open stamp of this moment (R2, R8). -/
def State.stamp (s : State) : Nat := s.clock.getD 0

/-- The index entry of a booking number (R92). -/
def State.entry (s : State) (n : Nat) : Option IndexEntry := s.seq.index.find? (fun e => e.number == n)

/-- Change the index entry of a booking number. -/
def modEntry (n : Nat) (f : IndexEntry → IndexEntry) (s : State) : State :=
  s.setSeq { s.seq with index := s.seq.index.map (fun e => if e.number = n then f e else e) }

/-- A settled booking (R92). -/
def settled (b : BookingState) : Bool := b = .done || b = .missed || b = .cancelled

/-- A booking holds its window while PENDING, LOBBY, IN_SESSION or DAMAGED (R92). -/
def holdsWindow (b : BookingState) : Bool := !settled b

/-- A booking becomes DONE, MISSED, CANCELLED or DAMAGED: the MEETING notice's last settled booking and its
mark (R115). -/
def noteSettled (n : Nat) (b : BookingState) (s : State) : State :=
  markMeeting (s.setSeq { s.seq with lastSettled := some (n, b) })

/-- A booking takes another state without settling: where it is the MEETING notice's last settled booking, the notice
carries the new one, as R115 gives the state at the time of sending. Its entry has the state it settled with; one that
does not is another booking, which took the number of a booking that has left the index (R92). -/
def followSettled (n : Nat) (b : BookingState) (s : State) : State :=
  match s.entry n with
  | some e =>
    if s.seq.lastSettled = some (n, e.state) then s.setSeq { s.seq with lastSettled := some (n, b) } else s
  | none => s

/-- Give a booking the state DONE, MISSED, CANCELLED or DAMAGED. -/
def settleEntry (n : Nat) (b : BookingState) (s : State) : State :=
  noteSettled n b (modEntry n (fun e => { e with state := b }) s)

/-- A PENDING booking becomes DAMAGED, with its FAULT notice (R100, R131). -/
def damageIfPending (n : Nat) (s : State) : State :=
  match s.entry n with
  | some e =>
    if e.state = .pending then markFault (.damagedBooking n) (settleEntry n .damaged s) else s
  | none => s

/-! ## Handing work to the store engine (R120, R123, R127) -/

/-- Ask a read: it waits behind the reads asked before it, and suspends an erase (R120, R123). -/
def askRead (r : ReadJob) (s : State) : State :=
  s.setStore { s.store with
    reads := s.store.reads ++ [r]
    engine := if s.store.engine = .erasing then .suspended else s.store.engine }

/-- Hand on a program, behind those handed on before it (R120). -/
def handOn (j : ProgramJob) (s : State) : State :=
  s.setStore { s.store with programs := s.store.programs ++ [j] }

/-- The STATE record that settles a version (R118). -/
def stateJob (purpose : Purpose) (number version : Nat) (b : BookingState) : ProgramJob where
  purpose := purpose
  number := number
  version := version
  body := .state b
  writeCount := none
  badUnits := []
  poison := false
  retry := false
  waits := false

/-- The BOOKING record of a version (R118). -/
def bookingJob (number version : Nat) (d : BookingData) : ProgramJob where
  purpose := .change
  number := number
  version := version
  body := .booking d
  writeCount := none
  badUnits := []
  poison := false
  retry := false
  waits := false

/-- Hand on a STATE record of the meeting sequence; while the latch is set it is dropped (R104, R127). DESIGN CHOICE
(log entry 62): a record so dropped is no program that ends, so it leaves the last outcome and the STORE mark. -/
def handOnState (number : Nat) (b : BookingState) (s : State) : State :=
  if s.store.latch then s
  else
    match s.entry number with
    | some e => handOn (stateJob .settle number e.version b) s
    | none => s

end Sys2Proof.Machine
end

