-- ==== Sys2Proof/Machine/Roles.lean ====
section
/-! DEFINITION. The role unit: the filter table (R76), the effective role of a seat (R84), eligibility and
refusal codes (R7), and the allowance bar (R43). -/

namespace Sys2Proof.Machine

/-- The definition of a role (R71). -/
def State.roleDef (s : State) (n : RoleId) : RoleDef := s.roles.defs[n]

/-! ## The filter table (R76) -/

/-- The 8-byte comparison form of an identity: its first 8 bytes, with zero bytes after a shorter one. -/
def comparisonForm (identity : List Byte) : List Byte :=
  identity.take 8 ++ List.replicate (8 - identity.length) 0

/-- Whether a filter entry matches an identity. -/
def filterMatches (identity : List Byte) (f : FilterEntry) : Bool :=
  f.enabled
    && (match f.lengthRule with
        | none => true
        | some n => n == identity.length)
    && (List.range 8).all (fun k =>
        byteAt (comparisonForm identity) k &&& byteAt f.mask k == byteAt f.value k &&& byteAt f.mask k)

/-- The card role of an identity: that of the lowest-numbered entry that matches, else the default card role in
force. -/
def State.cardRole (s : State) (identity : List Byte) : RoleId :=
  match s.roles.filters.toList.find? (filterMatches identity) with
  | some f => f.role
  | none => s.seq.room.cardRole

/-! ## The effective role (R84) -/

/-- A role number with a restricted flag. -/
structure EffectiveRole where
  number : RoleId
  restricted : Bool
deriving DecidableEq, Repr

/-- No card: card state NONE or READING. -/
def noCard (c : CardPart) : Bool := c.state = .none || c.state = .reading

/-- The roster attendees with their indices; none while no roster is loaded. -/
def State.rosterList (s : State) : List (RosterEntry × Nat) := (s.seq.roster.getD []).zipIdx

/-- A roster attendee by index. -/
def State.rosterEntry (s : State) (a : Nat) : Option RosterEntry := (s.seq.roster.getD [])[a]?

/-- The attendee assigned to a seat: the one whose seat assignment names it. -/
def State.assignedAttendee (s : State) (i : SeatId) : Option RosterEntry :=
  (s.seq.roster.getD []).find? (fun r => r.attendee.seat == some i)

/-- The role number of cases 5 and 6: the assigned attendee's, if bound nowhere, else the seat default. Case 5 is
for a seat with no card. -/
def State.uncardedRole (s : State) (i : SeatId) : RoleId :=
  match s.assignedAttendee i with
  | some r =>
    if r.boundSeat = none then r.attendee.role.getD (s.seat i).defaultRole else (s.seat i).defaultRole
  | none => (s.seat i).defaultRole

/-- The effective role of a seat, by the first case of R84 that holds. -/
def State.effRole (s : State) (i : SeatId) : EffectiveRole :=
  let r := s.seat i
  let cardRole := r.card.role.getD r.defaultRole
  match r.card.state with
  | .bound =>
    ⟨((r.card.attendee.bind s.rosterEntry).bind (·.attendee.role)).getD cardRole, false⟩
  | .unlisted => ⟨cardRole, s.floor.policy.closedList⟩
  | .duplicate => ⟨cardRole, true⟩
  | .held => ⟨r.defaultRole, false⟩
  | _ => ⟨s.uncardedRole i, s.floor.policy.cardsRequired⟩

/-- What changes when an effective role changes: number, restricted flag and definition (R85). -/
def State.roleKey (s : State) (i : SeatId) : EffectiveRole × RoleDef :=
  (s.effRole i, s.roleDef (s.effRole i).number)

/-- The definition under which a seat is treated. -/
def State.seatDef (s : State) (i : SeatId) : RoleDef := s.roleDef (s.effRole i).number

/-! ## Allowance and eligibility -/

/-- The attendee bound at a seat (R77). -/
def State.boundAttendee (s : State) (i : SeatId) : Option Nat :=
  if (s.seat i).card.state = .bound then (s.seat i).card.attendee else none

/-- The attendee bound at a seat is barred: the allowance is above 0 and the spoken total has reached it
(R43). -/
def State.attendeeBarred (s : State) (i : SeatId) : Bool :=
  match (s.boundAttendee i).bind s.rosterEntry with
  | some r => decide (0 < s.floor.policy.allowance ∧ s.floor.policy.allowance ≤ r.total)
  | none => false

/-- A seat is barred when its bound attendee is and its effective role is not chair-class (R43). -/
def State.barred (s : State) (i : SeatId) : Bool := s.attendeeBarred i && !(s.seatDef i).chairClass

/-- Eligible to speak (R7). -/
def State.eligibleToSpeak (s : State) (i : SeatId) : Bool :=
  inService (s.seat i).presence && !(s.effRole i).restricted && (s.seatDef i).maySpeak && !s.barred i

/-- Eligible to request (R7). -/
def State.eligibleToRequest (s : State) (i : SeatId) : Bool :=
  inService (s.seat i).presence && !(s.effRole i).restricted && (s.seatDef i).mayRequest
    && !s.barred i

/-- The refusal code for want of eligibility (R7). DESIGN CHOICE (log entry 54): TIME_USED is for a seat that the
allowance bars (R43), so a chair-class seat refused for its role gets NOT_PERMITTED whatever its attendee's total. -/
def State.refusalFor (s : State) (i : SeatId) : RefusalCode :=
  if noCard (s.seat i).card && (s.effRole i).restricted then .cardNeeded
  else if (s.seat i).card.state = .duplicate then .cardInUse
  else if s.barred i then .timeUsed
  else .notPermitted

end Sys2Proof.Machine
end

