-- ==== Sys2Proof/Machine/Floor.lean ====
section
/-! DEFINITION. The floor controller and the speech timer: the six steps shared by every floor change (R7 to
R13), the log (R48 to R50), opening and closing the floor (R15, R16), the keys (R18 to R25), the checks of
limits and allowances (R37 to R46), and the consequences of role changes (R86, R87). These are the changes
themselves; what a completed change hands on (R14) is in Change.lean. -/

namespace Sys2Proof.Machine

/-! ## Reading the lists -/

/-- The entry of a seat in the speaker list. -/
def State.speaker (s : State) (i : SeatId) : Option SpeakerEntry :=
  s.floor.speakers.find? (fun e => e.seat == i)

/-- The entry of a seat in the request list. -/
def State.request (s : State) (i : SeatId) : Option RequestEntry :=
  s.floor.requests.find? (fun e => e.seat == i)

/-- A seat is SPEAKING (R4). -/
def State.speaking (s : State) (i : SeatId) : Bool := s.floor.speakers.any (fun e => e.seat == i)

/-- A seat is REQUESTING (R4). -/
def State.requesting (s : State) (i : SeatId) : Bool := s.floor.requests.any (fun e => e.seat == i)

/-- The entries of one class. -/
def classCount (chair : Bool) (l : List SpeakerEntry) : Nat :=
  (l.filter (fun e => e.chairClass == chair)).length

/-- There is room for a class (R2). -/
def State.roomFor (s : State) (chair : Bool) : Bool :=
  if chair then decide (classCount true s.floor.speakers < Config.maxChairs)
  else decide (classCount false s.floor.speakers < s.floor.policy.smax)

/-- A seat's position in the request list, counted from 1 at the head (R3). -/
def State.position (s : State) (i : SeatId) : Option Nat :=
  (s.floor.requests.findIdx? (fun e => e.seat == i)).map (· + 1)

/-- The seat is live: it has an entry that is not muted (R57). -/
def State.live (s : State) (i : SeatId) : Bool :=
  s.floor.speakers.any (fun e => e.seat == i && !e.muted)

/-! ## Writing the lists -/

/-- Write the speaker list. -/
def setSpeakers (l : List SpeakerEntry) (s : State) : State :=
  s.setFloor { s.floor with speakers := l }

/-- Write the request list. -/
def setRequests (l : List RequestEntry) (s : State) : State :=
  s.setFloor { s.floor with requests := l }

/-- Change the entry of one seat. -/
def modSpeaker (i : SeatId) (f : SpeakerEntry → SpeakerEntry) (s : State) : State :=
  setSpeakers (s.floor.speakers.map (fun e => if e.seat = i then f e else e)) s

/-- Give a seat a refusal code; a new one replaces an older one (R14). -/
def refuse (i : SeatId) (c : RefusalCode) (s : State) : State :=
  s.modSeat i fun r => { r with refusal := some c }

/-- Clear a seat's refusal code (R14). -/
def clearRefusal (i : SeatId) (s : State) : State := s.modSeat i fun r => { r with refusal := none }

/-- Clear the refusal codes of all seats (R14, R15). -/
def clearAllRefusals (s : State) : State :=
  s.setSeats (s.seats.map fun r => { r with refusal := none })

/-! ## The speech log (R48 to R50, R52) -/

/-- The record of an entry as it stands at its close, with the attendee it names (R49). -/
def State.logRecordFor (s : State) (attendee : Option Nat) (e : SpeakerEntry) (reason : CloseReason) : LogRecord where
  booking := (s.seq.current.map (·.number)).getD 0
  seat := e.seat
  attendee := attendee
  openStamp := e.openStamp
  duration := e.elapsed
  reason := reason
  warned := e.warned
  overran := e.overran
  wasMuted := e.wasMuted

/-- The record of an entry closed by an event taken in this state: it names the attendee bound here (R49). -/
def State.logRecord (s : State) (e : SpeakerEntry) (reason : CloseReason) : LogRecord :=
  s.logRecordFor (s.boundAttendee e.seat) e reason

/-- A record joins the log at the tail; in a full log the head is removed and counted (R50). -/
def SpeechLog.push (l : SpeechLog) (r : LogRecord) : SpeechLog :=
  if l.records.length < Config.logCapacity then { l with records := l.records ++ [r] }
  else { records := l.records.drop 1 ++ [r], dropped := satAdd 255 l.dropped 1 }

/-- A closed entry goes to the log, whose notice is marked (R48, R52). -/
def logSpeech (attendee : Option Nat) (e : SpeakerEntry) (reason : CloseReason) (s : State) : State :=
  markLog (s.setLog (s.log.push (s.logRecordFor attendee e reason)))

/-- The close summary beside the FLOOR mark (R208). -/
def noteClose (i : SeatId) (reason : CloseReason) (s : State) : State :=
  s.setLink { s.link with
    closeCount := satAdd 255 s.link.closeCount 1
    lastClose := some (i, reason) }

/-! ## Chair priority (R25) -/

/-- Unmute every muted entry; the was-muted flags stay (R25). -/
def unmuteAll (s : State) : State :=
  s.setFloor { s.floor with
    muting := false
    speakers := s.floor.speakers.map fun e => { e with muted := false } }

/-- A seat stops holding; the last release unmutes (R25). -/
def dropHolder (i : SeatId) (s : State) : State :=
  if i ∈ s.floor.holders then
    let s1 := s.setFloor { s.floor with holders := s.floor.holders.filter (fun j => !(j == i)) }
    if s1.floor.holders = [] ∧ s1.floor.muting then unmuteAll s1 else s1
  else s

/-! ## The six shared steps -/

/-- The speech of a seat is timed against the limit and its warning point is 0 (R38). -/
def Policy.warnsAtOpen (p : Policy) : Bool := decide (0 < p.speechLimit ∧ p.speechLimit ≤ p.warningLead)

/-- The entry an opening makes (R8, R38). -/
def State.newSpeaker (s : State) (i : SeatId) : SpeakerEntry :=
  let chair := (s.seatDef i).chairClass
  { seat := i
    speech := s.floor.speechCount
    openStamp := s.stamp
    elapsed := 0
    muted := !chair && s.floor.muting
    wasMuted := !chair && s.floor.muting
    chairClass := chair
    warned := !chair && s.floor.policy.warnsAtOpen
    overran := false }

/-- Opening a seat (R8). -/
def openSeat (i : SeatId) (s : State) : State :=
  let e := s.newSpeaker i
  let s1 := s.setFloor { s.floor with
    speakers := s.floor.speakers ++ [e]
    requests := s.floor.requests.filter (fun r => !(r.seat == i))
    speechCount := s.floor.speechCount + 1 }
  let s2 := clearRefusal i s1
  if e.warned then markSpeech i s2 else s2

/-- Closing a seat with a reason (R9), without the advancing that may follow; `who` gives the attendees bound
when the closing event was taken (R49). -/
def closeSeatAs (who : SeatId → Option Nat) (reason : CloseReason) (i : SeatId) (s : State) : State :=
  match s.speaker i with
  | none => s
  | some e =>
    let s1 := noteClose i reason (logSpeech (who i) e reason s)
    let s2 := setSpeakers (s1.floor.speakers.filter (fun x => !(x.seat == i))) s1
    dropHolder i (clearRefusal i s2)

/-- Closing a seat by an event that has bound and unbound no one yet (R9, R49). -/
def closeSeat (reason : CloseReason) (i : SeatId) (s : State) : State := closeSeatAs s.boundAttendee reason i s

/-- Insert by band, 3 nearest the head, and within a band by arrival number (R3). DESIGN CHOICE (log entry 47):
of two entries of one band with the same arrival number, which a full wrap of the counter allows, the one
inserted later stands behind. -/
def insertRequest (e : RequestEntry) : List RequestEntry → List RequestEntry
  | [] => [e]
  | x :: rest =>
    if x.band < e.band ∨ (x.band = e.band ∧ e.arrival < x.arrival) then e :: x :: rest
    else x :: insertRequest e rest

/-- Queueing a seat (R10): refused, with the counter where it was, when 24 entries stand. -/
def queueSeat (i : SeatId) (s : State) : State :=
  if s.floor.requests.length < Config.maxRequests then
    let e : RequestEntry := ⟨i, (s.seatDef i).band, s.floor.arrivalCounter⟩
    clearRefusal i (s.setFloor { s.floor with
      requests := insertRequest e s.floor.requests
      arrivalCounter := (s.floor.arrivalCounter + 1) % 65536 })
  else refuse i .queueFull s

/-- Withdrawing a request (R11). -/
def withdrawSeat (i : SeatId) (s : State) : State :=
  if s.requesting i then
    clearRefusal i (setRequests (s.floor.requests.filter (fun r => !(r.seat == i))) s)
  else s

/-- The oldest entry that is not chair-class (R2). -/
def State.oldestOrdinary (s : State) : Option SpeakerEntry :=
  s.floor.speakers.find? (fun e => !e.chairClass)

/-- The oldest entry that is not chair-class is closed for a replacement. -/
def closeOldest (reason : CloseReason) (s : State) : State :=
  match s.oldestOrdinary with
  | some e => closeSeat reason e.seat s
  | none => s

/-- What granting the head came to (R12). -/
inductive GrantOutcome where
  | opened | empty | noRoom
deriving DecidableEq, Repr

/-- Granting the head (R12). `fuel` bounds the heads withdrawn; `replace` is the close reason where the caller
permits replacement. -/
def grantHeadLoop : Nat → Option CloseReason → State → GrantOutcome × State
  | 0, _, s => (.empty, s)
  | fuel + 1, replace, s =>
    match s.floor.requests with
    | [] => (.empty, s)
    | r :: _ =>
      if !s.eligibleToSpeak r.seat then
        grantHeadLoop fuel replace (refuse r.seat .notPermitted (withdrawSeat r.seat s))
      else if s.roomFor (s.seatDef r.seat).chairClass then (.opened, openSeat r.seat s)
      else
        match replace with
        | some reason =>
          if (s.seatDef r.seat).chairClass then (.noRoom, s)
          else (.opened, openSeat r.seat (closeOldest reason s))
        | none => (.noRoom, s)

/-- Granting the head (R12). -/
def grantHead (replace : Option CloseReason) (s : State) : GrantOutcome × State :=
  grantHeadLoop (s.floor.requests.length + 1) replace s

/-- Advancing (R13), once for a place freed. DESIGN CHOICE (log entry 61): a chair-class head is opened where a
chair-class place is free (R12), though R13's words on a place freed by an ordinary entry say that it waits. -/
def advance (s : State) : State :=
  match s.floor.policy.mode with
  | .openMode => if s.floor.requests = [] then s else (grantHead none s).2
  | .requestMode => if s.floor.policy.autoAdvance then (grantHead none s).2 else s

/-- Closing a seat, with the advancing that follows where the entry was not chair-class (R9, R13). -/
def closeAdvanceAs (who : SeatId → Option Nat) (reason : CloseReason) (i : SeatId) (s : State) : State :=
  match s.speaker i with
  | none => s
  | some e =>
    let s1 := closeSeatAs who reason i s
    if e.chairClass then s1 else advance s1

/-- Closing a seat with the advancing that follows, by an event that has bound and unbound no one yet. -/
def closeAdvance (reason : CloseReason) (i : SeatId) (s : State) : State := closeAdvanceAs s.boundAttendee reason i s

/-- Close the seats of a list, one at a time in its order, without advancing (R9). -/
def closeAll (reason : CloseReason) (l : List SeatId) (s : State) : State :=
  l.foldl (fun s i => closeSeat reason i s) s

/-- Empty the request list; every seat in it becomes IDLE (R16, R24, R30). -/
def emptyRequests (s : State) : State :=
  s.floor.requests.foldl (fun s r => withdrawSeat r.seat s) s

/-- The seats of the entries that are not chair-class, oldest first. -/
def State.ordinarySeats (s : State) : List SeatId :=
  (s.floor.speakers.filter (fun e => !e.chairClass)).map (·.seat)

/-! ## Opening and closing the floor -/

/-- The floor opens under a policy (R15). -/
def openFloor (p : Policy) (s : State) : State :=
  clearAllRefusals (s.setFloor { s.floor with
    isOpen := true
    speakers := []
    requests := []
    policy := p
    holders := []
    muting := false
    arrivalCounter := 0 })

/-- The floor closes (R16). -/
def closeFloor (s : State) : State :=
  let s1 := emptyRequests s
  let s2 := closeAll .meetingEnd (s1.floor.speakers.map (·.seat)) s1
  clearAllRefusals (s2.setFloor { s2.floor with
    isOpen := false
    policy := Policy.walkIn
    holders := []
    muting := false })

/-! ## Keys -/

/-- MIC pressed at an IDLE seat in mode OPEN (R20). DESIGN CHOICE (log entry 47): under QUEUE with no room, a
seat that is not eligible to request gets FULL, also while the list holds 24 entries. -/
def micOpenMode (i : SeatId) (s : State) : State :=
  let chair := (s.seatDef i).chairClass
  if !s.eligibleToSpeak i then refuse i (s.refusalFor i) s
  else if s.roomFor chair then openSeat i s
  else
    match s.floor.policy.fullAction with
    | .refuse => refuse i .full s
    | .queue => if s.eligibleToRequest i then queueSeat i s else refuse i .full s
    | .replaceOldest =>
      if chair then refuse i .full s else openSeat i (closeOldest .replaced s)

/-- MIC pressed at an IDLE seat in mode REQUEST (R21). -/
def micRequestMode (i : SeatId) (s : State) : State :=
  if s.eligibleToRequest i then queueSeat i s else refuse i (s.refusalFor i) s

/-- A MIC press (R19 to R21); while the floor is CLOSED it is not acted on (R17). -/
def micPress (i : SeatId) (s0 : State) : State :=
  if !s0.floor.isOpen then s0
  else
    let s := clearRefusal i s0
    if s.speaking i then
      if s.floor.policy.ownClose then closeAdvance .own i s else refuse i .noOwnClose s
    else if s.requesting i then withdrawSeat i s
    else
      match s.floor.policy.mode with
      | .openMode => micOpenMode i s
      | .requestMode => micRequestMode i s

/-- A NEXT press at a unit of kind CHAIR (R18, R22). DESIGN CHOICE (log entry 47): where the pressing seat's own
ineligible request was at the head, the NOT_PERMITTED its withdrawal gives (R12 step 2) stays at the seat, also
where a later head is opened. -/
def nextPress (i : SeatId) (s0 : State) : State :=
  if !s0.floor.isOpen ∨ (s0.seat i).kind ≠ some .chair then s0
  else
    let s := clearRefusal i s0
    if !(s.seatDef i).chairClass then refuse i .notPermitted s
    else
      let replace := if s.floor.policy.fullAction = .replaceOldest then some CloseReason.chair else none
      match grantHead replace s with
      | (.opened, s1) => s1
      | (.empty, s1) => refuse i .noneWaiting s1
      | (.noRoom, s1) => refuse i .full s1

/-- The priority action at a going-held event (R24 step 4). -/
def applyPriority (s : State) : State :=
  match s.floor.policy.priorityAction with
  | .mute =>
    s.setFloor { s.floor with
      muting := true
      speakers := s.floor.speakers.map fun e =>
        if e.chairClass then e else { e with muted := true, wasMuted := true } }
  | .cancel =>
    let s1 := emptyRequests s
    closeAll .priority s1.ordinarySeats s1

/-- PRIORITY going held at a unit of kind CHAIR (R18, R24). -/
def priorityHeld (i : SeatId) (s0 : State) : State :=
  if !s0.floor.isOpen ∨ (s0.seat i).kind ≠ some .chair then s0
  else
    let s := clearRefusal i s0
    if !(s.seatDef i).chairClass then refuse i .notPermitted s
    else if !s.eligibleToSpeak i then refuse i (s.refusalFor i) s
    else if !s.speaking i && !s.roomFor true then refuse i .full s
    else
      let s1 := s.setFloor { s.floor with
        holders := if i ∈ s.floor.holders then s.floor.holders else s.floor.holders ++ [i] }
      applyPriority (if s1.speaking i then s1 else openSeat i s1)

/-- PRIORITY going not held: a hold that was recorded ends (R24, R25). -/
def priorityReleased (i : SeatId) (s : State) : State :=
  if !s.floor.isOpen ∨ (s.seat i).kind ≠ some .chair then s else dropHolder i s

/-! ## The speech timer -/

/-- The warning point of a speech (R38). -/
def Policy.warningPoint (p : Policy) : Nat := p.speechLimit - p.warningLead

/-- Set the timing flags of a seat's entry, marking a SPEECH notice where one changes (R39, R40, R45, R46). -/
def setTiming (i : SeatId) (warned overran : Bool) (s : State) : State :=
  match s.speaker i with
  | none => s
  | some e =>
    if e.warned = warned ∧ e.overran = overran then s
    else markSpeech i (modSpeaker i (fun e => { e with warned := warned, overran := overran }) s)

/-- The warning: a Running entry at or past the warning point becomes Warned (R39). -/
def warningCheck (i : SeatId) (s : State) : State :=
  match s.speaker i with
  | none => s
  | some e =>
    if !e.chairClass ∧ 0 < s.floor.policy.speechLimit ∧ !e.warned ∧ !e.overran
        ∧ s.floor.policy.warningPoint ≤ e.elapsed then setTiming i true false s
    else s

/-- The limit: an entry that has reached L is closed TIMEUP under CLOSE, or becomes Overran (R40). -/
def limitCheckAs (who : SeatId → Option Nat) (i : SeatId) (s : State) : State :=
  match s.speaker i with
  | none => s
  | some e =>
    if !e.chairClass ∧ 0 < s.floor.policy.speechLimit ∧ !e.overran
        ∧ s.floor.policy.speechLimit ≤ e.elapsed then
      match s.floor.policy.atLimit with
      | .close => closeAdvanceAs who .timeUp i s
      | .warn => setTiming i true true s
    else s

/-- The limit at an entry, by an event that has bound and unbound no one yet (R40). -/
def limitCheck (i : SeatId) (s : State) : State := limitCheckAs s.boundAttendee i s

/-- The allowance: an entry whose bound attendee is barred is closed ALLOWANCE (R42, R44). -/
def allowanceCheckAs (who : SeatId → Option Nat) (i : SeatId) (s : State) : State :=
  match s.speaker i with
  | none => s
  | some e => if !e.chairClass && s.attendeeBarred i then closeAdvanceAs who .allowance i s else s

/-- The allowance at an entry, by an event that has bound and unbound no one yet (R42). -/
def allowanceCheck (i : SeatId) (s : State) : State := allowanceCheckAs s.boundAttendee i s

/-- The bar at a seat that is SPEAKING or REQUESTING (R44). -/
def barCheckAs (who : SeatId → Option Nat) (i : SeatId) (s : State) : State :=
  if s.speaking i then allowanceCheckAs who i s
  else if s.requesting i ∧ s.barred i then refuse i .timeUsed (withdrawSeat i s)
  else s

/-- The bar at a seat, by an event that has bound and unbound no one yet (R44). -/
def barCheck (i : SeatId) (s : State) : State := barCheckAs s.boundAttendee i s

/-- The check of an entry against the allowance and the limit (R37). DESIGN CHOICE (log entry 48): the limit is
checked before the warning point, as R45 lists them, so an entry that reaches both at once under CLOSE is
closed with no warned flag and no SPEECH mark. -/
def timingCheckAs (who : SeatId → Option Nat) (i : SeatId) (s : State) : State :=
  warningCheck i (limitCheckAs who i (allowanceCheckAs who i s))

/-- The check of an entry, by an event that has bound and unbound no one yet (R37). -/
def timingCheck (i : SeatId) (s : State) : State := timingCheckAs s.boundAttendee i s

/-- One spoken second of a roster attendee (R41). -/
def addSpoken (a : Nat) (s : State) : State :=
  s.setSeq { s.seq with
    roster := s.seq.roster.map fun l =>
      l.modify a fun r => { r with total := satAdd 65535 r.total 1 } }

/-- The second event at one entry that stood in the list: elapsed count, spoken total, then the check of R37
(R35, R36, R41). -/
def secondAtEntry (s : State) (e0 : SpeakerEntry) : State :=
  match s.speaker e0.seat with
  | none => s
  | some e =>
    if e.speech ≠ e0.speech then s
    else
      let i := e.seat
      let s1 := modSpeaker i (fun e => { e with elapsed := satAdd 65535 e.elapsed 1 }) s
      let s2 :=
        if e.chairClass ∨ s.floor.policy.allowance = 0 then s1
        else match s.boundAttendee i with
          | some a => addSpoken a s1
          | none => s1
      timingCheck i s2

/-- The floor's part of a second event, oldest entry first (R35). -/
def secondAtFloor (s : State) : State := s.floor.speakers.foldl secondAtEntry s

/-- The re-evaluation of one open entry after a change of the timing fields (R46). -/
def policyCheck (s : State) (e0 : SpeakerEntry) : State :=
  match s.speaker e0.seat with
  | none => s
  | some e =>
    let i := e.seat
    let p := s.floor.policy
    if e.speech ≠ e0.speech ∨ e.chairClass then s
    else if s.attendeeBarred i then closeAdvance .allowance i s
    else if p.speechLimit = 0 then setTiming i false false s
    else if p.speechLimit ≤ e.elapsed then
      match p.atLimit with
      | .close => closeAdvance .timeUp i s
      | .warn => setTiming i true true s
    else setTiming i (decide (p.warningPoint ≤ e.elapsed)) false s

/-- The timing fields of a policy (R46). -/
def Policy.timing (p : Policy) : Nat × Nat × LimitAction × Nat :=
  (p.speechLimit, p.warningLead, p.atLimit, p.allowance)

/-- R46: every open entry, oldest first, and then the requesting seats under R44. DESIGN CHOICE (log entry 55): that
order of the two, and the requesting seats from the head. -/
def policyChecks (s : State) : State :=
  let s1 := s.floor.speakers.foldl policyCheck s
  s1.floor.requests.foldl (fun s r => barCheck r.seat s) s1

/-! ## SET_FLOOR -/

/-- The entries beyond Smax are closed LIMIT, newest first, until Smax remain (R32 step 1). -/
def closeExcess (s : State) : State :=
  closeAll .limit ((s.ordinarySeats.drop s.floor.policy.smax).reverse) s

/-- In mode OPEN the head is granted again and again until a grant opens no seat (R32 step 2). -/
def drainRequests : Nat → State → State
  | 0, s => s
  | fuel + 1, s =>
    match grantHead none s with
    | (.opened, s1) => drainRequests fuel s1
    | (_, s1) => s1

/-- SET_FLOOR's adjustment of the floor to a policy (R32, R46). -/
def adoptPolicy (p : Policy) (s : State) : State :=
  let old := s.floor.policy
  let s1 := closeExcess (s.setFloor { s.floor with policy := p })
  let s2 := if p.mode = .openMode then drainRequests (s1.floor.requests.length + 1) s1 else s1
  if p.timing = old.timing then s2 else policyChecks s2

/-! ## Role changes and the floor (R86, R87) -/

/-- An open entry becomes chair-class (R87). -/
def becomeChair (who : SeatId → Option Nat) (i : SeatId) (s : State) : State :=
  if s.roomFor true then
    modSpeaker i (fun e => { e with chairClass := true, muted := false }) (setTiming i false false s)
  else closeAdvanceAs who .limit i s

/-- An open entry ceases to be chair-class (R87), and is checked at once (R45). -/
def ceaseChair (who : SeatId → Option Nat) (i : SeatId) (s : State) : State :=
  let s1 := dropHolder i s
  if s1.roomFor false then
    let s2 := modSpeaker i (fun e =>
      { e with
        chairClass := false
        muted := s1.floor.muting
        wasMuted := e.wasMuted || s1.floor.muting }) s1
    timingCheckAs who i s2
  else closeSeatAs who .limit i s1

/-- The first pass at one request entry whose seat's effective role changed (R86). -/
def requestRolePass (changed : SeatId → Bool) (s : State) (r0 : RequestEntry) : State :=
  if changed r0.seat ∧ s.requesting r0.seat then
    if !(s.seatDef r0.seat).mayRequest ∨ (s.effRole r0.seat).restricted then
      let s1 := withdrawSeat r0.seat s
      refuse r0.seat (s.refusalFor r0.seat) s1
    else if (s.seatDef r0.seat).band ≠ r0.band then
      setRequests (insertRequest { r0 with band := (s.seatDef r0.seat).band }
        (s.floor.requests.filter (fun r => !(r.seat == r0.seat)))) s
    else s
  else s

/-- The second pass at one speaker entry whose seat's effective role changed (R86). -/
def speakerRolePass (who : SeatId → Option Nat) (changed : SeatId → Bool) (s : State) (e0 : SpeakerEntry) : State :=
  match s.speaker e0.seat with
  | none => s
  | some e =>
    let i := e.seat
    if e.speech ≠ e0.speech ∨ !changed i then s
    else if !(s.seatDef i).maySpeak ∨ (s.effRole i).restricted then closeAdvanceAs who .role i s
    else
      let s1 :=
        if e.chairClass = (s.seatDef i).chairClass then s
        else if (s.seatDef i).chairClass then becomeChair who i s
        else ceaseChair who i s
      allowanceCheckAs who i s1

/-- The consequences for the floor of what a change did to effective roles and bindings: the two passes of R86,
then the check of R44 at every seat where an attendee has become bound. DESIGN CHOICE (log entry 55): where the
seat is REQUESTING or its role did not change, that check comes after both passes, in seat order. `s0` is the
state before the change: its bindings are those of the records made here (R49; log entry 26). -/
def roleConsequences (s0 s1 : State) : State :=
  if !s1.floor.isOpen then s1
  else
    let changed := fun i => decide (s0.roleKey i ≠ s1.roleKey i)
    let s2 := s1.floor.requests.foldl (requestRolePass changed) s1
    let s3 := s2.floor.speakers.foldl (speakerRolePass s0.boundAttendee changed) s2
    (allSeats.filter fun i =>
        decide (s1.boundAttendee i ≠ none ∧ s0.boundAttendee i ≠ s1.boundAttendee i)).foldl
      (fun s i => barCheckAs s0.boundAttendee i s) s3

end Sys2Proof.Machine
end

