-- ==== Sys2Proof/Machine/Levels.lean ====
section
/-! DEFINITION. The level computer: the targets (R57 to R60), the recompute and its marks (R61, R62), what the
level orders carry (R63 to R65), and acknowledgements (R66). -/

namespace Sys2Proof.Machine

/-- The live seats, in list order (R57). -/
def State.liveSeats (s : State) : List SeatId :=
  (s.floor.speakers.filter (fun e => !e.muted)).map (·.seat)

/-- A(N), from the table (R57). -/
def attenuationTable : List Nat := [0, 0, 6, 10, 12, 14, 16, 17, 18]

/-- The open-microphone attenuation for N live seats (R57). -/
def attenuation (m : Masters) (n : Nat) : Nat :=
  if m.attenuation then attenuationTable.getD n 18 else 0

/-- A sum formed whole and clamped once. -/
def clampInt (hi : Nat) (x : Int) : Nat := min hi x.toNat

/-- The distance between two seats (R59). -/
def seatDistance (i j : SeatId) : Nat :=
  let p := positionOfSeat i
  let q := positionOfSeat j
  (if p ≤ q then q - p else p - q) + (if lineOfSeat i = lineOfSeat j then 0 else 1)

/-- The least distance from a seat to any live seat; absent while none is live (R59). -/
def leastDistance (live : List SeatId) (i : SeatId) : Option Nat :=
  live.foldl (fun d j =>
    match d with
    | none => some (seatDistance i j)
    | some n => some (min n (seatDistance i j))) none

/-- The target microphone gain of a seat (R58). -/
def State.micTarget (s : State) (live : List SeatId) (i : SeatId) : MicLevel :=
  if i ∈ live then
    .gain (clampInt 84 ((s.masters.mic : Int) + (s.seat i).micTrim + (s.seatDef i).lift
      - attenuation s.masters live.length))
  else .off

/-- The target loudspeaker code of a seat (R60). -/
def State.speakerTarget (s : State) (live : List SeatId) (i : SeatId) : SpeakerLevel :=
  let sum : Int := (s.masters.base : Int) - (s.seat i).speakerTrim
  match leastDistance live i with
  | some 0 => .mute
  | some 1 => .code (clampInt 120 (sum + s.masters.duck1))
  | some 2 => .code (clampInt 120 (sum + s.masters.duck2))
  | _ => .code (clampInt 120 sum)

/-- Mark the MIC or GAIN order that is due at a seat by the comparison of R62. -/
def markMicStage (r : SeatRec) : SeatRec :=
  match r.targetMic, r.sentMic with
  | .off, some .off => r
  | .off, _ => { r with marks := { r.marks with mic := true } }
  | .gain g, some (.gain h) => if g = h then r else { r with marks := { r.marks with gain := true } }
  | .gain _, _ => { r with marks := { r.marks with mic := true } }

/-- Mark the SPEAKER order that is due at a seat (R62). -/
def markSpeakerStage (r : SeatRec) : SeatRec :=
  if r.sentSpeaker = some r.targetSpeaker then r
  else { r with marks := { r.marks with speaker := true } }

/-- Level orders are marked for a seat that is not frozen and is PRESENT or SILENT (R62, R68, R185). -/
def takesLevelMarks (r : SeatRec) : Bool := !r.frozen && inService r.presence

/-- Mark the level orders that are due at a seat (R62). -/
def markLevels (r : SeatRec) : SeatRec :=
  if takesLevelMarks r then markSpeakerStage (markMicStage r) else r

/-- A seat with its targets formed anew; a frozen seat keeps them (R61, R68). -/
def State.retargeted (s : State) (live : List SeatId) (i : SeatId) : SeatRec :=
  let r := s.seats[i]
  if r.frozen then r
  else { r with targetMic := s.micTarget live i, targetSpeaker := s.speakerTarget live i }

/-- Some seat's target differs from what it was (R61). -/
def State.targetsMove (s : State) (live : List SeatId) : Bool :=
  allSeats.any fun i =>
    decide ((s.retargeted live i).targetMic ≠ s.seats[i].targetMic
      ∨ (s.retargeted live i).targetSpeaker ≠ s.seats[i].targetSpeaker)

/-- The recompute: targets of every seat that is not frozen and, where any target moved, the marks of every such seat;
one that leaves every target as it was marks no orders (R61, R62). -/
def recompute (s : State) : State :=
  let live := s.liveSeats
  let moved := s.targetsMove live
  s.setSeats (Vector.ofFn fun i : SeatId =>
    if moved then markLevels (s.retargeted live i) else s.retargeted live i)

/-- Whether a change calls for a recompute: the set of live seats, an entry's chair-class or the effective role
of a seat changed (R14, R61). -/
def levelsDue (s0 s1 : State) : Bool :=
  allSeats.any fun i =>
    (s0.live i != s1.live i)
      || (match s0.speaker i, s1.speaker i with
          | some a, some b => a.chairClass != b.chairClass
          | _, _ => false)
      || decide (s0.roleKey i ≠ s1.roleKey i)

/-- A seat's frozen mark is set, after the recompute of its change (R68). -/
def freezeSeat (i : SeatId) (s : State) : State := s.modSeat i fun r => { r with frozen := true }

/-! ## Order contents -/

/-- What choosing a level order comes to: an order to send, or the mark dropped with no exchange; either way
the record is as given. -/
abbrev LevelChoice := Option OrderContent × SeatRec

/-- A MIC order is chosen (R63). -/
def chooseMic (r0 : SeatRec) : LevelChoice :=
  let r := { r0 with marks := { r0.marks with mic := false } }
  match r.targetMic, r.sentMic with
  | .off, some .off => (none, r)
  | .off, _ => (some (.mic .off), r)
  | .gain g, some (.gain h) =>
    if g = h then (none, r) else (none, { r with marks := { r.marks with gain := true } })
  | .gain g, _ => (some (.mic (.gain g)), r)

/-- One step of a ramp from the sent gain toward the target (R64). -/
def gainStep (slew sent target : Nat) : Nat :=
  if sent < target then (if target - sent ≤ slew then target else sent + slew)
  else (if sent - target ≤ slew then target else sent - slew)

/-- A GAIN order is chosen (R64). -/
def chooseGain (slew : Nat) (r0 : SeatRec) : LevelChoice :=
  let r := { r0 with marks := { r0.marks with gain := false } }
  match r.targetMic, r.sentMic with
  | .gain g, some (.gain h) => if g = h then (none, r) else (some (.gain (gainStep slew h g)), r)
  | _, _ => (none, { r with marks := { r.marks with mic := true } })

/-- A SPEAKER order is chosen (R65). -/
def chooseSpeaker (r0 : SeatRec) : LevelChoice :=
  let r := { r0 with marks := { r0.marks with speaker := false } }
  if r.sentSpeaker = some r.targetSpeaker then (none, r) else (some (.speaker r.targetSpeaker), r)

/-- A level order is acknowledged: the sent value takes the value carried, and a new order of that stage is marked
where target and sent differ (R66). -/
def acknowledgeLevel (content : OrderContent) (r : SeatRec) : SeatRec :=
  let compareMic := fun r : SeatRec => if takesLevelMarks r then markMicStage r else r
  let compareSpeaker := fun r : SeatRec => if takesLevelMarks r then markSpeakerStage r else r
  match content with
  | .mic level => compareMic { r with sentMic := some level }
  | .gain halves => compareMic { r with sentMic := some (.gain halves) }
  | .speaker level => compareSpeaker { r with sentSpeaker := some level }
  | _ => r

end Sys2Proof.Machine
end

