-- ==== Sys2Proof/Machine/Display.lean ====
section
/-! DEFINITION. The display composer: labels (R144), status (R147, R148), screen items (R150 to R152), the marks a
change sets (R142, R145, R149), and what the display orders carry (R142, R143). -/

namespace Sys2Proof.Machine

/-! ## Labels -/

/-- Two decimal digits of a position. -/
def twoDigits (n : Nat) : Text := [BitVec.ofNat 8 (48 + n / 10 % 10), BitVec.ofNat 8 (48 + n % 10)]

/-- "Seat " followed by the seat identifier (R144). -/
def defaultLabel (i : SeatId) : Text :=
  textOf [83, 101, 97, 116, 32]
    ++ textOf [match lineOfSeat i with | .a => 65 | .b => 66] ++ twoDigits (positionOfSeat i)

/-- The label of a seat with the precedence that gives it (R144). -/
def State.labelOf (s : State) (i : SeatId) : Text × Nat :=
  match (s.boundAttendee i).bind s.rosterEntry with
  | some r => (r.attendee.name, 1)
  | none =>
    let fromHost :=
      match (s.seat i).hostLabel with
      | some t => (t, 3)
      | none => (defaultLabel i, 4)
    match s.assignedAttendee i with
    | some r => if r.boundSeat = none then (r.attendee.name, 2) else fromHost
    | none => fromHost

/-! ## Status -/

/-- A booking is in LOBBY (R147). -/
def State.inLobby (s : State) : Bool :=
  match s.seq.current with
  | some c => c.phase = .lobby
  | none => false

/-- The status of a seat: code and number (R147). -/
def State.status (s : State) (i : SeatId) : StatusCode × Nat :=
  if !s.floor.isOpen then (if s.inLobby then .lobby else .roomClosed, 0)
  else
    match (s.seat i).refusal with
    | some c => (.refusal c, 0)
    | none =>
      let l := s.floor.policy.speechLimit
      match s.speaker i with
      | some e =>
        if e.muted then (.muted, 0)
        else if e.overran then (.speakingOver, e.elapsed - l)
        else if e.warned then (.speakingWarn, l - e.elapsed)
        else (.speaking, e.elapsed)
      | none =>
        match s.position i with
        | some k => (.request, k)
        | none => (.idle, 0)

/-- The status key of a seat (R148). -/
def State.statusKey (s : State) (i : SeatId) : StatusKey :=
  let code := (s.status i).1
  let speech := (s.speaker i).map (·.speech)
  match code with
  | .request => ⟨code, s.position i, none, none⟩
  | .speaking => ⟨code, none, speech, none⟩
  | .muted => ⟨code, none, speech, none⟩
  | .speakingWarn => ⟨code, none, speech, some s.floor.policy.speechLimit⟩
  | .speakingOver => ⟨code, none, speech, some s.floor.policy.speechLimit⟩
  | _ => ⟨code, none, none, none⟩

/-- The inputs of a seat's status (R149): when one of them changes the status is re-evaluated. -/
structure StatusInputs where
  isOpen : Bool
  lobby : Bool
  refusal : Option RefusalCode
  entry : Option (Nat × Bool × Bool × Bool)
  position : Option Nat
  limit : Option Nat
deriving DecidableEq

/-- The inputs of a seat's status. -/
def State.statusInputs (s : State) (i : SeatId) : StatusInputs where
  isOpen := s.floor.isOpen
  lobby := s.inLobby
  refusal := (s.seat i).refusal
  entry := (s.speaker i).map fun e => (e.speech, e.muted, e.warned, e.overran)
  position := s.position i
  limit := (s.speaker i).map fun _ => s.floor.policy.speechLimit

/-! ## Screen items -/

/-- The next booking: the PENDING booking with the earliest start, then the lowest number, the current meeting
passed over (R150). -/
def State.nextBooking (s : State) : Option IndexEntry :=
  let current := s.seq.current.map (·.number)
  s.seq.index.foldl (fun best e =>
    if e.state ≠ .pending ∨ current = some e.number then best
    else
      match best with
      | none => some e
      | some b =>
        if e.startMin < b.startMin ∨ (e.startMin = b.startMin ∧ e.number < b.number) then some e
        else some b) none

/-- Item 0, the title (R150). -/
def State.titleItem (s : State) : ItemKey :=
  match s.seq.current with
  | some c =>
    match s.entry c.number with
    | some e => .title c.phase c.number (e.title.take 35) e.startMin e.endMin c.resumed
    | none => .title c.phase c.number [] 0 0 c.resumed
  | none =>
    match s.nextBooking with
    | some e => .titleNext e.number (e.title.take 35) e.startMin
    | none => .titleNone

/-- Item 1, the clock (R151). -/
def State.clockItem (s : State) : ItemKey :=
  let e := s.seq.current.bind fun c => s.entry c.number
  let phase := s.seq.current.map (·.phase)
  let left : Option Int :=
    if phase = some .inSession then e.bind fun e => s.now.map fun n => (e.endMin : Int) - n else none
  let toStart :=
    if phase = some .lobby then e.bind fun e => s.now.map fun n => e.startMin - n else none
  .clock s.now phase left toStart ((s.seq.current.map (·.warned)).getD false)

/-- The timing kind of a speaker slot (R152). -/
def State.timingKind (s : State) (e : SpeakerEntry) : TimingKind :=
  if e.chairClass ∨ s.floor.policy.speechLimit = 0 then .elapsed
  else if e.overran then .over else .left

/-- Items 2 to 9, the speaker slots (R152). -/
def State.speakerItem (s : State) (k : Nat) : ItemKey :=
  match (if s.floor.isOpen then s.floor.speakers[k]? else none) with
  | some e =>
    let timing := s.timingKind e
    .speaker e.speech e.seat (s.labelOf e.seat).1 e.chairClass e.muted e.warned e.overran timing
      (if timing = .elapsed then none else some s.floor.policy.speechLimit)
  | none => .empty

/-- Items 10 to 15, the queue slots (R152). -/
def State.queueItem (s : State) (k : Nat) : ItemKey :=
  match (if s.floor.isOpen then s.floor.requests[k]? else none) with
  | some r => .queue r.seat (s.labelOf r.seat).1 r.band
  | none => .empty

/-- The key of an item (R150 to R152). -/
def State.itemKey (s : State) (i : ItemId) : ItemKey :=
  if i.val = 0 then s.titleItem
  else if i.val = 1 then s.clockItem
  else if i.val < 10 then s.speakerItem (i.val - 2)
  else s.queueItem (i.val - 10)

/-- The number of seconds a speaker slot carries (R152); 0 for any other item. -/
def State.itemSeconds (s : State) (i : ItemId) : Nat :=
  if 2 ≤ i.val ∧ i.val < 10 then
    match s.floor.speakers[i.val - 2]? with
    | some e =>
      match s.timingKind e with
      | .elapsed => e.elapsed
      | .left => s.floor.policy.speechLimit - e.elapsed
      | .over => e.elapsed - s.floor.policy.speechLimit
    | none => 0
  else 0

/-- Whether an item's content is longer than 24 bytes and goes as two segments (R150, R196): a title with a
booking, and any occupied slot, whose label alone is 25 bytes. -/
def itemLong : ItemKey → Bool
  | .title .. => true
  | .titleNext .. => true
  | .speaker .. => true
  | .queue .. => true
  | _ => false

/-! ## Marks set by a change -/

/-- What makes a FLOOR notice due (R14): the lists in content and order, the floor's state, the holders and the
muting mark. The elapsed counts and the timing flags are no change of list content (R36, R47; log entry
24). -/
structure FloorReport where
  isOpen : Bool
  speakers : List (SeatId × Nat × Bool × Bool)
  requests : List RequestEntry
  holders : List SeatId
  muting : Bool
deriving DecidableEq

/-- What makes a FLOOR notice due (R14). -/
def State.floorReport (s : State) : FloorReport where
  isOpen := s.floor.isOpen
  speakers := s.floor.speakers.map fun e => (e.seat, e.speech, e.muted, e.chairClass)
  requests := s.floor.requests
  holders := s.floor.holders
  muting := s.floor.muting

/-- What makes the speaker slots be re-evaluated (R152): a floor change, a change of a warned or overran flag or of L,
and a change of the label of a seat in the speaker list. -/
structure SpeakerSlotInputs where
  floor : FloorReport
  flags : List (Bool × Bool)
  limit : Nat
  labels : List Text
deriving DecidableEq

/-- What makes the speaker slots be re-evaluated (R152). -/
def State.speakerSlotInputs (s : State) : SpeakerSlotInputs where
  floor := s.floorReport
  flags := s.floor.speakers.map fun e => (e.warned, e.overran)
  limit := s.floor.policy.speechLimit
  labels := s.floor.speakers.map fun e => (s.labelOf e.seat).1

/-- What makes the queue slots be re-evaluated (R152): a floor change, and a change of the label of a seat in the
request list. -/
structure QueueSlotInputs where
  floor : FloorReport
  labels : List Text
deriving DecidableEq

/-- What makes the queue slots be re-evaluated (R152). -/
def State.queueSlotInputs (s : State) : QueueSlotInputs where
  floor := s.floorReport
  labels := s.floor.requests.map fun r => (s.labelOf r.seat).1

/-- The sources of a seat's label (R144, R145): when one of them changes the label is re-evaluated. -/
structure LabelInputs where
  bound : Option (Nat × Option Text)
  assigned : Option (Text × Option SeatId)
  loaded : Bool
  host : Option Text
deriving DecidableEq

/-- The sources of a seat's label. -/
def State.labelInputs (s : State) (i : SeatId) : LabelInputs where
  bound := (s.boundAttendee i).map fun a => (a, (s.rosterEntry a).map (·.attendee.name))
  assigned := (s.assignedAttendee i).map fun r => (r.attendee.name, r.boundSeat)
  loaded := s.seq.roster.isSome
  host := (s.seat i).hostLabel

/-- What makes the title be re-evaluated of a booking in the index (R150). -/
structure TitleEntry where
  number : Nat
  version : Nat
  state : BookingState
  startMin : Nat
  endMin : Nat
  title : Text
deriving DecidableEq

/-- What makes the title be re-evaluated (R150): the current meeting and the bookings of the index with their versions,
less the places of their records. DEDUCED (log entry 68): so an EXTEND too, which moves an end that the title shows. -/
structure TitleInputs where
  current : Option (Nat × Phase × Bool)
  index : List TitleEntry
deriving DecidableEq

/-- What makes the title be re-evaluated (R150). -/
def State.titleInputs (s : State) : TitleInputs where
  current := s.seq.current.map fun c => (c.number, c.phase, c.resumed)
  index := s.seq.index.map fun e => ⟨e.number, e.version, e.state, e.startMin, e.endMin, e.title⟩

/-- A seat whose label is re-evaluated: LABEL is marked where it differs from the one last sent (R142). -/
def labelRemarked (s : State) (i : SeatId) (r : SeatRec) : SeatRec :=
  if inService r.presence ∧ r.labelSent ≠ some (s.labelOf i).1 then
    { r with marks := { r.marks with label := true } }
  else r

/-- The label of a seat is re-evaluated (R145). -/
def remarkLabel (i : SeatId) (s : State) : State := s.modSeat i (labelRemarked s i)

/-- The label of every seat is re-evaluated (R145). -/
def remarkLabels (s : State) : State := s.setSeats (Vector.ofFn fun i : SeatId => labelRemarked s i s.seats[i])

/-- The status of a seat is re-evaluated: STATUS is marked where its key differs from the one last sent (R142,
R149). -/
def remarkStatus (i : SeatId) (s : State) : State :=
  s.modSeat i fun r =>
    if inService r.presence ∧ r.statusSent ≠ some (s.statusKey i) then
      { r with marks := { r.marks with status := true } }
    else r

/-- The display marks of one seat after a change from `s0` to `s1` (R142, R145, R149): a change of its effective role
has its label and its status re-evaluated, whatever else changed (R85). -/
def markSeatDisplays (s0 s1 : State) (i : SeatId) (r : SeatRec) : SeatRec :=
  if !inService r.presence then r
  else
    let role := s0.roleKey i ≠ s1.roleKey i
    let label := decide ((role ∨ s0.labelInputs i ≠ s1.labelInputs i)
        ∧ r.labelSent ≠ some (s1.labelOf i).1)
    let status := decide ((role ∨ s0.statusInputs i ≠ s1.statusInputs i)
        ∧ r.statusSent ≠ some (s1.statusKey i))
    { r with marks := { r.marks with
        label := r.marks.label || label
        status := r.marks.status || status } }

/-- Mark the items of one screen that are re-evaluated and differ from their last-sent record (R142). -/
def markItems (s : State) (due : ItemId → Bool) (c : ScreenRec) : ScreenRec :=
  if !inService c.presence then c
  else { c with itemMarks := Vector.ofFn fun i : ItemId =>
    c.itemMarks[i] || (due i && decide (c.itemSent[i] ≠ some (s.itemKey i))) }

/-- The items re-evaluated after a change (R150 to R152). -/
def itemsDue (s0 s1 : State) (i : ItemId) : Bool :=
  if i.val = 0 then decide (s0.titleInputs ≠ s1.titleInputs)
  else if i.val = 1 then decide (s0.itemKey i ≠ s1.itemKey i)
  else if i.val < 10 then decide (s0.speakerSlotInputs ≠ s1.speakerSlotInputs)
  else decide (s0.queueSlotInputs ≠ s1.queueSlotInputs)

/-- The display marks after a change from `s0` to `s1`. -/
def markDisplays (s0 s1 : State) : State :=
  let s2 := s1.setSeats (Vector.ofFn fun i : SeatId => markSeatDisplays s0 s1 i s1.seats[i])
  s2.setScreens (s1.screens.map (markItems s1 (itemsDue s0 s1)))

/-- Some items of every screen are re-evaluated, whatever changed (R142). -/
def remarkItemsWhere (due : ItemId → Bool) (s : State) : State := s.setScreens (s.screens.map (markItems s due))

/-- The title item is re-evaluated whatever changed: at the completion of the scan (R150). -/
def remarkTitleItem (s : State) : State := remarkItemsWhere (fun i => decide (i.val = 0)) s

/-- The clock item is re-evaluated whatever changed: at every minute event and after every SET_TIME (R151). -/
def remarkClockItem (s : State) : State := remarkItemsWhere (fun i => decide (i.val = 1)) s

/-- Every screen item is re-evaluated (R108). -/
def remarkItems (s : State) : State := remarkItemsWhere (fun _ => true) s

/-! ## Order contents -/

/-- A STATUS order is chosen: its content, or none where the key equals the last sent (R142, R148). -/
def State.chooseStatus (s : State) (i : SeatId) : Option OrderContent :=
  if (s.seat i).statusSent = some (s.statusKey i) then none
  else some (.status (s.statusKey i) (s.status i).2)

/-- A LABEL order is chosen (R142). -/
def State.chooseLabel (s : State) (i : SeatId) : Option OrderContent :=
  if (s.seat i).labelSent = some (s.labelOf i).1 then none else some (.label (s.labelOf i).1)

/-- An ITEM order is chosen (R142, R152). -/
def State.chooseItem (s : State) (j : ScreenId) (i : ItemId) : Option OrderContent :=
  if (s.screen j).itemSent[i] = some (s.itemKey i) then none
  else some (.item i (s.itemKey i) (s.itemSeconds i))

/-- A display order of a seat is acknowledged: the record takes what was carried and is compared again (R143). -/
def acknowledgeSeatDisplay (i : SeatId) (content : OrderContent) (s : State) : State :=
  match content with
  | .label t =>
    s.modSeat i fun r => { r with
      labelSent := some t
      marks := { r.marks with
        label := r.marks.label || (inService r.presence && decide ((s.labelOf i).1 ≠ t)) } }
  | .status key _ =>
    s.modSeat i fun r => { r with
      statusSent := some key
      marks := { r.marks with
        status := r.marks.status || (inService r.presence && decide (s.statusKey i ≠ key)) } }
  | _ => s

/-- An ITEM order is acknowledged (R143). -/
def acknowledgeItem (j : ScreenId) (i : ItemId) (key : ItemKey) (s : State) : State :=
  s.modScreen j fun c => { c with
    itemSent := c.itemSent.set i.val (some key)
    itemMarks := c.itemMarks.set i.val
      (c.itemMarks[i] || (inService c.presence && decide (s.itemKey i ≠ key))) }

/-- A display order fails: its last-sent record becomes UNKNOWN (R143). -/
def forgetDisplay (u : Station) (content : OrderContent) (s : State) : State :=
  match u, content with
  | .seat i, .label _ => s.modSeat i fun r => { r with labelSent := none }
  | .seat i, .status _ _ => s.modSeat i fun r => { r with statusSent := none }
  | .screen j, .item i _ _ => s.modScreen j fun c => { c with itemSent := c.itemSent.set i.val none }
  | _, _ => s

end Sys2Proof.Machine
end

