-- ==== Sys2Proof/Machine/Change.lean ====
section
/-! DEFINITION. What a completed change hands on (R14, R85): the consequences of role changes, one recompute of
levels, the SEAT and FLOOR notice marks and the display marks. Every key event, request, timer action, card
event or presence change goes through `change` once. -/

namespace Sys2Proof.Machine

/-- What makes a SEAT notice of a seat due (R77, R85, R180): its presence and kind, any field of its card part, and
its effective role. -/
structure SeatReport where
  presence : Presence
  kind : Option UnitKind
  card : CardPart
  role : EffectiveRole × RoleDef
deriving DecidableEq

/-- What makes a SEAT notice of a seat due (R77, R85, R180). -/
def State.seatReport (s : State) (i : SeatId) : SeatReport where
  presence := (s.seat i).presence
  kind := (s.seat i).kind
  card := (s.seat i).card
  role := s.roleKey i

/-- Mark the SEAT notices of the units that a change from `s0` to `s1` altered (R180). -/
def markSeatNotices (s0 s1 : State) : State :=
  let s2 := allSeats.foldl (fun s i =>
    if s0.seatReport i = s1.seatReport i then s else markSeat (.seat i) s) s1
  allScreens.foldl (fun s j =>
    if (s0.screen j).presence = (s1.screen j).presence ∧ (s0.screen j).kind = (s1.screen j).kind
    then s else markSeat (.screen j) s) s2

/-- Hand on the effects of a change from `s0` to `s1` (R14, R61, R85); `force` calls for the recompute whatever
changed. -/
def finishChange (force : Bool) (s0 s1 : State) : State :=
  let s2 := roleConsequences s0 s1
  let s3 := if force || levelsDue s0 s2 then recompute s2 else s2
  let s4 := markSeatNotices s0 s3
  let s5 := if s0.floorReport = s4.floorReport then s4 else markFloor s4
  markDisplays s0 s5

/-- Apply a change whole and hand its effects on (R14). -/
def change (f : State → State) (s : State) : State := finishChange false s (f s)

/-- Apply a change that calls for a recompute of levels (R61). -/
def changeLevels (f : State → State) (s : State) : State := finishChange true s (f s)

end Sys2Proof.Machine
end

