-- ==== Sys2Proof/Machine/Cards.lean ====
section
/-! DEFINITION. Cards at the seats and the roster (R77 to R83): insertion, removal, the FETCH answer, binding and
unbinding, and the roster's load and drop. These are steps inside a change (Change.lean). -/

namespace Sys2Proof.Machine

/-- Change the card part of a seat. -/
def modCard (i : SeatId) (f : CardPart → CardPart) (s : State) : State :=
  s.modSeat i fun r => { r with card := f r.card }

/-- Write the bound seat of a roster attendee (R77). -/
def setBoundSeat (a : Nat) (seat : Option SeatId) (s : State) : State :=
  s.setSeq { s.seq with
    roster := s.seq.roster.map fun l => l.modify a fun r => { r with boundSeat := seat } }

/-- The roster attendee whose card identity equals the identity read, with the roster index (R79). -/
def State.findAttendee (s : State) (identity : List Byte) : Option (RosterEntry × Nat) :=
  s.rosterList.find? fun p => p.1.attendee.card == some identity

/-- A card that has been read is HELD, BOUND, DUPLICATE or UNLISTED (R79, R82). -/
def placeCard (i : SeatId) (identity : List Byte) (role : RoleId) (s : State) : State :=
  let card (state : CardState) (a : Option Nat) : CardPart :=
    { state := state, identity := some identity, role := some role, attendee := a, unreadable := false }
  if s.seq.roster = none then modCard i (fun _ => card .held none) s
  else
    match s.findAttendee identity with
    | none => modCard i (fun _ => card .unlisted none) s
    | some (r, a) =>
      if r.boundSeat = none then
        setBoundSeat a (some i) (modCard i (fun _ => card .bound (some a)) s)
      else modCard i (fun _ => card .duplicate (some a)) s

/-- The seat that an unbinding promotes: the first in seat order in DUPLICATE of that attendee (R80). -/
def State.promoted (s : State) (a : Nat) : Option SeatId :=
  allSeats.find? fun j =>
    decide ((s.seat j).card.state = .duplicate ∧ (s.seat j).card.attendee = some a)

/-- Unbind the attendee bound at a seat, with the promotion of R80. -/
def unbind (i : SeatId) (s : State) : State :=
  match s.boundAttendee i with
  | none => s
  | some a =>
    match s.promoted a with
    | some j => modCard j (fun c => { c with state := .bound }) (setBoundSeat a (some j) s)
    | none => setBoundSeat a none s

/-- Clear the card part of a seat (R81 steps 2 and 3, R83). -/
def clearCard (i : SeatId) (s : State) : State := modCard i (fun _ => CardPart.empty) (unbind i s)

/-- Write the fetch mark of a seat. -/
def setFetchMark (i : SeatId) (b : Bool) (s : State) : State :=
  s.modSeat i fun r => { r with fetchMark := b }

/-- An insertion (R78). -/
def insertCard (i : SeatId) (s : State) : State :=
  setFetchMark i true (modCard i (fun _ => { CardPart.empty with state := .reading }) s)

/-- A seat's floor entry ends: it is closed with the reason, advancing included, or withdrawn (R34, R81). -/
def endFloorEntry (reason : CloseReason) (i : SeatId) (s : State) : State :=
  if s.speaking i then closeAdvance reason i s else withdrawSeat i s

/-- A removal of a read card (R81). -/
def removeCard (i : SeatId) (s : State) : State := clearCard i (endFloorEntry .cardOut i s)

/-- The card part of a poll answer is taken (R78). -/
def takeCard (i : SeatId) (present seen : Bool) (s : State) : State :=
  let c := (s.seat i).card
  match c.state with
  | .none =>
    if !present then modCard i (fun c => { c with unreadable := false }) s
    else if seen || !c.unreadable then insertCard i s
    else s
  | .reading =>
    if present then s else setFetchMark i false (modCard i (fun _ => CardPart.empty) s)
  | _ =>
    if !present then removeCard i s
    else if seen then insertCard i (removeCard i s)
    else s

/-- A clean FETCH answer is taken by the length of the identity (R79); it is discarded where the seat is no
longer READING (R189). -/
def takeIdentity (i : SeatId) (identity : List Byte) (s : State) : State :=
  if (s.seat i).card.state ≠ .reading then s
  else if identity.length = 0 then modCard i (fun _ => CardPart.empty) s
  else if identity.length < 4 ∨ 16 < identity.length then
    modCard i (fun _ => { CardPart.empty with unreadable := true }) s
  else placeCard i identity (s.cardRole identity) s

/-- One HELD seat is searched in a roster that has been loaded (R82). -/
def searchHeld (s : State) (i : SeatId) : State :=
  let c := (s.seat i).card
  match c.state, c.identity, c.role with
  | .held, some identity, some role => placeCard i identity role s
  | _, _, _ => s

/-- A roster is loaded, and the HELD seats are searched in it in seat order (R82, R108). -/
def loadRoster (attendees : List Attendee) (s : State) : State :=
  allSeats.foldl searchHeld
    (s.setSeq { s.seq with roster := some (attendees.map fun a => ⟨a, none, 0⟩) })

/-- The card part at a roster drop (R82). -/
def dropCard (c : CardPart) : CardPart :=
  if c.state = .bound ∨ c.state = .unlisted ∨ c.state = .duplicate then
    { c with state := .held, attendee := none }
  else c

/-- The roster is dropped (R82). -/
def dropRoster (s : State) : State :=
  let s1 := s.setSeq { s.seq with roster := none }
  s1.setSeats (s1.seats.map fun r => { r with card := dropCard r.card })

end Sys2Proof.Machine
end

