-- ==== Sys2Proof/Machine/Presence.lean ====
section
/-! DEFINITION. Seat service (chapter 9, less the arbiter): pending sets (R190), presence (R184, R185), the return
of a unit (R187, R188), taking a poll answer (R182, R183), and the outcomes of orders and fetches (R162,
R189, R191). -/

namespace Sys2Proof.Machine

/-! ## Pending sets (R190) -/

/-- Write the mark of one order kind of a seat. -/
def SeatPending.put (p : SeatPending) (k : OrderKind) (b : Bool) : SeatPending :=
  match k with
  | .confirm => { p with confirm := b }
  | .speaker => { p with speaker := b }
  | .mic => { p with mic := b }
  | .gain => { p with gain := b }
  | .status => { p with status := b }
  | .label => { p with label := b }
  | .item _ => p

/-- Write the mark of one order kind of a unit. -/
def putMark (u : Station) (k : OrderKind) (b : Bool) (s : State) : State :=
  match u, k with
  | .seat i, k => s.modSeat i fun r => { r with marks := r.marks.put k b }
  | .screen j, .confirm => s.modScreen j fun c => { c with confirmMark := b }
  | .screen j, .item i => s.modScreen j fun c => { c with itemMarks := c.itemMarks.set i.val b }
  | .screen _, _ => s

/-- The kind of an order by its content. -/
def contentKind : OrderContent → OrderKind
  | .confirm => .confirm
  | .speaker _ => .speaker
  | .mic _ => .mic
  | .gain _ => .gain
  | .status _ _ => .status
  | .label _ => .label
  | .item i _ _ => .item i

/-! ## Presence (R184) -/

/-- Write the presence and the miss count of a unit. -/
def setPresence (u : Station) (p : Presence) (misses : Nat) (s : State) : State :=
  match u with
  | .seat i => s.modSeat i fun r => { r with presence := p, missCount := misses }
  | .screen j => s.modScreen j fun c => { c with presence := p, missCount := misses }

/-- The miss count of a unit. -/
def State.missCount (s : State) : Station → Nat
  | .seat i => (s.seat i).missCount
  | .screen j => (s.screen j).missCount

/-- Confirm outstanding of a unit (R188). -/
def State.confirmOutstanding (s : State) : Station → Bool
  | .seat i => (s.seat i).confirmOutstanding
  | .screen j => (s.screen j).confirmOutstanding

/-- Write confirm outstanding of a unit. -/
def setConfirm (u : Station) (b : Bool) (s : State) : State :=
  match u with
  | .seat i => s.modSeat i fun r => { r with confirmOutstanding := b }
  | .screen j => s.modScreen j fun c => { c with confirmOutstanding := b }

/-- A clean exchange with a PRESENT or SILENT unit (R184). -/
def recordClean (u : Station) (s : State) : State :=
  match s.presence u with
  | .present => setPresence u .present 0 s
  | .silent => markSeat u (setPresence u .present 0 s)
  | _ => s

/-! ## LOST (R170, R176, R185) -/

/-- A unit's own part of becoming LOST (R185 step 4 and the miss count). -/
def dropUnit (s : State) (u : Station) : State :=
  let s1 := setConfirm u false (setPresence u .lost 0 s)
  match u with
  | .seat i => setFetchMark i false s1
  | .screen _ => s1

/-- The seats among some units. -/
def seatsOf (us : List Station) : List SeatId :=
  us.filterMap fun u => match u with | .seat i => some i | .screen _ => none

/-- Some units become LOST within one change (R185 steps 1, 2 and 4): the speakers are closed in list order, the
requests are withdrawn, and the card parts are cleared. DEDUCED (log entry 11): a LOST seat that the advancing after a
close meets at the head of the request list is withdrawn there under R12, with refusal code NOT_PERMITTED. -/
def loseCore (us : List Station) (s : State) : State :=
  let lost := seatsOf us
  let s1 := us.foldl dropUnit s
  let s2 := ((s1.floor.speakers.map (·.seat)).filter (· ∈ lost)).foldl
    (fun s i => closeAdvance .lost i s) s1
  let s3 := lost.foldl (fun s i => withdrawSeat i s) s2
  lost.foldl (fun s i => clearCard i s) s3

/-- Some units become LOST as one change; the seats freeze after its recompute (R68, R185). -/
def loseUnits (us : List Station) (s : State) : State :=
  (seatsOf us).foldl (fun s i => freezeSeat i s) (changeLevels (loseCore us) s)

/-- The PRESENT and SILENT units of a line. -/
def State.unitsInService (s : State) (l : LineId) : List Station :=
  (stationsOfLine l).filter fun u => inService (s.presence u)

/-- A miss of a unit (R184): SILENT, or LOST at the third. -/
def recordMiss (u : Station) (s : State) : State :=
  match s.presence u with
  | .present => markSeat u (setPresence u .silent 1 s)
  | .silent =>
    if s.missCount u + 1 < 3 then setPresence u .silent (s.missCount u + 1) s
    else loseUnits [u] s
  | _ => s

/-! ## ABSENT (R175, R177) -/

/-- A unit's part of becoming ABSENT within one change (R83, R153, R179, R182, R190). -/
def absentCore (u : Station) (s : State) : State :=
  match u with
  | .seat i =>
    let s1 := clearCard i (endFloorEntry .lost i (setPresence u .absent 0 s))
    s1.modSeat i fun r => { r with
      kind := none
      heldMic := none
      heldNext := none
      heldCard := none
      heldPriority := false
      confirmOutstanding := false
      fetchMark := false
      marks := SeatPending.empty
      labelSent := none
      statusSent := none }
  | .screen j =>
    s.modScreen j fun c => { c with
      presence := .absent
      missCount := 0
      kind := none
      confirmOutstanding := false
      confirmMark := false
      itemMarks := Vector.replicate 16 false
      itemSent := Vector.replicate 16 none }

/-! ## Returns (R187) -/

/-- A unit's part of a return within one change (R69, R153, R187). -/
def returnCore (u : Station) (kind : UnitKind) (s : State) : State :=
  match u with
  | .seat i =>
    let s1 := clearCard i (setPresence u .present 0 (endFloorEntry .lost i s))
    markSeat u (s1.modSeat i fun r => { r with
      kind := some kind
      heldMic := none
      heldNext := none
      heldCard := none
      heldPriority := false
      fetchMark := false
      sentMic := none
      sentSpeaker := none
      frozen := false
      labelSent := none
      statusSent := none
      marks := ⟨true, true, true, true, true, true⟩
      confirmOutstanding := true })
  | .screen j =>
    markSeat u (s.modScreen j fun c => { c with
      presence := .present
      missCount := 0
      kind := some kind
      itemSent := Vector.replicate 16 none
      itemMarks := Vector.replicate 16 true
      confirmMark := true
      confirmOutstanding := true })

/-- A unit returns, as one change (R187). -/
def returnUnit (u : Station) (kind : UnitKind) (s : State) : State :=
  changeLevels (returnCore u kind) s

/-! ## Taking a poll answer (R183) -/

/-- A key or card event of a line's unit resets the idle count, and a sleep that is due is given up (R168,
R169). -/
def resetIdle (l : LineId) (s : State) : State :=
  s.modLine l fun x => { x with idle := 0, minuteLast := s.now, sleepDue := false }

/-- The presses found by comparing a count with the held count (R182). -/
def presses (held : Option Nat) (count : Nat) : Nat :=
  match held with
  | none => 0
  | some h => (count + 4 - h) % 4

/-- Apply a step a number of times, each whole before the next. -/
def repeatStep (f : State → State) : Nat → State → State
  | 0, s => s
  | n + 1, s => repeatStep f n (f s)

/-- A card is in the reader as far as the record knows (R78). -/
def cardThere (c : CardPart) : Bool := c.state != .none || c.unreadable

/-- Step 3 of R183: the card part of an answer from a seat. -/
def takeCardFields (i : SeatId) (f : PollFields) (s : State) : State :=
  let r := s.seat i
  let seen := r.heldCard != none && r.heldCard != some f.card
  let event := seen || cardThere r.card != f.cardPresent
  let s1 := s.modSeat i fun r => { r with heldCard := some f.card }
  let s2 := if event then resetIdle (lineOfSeat i) s1 else s1
  change (takeCard i f.cardPresent seen) s2

/-- A key event of a seat, as one change (R14, R18). A refusal code it sets, or replaces by the same one, has the seat's
status re-evaluated (R149); `acts` says whether the floor controller takes the event. -/
def keyEvent (i : SeatId) (acts : Bool) (f : State → State) (s : State) : State :=
  let t := change f s
  if acts && (t.seat i).refusal.isSome then remarkStatus i t else t

/-- Whether the floor controller takes a NEXT press or a going-held event of a seat (R17, R18). -/
def State.chairKeyActs (s : State) (i : SeatId) : Bool := s.floor.isOpen && (s.seat i).kind == some .chair

/-- Step 4 of R183: the MIC presses of an answer. -/
def takeMic (i : SeatId) (f : PollFields) (s : State) : State :=
  let n := presses (s.seat i).heldMic f.mic
  let s1 := s.modSeat i fun r => { r with heldMic := some f.mic }
  let s2 := if n = 0 then s1 else resetIdle (lineOfSeat i) s1
  repeatStep (fun s => keyEvent i s.floor.isOpen (micPress i) s) n s2

/-- Step 4 of R183: the NEXT presses of an answer. -/
def takeNext (i : SeatId) (f : PollFields) (s : State) : State :=
  let n := presses (s.seat i).heldNext f.next
  let s1 := s.modSeat i fun r => { r with heldNext := some f.next }
  let s2 := if n = 0 then s1 else resetIdle (lineOfSeat i) s1
  repeatStep (fun s => keyEvent i (s.chairKeyActs i) (nextPress i) s) n s2

/-- Step 4 of R183: a change of the PRIORITY level (R23, R182). -/
def takePriority (i : SeatId) (f : PollFields) (s : State) : State :=
  if (s.seat i).heldPriority = f.priority then s
  else
    let s1 := resetIdle (lineOfSeat i) (s.modSeat i fun r => { r with heldPriority := f.priority })
    if f.priority then keyEvent i (s1.chairKeyActs i) (priorityHeld i) s1 else change (priorityReleased i) s1

/-- Steps 3 and 4 of R183 for a seat. -/
def takeFields (i : SeatId) (f : PollFields) (s : State) : State :=
  takePriority i f (takeNext i f (takeMic i f (takeCardFields i f s)))

/-- Steps 1 and 2 of R183: presence, then the return check. -/
def takePresence (u : Station) (f : PollFields) (s : State) : State :=
  let s1 := if s.presence u = .lost then returnUnit u f.kind s else recordClean u s
  if (f.fresh && !s1.confirmOutstanding u) || s1.kind u != some f.kind then returnUnit u f.kind s1
  else s1

/-- A clean poll answer is taken (R183). A unit made LOST by a RESCAN while a poll of it that was no probe was on
the line gives no answer (log entry 12). -/
def takePoll (u : Station) (probe : Bool) (f : PollFields) (s : State) : State :=
  if inService (s.presence u) || (probe && s.presence u == .lost) then
    match u with
    | .seat i => takeFields i f (takePresence u f s)
    | .screen _ => takePresence u f s
  else s

/-! ## Outcomes of orders and fetches -/

/-- A clean FETCH answer is taken, as one change (R79, R184). -/
def takeFetch (i : SeatId) (identity : List Byte) (s : State) : State :=
  change (takeIdentity i identity) (recordClean (.seat i) s)

/-- A FETCH failed or was abandoned: it is marked again while the seat is READING (R79, R162, R163, R189). -/
def refetch (i : SeatId) (s : State) : State :=
  if inService (s.seat i).presence && (s.seat i).card.state == .reading then setFetchMark i true s else s

/-- An order is acknowledged: it is handed to the block that formed it (R66, R143, R188). DEDUCED (log entry 49): a
level order that is acknowledged after a RESCAN has made its seat LOST updates the sent value as R66 says. -/
def takeAcknowledgement (u : Station) (content : OrderContent) (s0 : State) : State :=
  let s := recordClean u s0
  match u, content with
  | _, .confirm => setConfirm u false s
  | .screen j, .item i key _ => acknowledgeItem j i key s
  | .seat i, .label t => acknowledgeSeatDisplay i (.label t) s
  | .seat i, .status k n => acknowledgeSeatDisplay i (.status k n) s
  | .seat i, c => s.modSeat i (acknowledgeLevel c)
  | _, _ => s

/-- An order fails or is abandoned: it is marked again, and a display record becomes UNKNOWN (R67, R143, R162,
R163). -/
def takeOrderFailure (u : Station) (content : OrderContent) (s : State) : State :=
  forgetDisplay u content (putMark u (contentKind content) true s)

end Sys2Proof.Machine
end

