-- ==== Sys2Proof/Machine/Arbiter.lean ====
section
/-! DEFINITION. The line arbiter (R186, R191 to R196): the poll round, the choice of orders and fetches, what an order
carries on the line (R158, R223), and what follows on a RUNNING line (R169, R172, R176). -/

namespace Sys2Proof.Machine

/-! ## What an order carries -/

/-- A number for a refusal code, in the order of R7, R19 to R24. -/
def refusalNumber : RefusalCode → Nat
  | .full => 0 | .queueFull => 1 | .noneWaiting => 2 | .noOwnClose => 3 | .notPermitted => 4
  | .cardNeeded => 5 | .cardInUse => 6 | .timeUsed => 7

/-- The index of a status code among the codes, by which its unstated number is asked (R147). -/
def statusIndex : StatusCode → Nat
  | .lobby => 0 | .roomClosed => 1 | .muted => 2 | .speakingOver => 3 | .speakingWarn => 4
  | .speaking => 5 | .request => 6 | .idle => 7
  | .refusal c => 8 + refusalNumber c

/-- The index of a phase, 0 for none (R102, R115). -/
def phaseIndex : Option Phase → Nat
  | none => 0
  | some .loading => 1
  | some .lobby => 2
  | some .inSession => 3

/-- An optional number as two numbers. -/
def optionNumbers : Option Nat → List Nat
  | none => [0, 0]
  | some n => [1, n]

/-- A yes/no as a number. -/
def boolNumber (b : Bool) : Nat := if b then 1 else 0

/-- The data bytes of item 0, the title, in the order of R150's table: 48 for a current meeting, phase, number, title of
width 35, start, end and resumed flag. DEDUCED (log entry 4): the other two contents are laid out alike. -/
def titleData : ItemKey → Option (List Byte)
  | .title p n t st en r =>
    some ([Config.unnumbered .phase (phaseIndex (some p))] ++ put2 n ++ putText 35 t ++ put4 st ++ put4 en
      ++ putYesNo r)
  | .titleNext n t st =>
    some ([Config.unnumbered .phase (phaseIndex none)] ++ putYesNo true ++ put2 n ++ putText 35 t ++ put4 st)
  | .titleNone => some ([Config.unnumbered .phase (phaseIndex none)] ++ putYesNo false)
  | _ => none

/-- The numbers and the text of an item's content, from which unstated data bytes are formed. -/
def itemNumbers : ItemKey → List Nat × Text
  | .title p n t st en r => ([0, phaseIndex (some p), n, st, en, boolNumber r], t)
  | .titleNext n t st => ([1, n, st], t)
  | .titleNone => ([2], [])
  | .clock m p left toStart w =>
    ([3] ++ optionNumbers m ++ [phaseIndex p]
      ++ (match left with | none => [0, 0, 0] | some x => [1, x.natAbs, boolNumber (decide (x < 0))])
      ++ optionNumbers toStart ++ [boolNumber w], [])
  | .speaker sp i t c m w o k l =>
    ([4, sp, i.val, boolNumber c, boolNumber m, boolNumber w, boolNumber o,
      (match k with | .elapsed => 0 | .left => 1 | .over => 2)] ++ optionNumbers l, t)
  | .queue i t b => ([5, i.val, b], t)
  | .empty => ([6], [])

/-- The numbers and the text that an order carries. -/
def contentNumbers : OrderContent → List Nat × Text
  | .confirm => ([], [])
  | .speaker .mute => ([0], [])
  | .speaker (.code n) => ([1, n], [])
  | .mic .off => ([0], [])
  | .mic (.gain n) => ([1, n], [])
  | .gain n => ([n], [])
  | .status k n => ([statusIndex k.code, n], [])
  | .label t => ([], t)
  | .item _ k n => ((itemNumbers k).1 ++ [n], (itemNumbers k).2)

/-- The data bytes of a whole order: CONFIRM carries none (R188), the title is laid out by R150, and any other is a free
value (log entry 4). -/
def orderData (content : OrderContent) : List Byte :=
  let free := Config.orderData (orderCode content .whole) (contentNumbers content).1 (contentNumbers content).2
  match content with
  | .confirm => []
  | .item _ key _ => (titleData key).getD free
  | _ => free

/-- The data bytes of a segment: 24 in the first, the rest, at most 24, in the second (R196). -/
def segmentData (content : OrderContent) (seg : Segment) : List Byte :=
  match seg with
  | .whole => (orderData content).take 24
  | .first => (orderData content).take 24
  | .second => ((orderData content).drop 24).take 24

/-! ## The controller's messages (R157, R158, R223) -/

/-- The header of an exchange's message: an ORDER for a unit at its address and a broadcast order at address 0, an
ASSIGN at address 63 (R158, R172, R173, R223). -/
def exchangeHeader : Exchange → Byte
  | .poll addr _ => headerByte .poll addr
  | .confirmPoll k => headerByte .poll k
  | .screenPoll addr => headerByte .poll addr
  | .fetch i => headerByte .fetch (positionOfSeat i)
  | .assign _ => headerByte .assign 63
  | .order u _ _ => headerByte .order (addressOf u)
  | .sleep => headerByte .order 0
  | .unassign => headerByte .order 0

/-- The code byte of an exchange's message: 0 for a POLL and a FETCH, the position for an ASSIGN, the kind for an order
(R158, R223). -/
def exchangeCode : Exchange → Byte
  | .poll _ _ => 0x00
  | .confirmPoll _ => 0x00
  | .screenPoll _ => 0x00
  | .fetch _ => 0x00
  | .assign k => BitVec.ofNat 8 k
  | .order _ c seg => orderCode c seg
  | .sleep => 0x0E
  | .unassign => 0x0F

/-- The data bytes of an exchange's message. -/
def exchangeData : Exchange → List Byte
  | .order _ c seg => segmentData c seg
  | _ => []

/-- The message of an exchange less its check byte (R158). -/
def exchangeBody (x : Exchange) : List Byte := messageBody (exchangeHeader x) (exchangeCode x) (exchangeData x)

/-- The check byte the controller sends with an exchange (R158). -/
def exchangeCheck (x : Exchange) : Byte := lineCheck (exchangeBody x)

/-- A character that the controller sends: its data bits and its marker bit (R157). -/
structure SentChar where
  data : Byte
  marker : Bool
deriving DecidableEq, Repr

/-- The characters the controller sends for an exchange: marker 1 on the header and 0 on every other (R157, R158). -/
def exchangeChars (x : Exchange) : List SentChar :=
  (messageBytes (exchangeHeader x) (exchangeCode x) (exchangeData x)).zipIdx.map fun p => ⟨p.1, p.2 == 0⟩

/-- The check byte the controller sends with an order (R158, R159). -/
def orderCheck (u : Station) (content : OrderContent) (seg : Segment) : Byte :=
  exchangeCheck (.order u content seg)

/-! ## The poll round (R186, R192) -/

/-- The addresses of a line whose unit has a presence that satisfies a test, in address order. -/
def State.addressesWith (s : State) (l : LineId) (test : Presence → Bool) : List Nat :=
  addresses.filter fun a =>
    match stationAt l a with
    | some u => test (s.presence u)
    | none => false

/-- The addresses of the PRESENT and SILENT units of a line. -/
def State.servedAddresses (s : State) (l : LineId) : List Nat := s.addressesWith l inService

/-- The addresses of the LOST units of a line. -/
def State.lostAddresses (s : State) (l : LineId) : List Nat := s.addressesWith l (· == .lost)

/-- The next poll of the round in progress (R192). -/
def State.pollInRound (s : State) (l : LineId) : Option Exchange :=
  let r := (s.line l).round
  if !r.begun then none
  else
    match (s.servedAddresses l).find? (fun a => decide (r.lastPolled < a)) with
    | some a => some (.poll a false)
    | none =>
      if r.probing then
        ((s.lostAddresses l).find? (fun a => decide (r.lastProbed < a))).map fun a => .poll a true
      else none

/-- A new round begins (R186, R192): a round of number 0 is a probing round, and so is one that begins with no
PRESENT or SILENT unit. -/
def State.newRound (s : State) (l : LineId) : Round :=
  let r := (s.line l).round
  let number := if r.begun then (r.number + 1) % 8 else 0
  { number := number
    begun := true
    probing := number == 0 || (s.servedAddresses l).isEmpty
    lastPolled := 0
    lastProbed := 0 }

/-- Begin a new round on a line. -/
def beginRound (l : LineId) (s : State) : State :=
  s.setLine l { s.line l with round := s.newRound l }

/-- Put an exchange on the line. -/
def putExchange (l : LineId) (x : Exchange) (s : State) : State :=
  s.modLine l fun y => { y with activity := .exchange x, begun := false }

/-- The engine makes no exchange. -/
def quietLine (l : LineId) (s : State) : State :=
  s.modLine l fun y => { y with activity := .none, begun := false }

/-- The next poll of the round; a round that has ended is followed at once by the next where some unit is PRESENT
or SILENT, and otherwise the line waits for a second event (R192). -/
def choosePoll (l : LineId) (s : State) : Option State :=
  match s.pollInRound l with
  | some x => some (putExchange l x s)
  | none =>
    if s.servedAddresses l = [] then none
    else
      let s1 := beginRound l s
      (s1.pollInRound l).map fun x => putExchange l x s1

/-! ## Claims (R193, R194) -/

/-- The first urgent kind pending at a unit (R194). -/
def State.urgentKind (s : State) (u : Station) : Option OrderKind :=
  match u with
  | .seat i =>
    let m := (s.seat i).marks
    if m.confirm then some .confirm else if m.speaker then some .speaker
    else if m.mic then some .mic else if m.gain then some .gain else none
  | .screen j => if (s.screen j).confirmMark then some .confirm else none

/-- The first bulk kind pending at a unit (R194). -/
def State.bulkKind (s : State) (u : Station) : Option OrderKind :=
  match u with
  | .seat i =>
    let m := (s.seat i).marks
    if m.status then some .status else if m.label then some .label else none
  | .screen j => ((List.finRange 16).find? fun i => (s.screen j).itemMarks[i]).map .item

/-- Whether a seat has its fetch mark set. -/
def State.fetchDue (s : State) (u : Station) : Bool :=
  match u with
  | .seat i => (s.seat i).fetchMark
  | .screen _ => false

/-- The PRESENT and SILENT units of a line in address order, those after a pointer first (R194). -/
def State.inTurn (s : State) (l : LineId) (pointer : Option Nat) : List Station :=
  let units := s.unitsInService l
  match pointer with
  | none => units
  | some p =>
    (units.filter fun u => decide (p < addressOf u)) ++ (units.filter fun u => decide (addressOf u ≤ p))

/-- An order of a kind is chosen for a unit: its mark is cleared and its content is formed, or it is dropped
(R63 to R65, R142, R191). -/
def formOrder (u : Station) (k : OrderKind) (s : State) : Option OrderContent × State :=
  let s1 := putMark u k false s
  match u, k with
  | _, .confirm => (some .confirm, s1)
  | .seat i, .speaker =>
    let (c, r) := chooseSpeaker (s.seat i)
    (c, s.modSeat i fun _ => r)
  | .seat i, .mic =>
    let (c, r) := chooseMic (s.seat i)
    (c, s.modSeat i fun _ => r)
  | .seat i, .gain =>
    let (c, r) := chooseGain s.masters.slew (s.seat i)
    (c, s.modSeat i fun _ => r)
  | .seat i, .status => (s.chooseStatus i, s1)
  | .seat i, .label => (s.chooseLabel i, s1)
  | .screen j, .item i => (s.chooseItem j i, s1)
  | _, _ => (none, s1)

/-- Whether an order goes as two segments (R196). -/
def firstSegment : OrderContent → Segment
  | .item _ k _ => if itemLong k then .first else .whole
  | _ => .whole

/-- Serve one order of a class (R191, R194): the search starts from the pointer as it stood before the choice, and
a dropped order leads to another choice; the pointer then names the unit last served or dropped (log entry
20). `fuel` bounds the orders dropped. -/
def serveOrder (kind : State → Station → Option OrderKind) (setPtr : Nat → Line → Line) (l : LineId)
    (pointer : Option Nat) : Nat → State → Bool × State
  | 0, s => (false, s)
  | fuel + 1, s =>
    match (s.inTurn l pointer).find? (fun u => (kind s u).isSome) with
    | none => (false, s)
    | some u =>
      match kind s u with
      | none => (false, s)
      | some k =>
        let (content, s1) := formOrder u k s
        let s2 := s1.modLine l (setPtr (addressOf u))
        match content with
        | some c => (true, putExchange l (.order u c (firstSegment c)) s2)
        | none => serveOrder kind setPtr l pointer fuel s2

/-- One urgent order (R193 step 3). -/
def serveUrgent (l : LineId) (s : State) : Bool × State :=
  serveOrder State.urgentKind (fun a x => { x with urgentPtr := some a }) l (s.line l).urgentPtr 600 s

/-- One bulk order (R193 step 5). -/
def serveBulk (l : LineId) (s : State) : Bool × State :=
  serveOrder State.bulkKind (fun a x => { x with bulkPtr := some a }) l (s.line l).bulkPtr 600 s

/-- One FETCH (R193 step 4). -/
def serveFetch (l : LineId) (s : State) : Bool × State :=
  match (s.inTurn l (s.line l).fetchPtr).find? s.fetchDue with
  | some (.seat i) =>
    (true, putExchange l (.fetch i)
      (setFetchMark i false (s.modLine l fun x => { x with fetchPtr := some (positionOfSeat i) })))
  | _ => (false, s)

/-- Steps 3 to 6 of the arbiter's choice (R193). DESIGN CHOICE (log entry 70): after a failed first segment the item,
pending again at its SILENT screen, is served at step 5, where the worked sequence 9.8 goes on with the poll of step 6. -/
def chooseClaim (l : LineId) (s : State) : State :=
  let (a, s1) := serveUrgent l s
  if a then s1
  else
    let (b, s2) := serveFetch l s1
    if b then s2
    else
      let (c, s3) := serveBulk l s2
      if c then s3
      else (choosePoll l s3).getD (quietLine l s3)

/-- The arbiter's choice on a RUNNING line (R193). -/
def arbiter (l : LineId) (s : State) : State :=
  let x := s.line l
  match x.second with
  | some (j, c) =>
    putExchange l (.order (.screen j) c .second) (s.setLine l { x with second := none })
  | none =>
    if 4 ≤ x.others then
      match choosePoll l s with
      | some s1 => s1
      | none => chooseClaim l s
    else chooseClaim l s

/-! ## What follows on the line (R169, R172, R176) -/

/-- Enumeration begins (R172). -/
def beginEnumeration (l : LineId) (s : State) : State :=
  s.modLine l fun x => { x with
    state := .enumerating
    cause := none
    enumOwed := true
    sleepDue := false
    enumeration := EnumState.initial
    activity := .exchange .unassign
    begun := false }

/-- What a RUNNING line's engine does next: the second segment that is due, the enumeration of a RESCAN, the SLEEP
that is due, or the arbiter's choice (R169, R176, R193). DESIGN CHOICE (log entry 65): where SLEEP is due and a RESCAN
waits, the line enumerates and the sleep is dropped. -/
def nextExchange (l : LineId) (s : State) : State :=
  let x := s.line l
  if x.second.isSome then arbiter l s
  else if x.rescans ≠ [] then beginEnumeration l s
  else if x.sleepDue then putExchange l .sleep s
  else arbiter l s

end Sys2Proof.Machine
end

