-- ==== Sys2Proof/Machine/Meetings.lean ====
section
/-! DEFINITION. The meeting sequencer: the evaluation of the meeting sequence (R103 to R110), roster loads (R107,
R108), admission tests (R92, R95, R96), the completion of booking changes (R93 to R99, R112, R113), and the
minute event (R88, R168). -/

namespace Sys2Proof.Machine

/-! ## Lines asked to wake (R108, R166) -/

/-- A controller wake begins: the line enters WAKING (R166). -/
def wakeLine (l : LineId) (s : State) : State :=
  s.modLine l fun x => { x with state := .waking, activity := .wake, begun := false }

/-- The sleep of a RUNNING line is given up: its idle count is 0, and a SLEEP on the line that has not been sent clean
gives way to the line's next exchange (R169). DESIGN CHOICE (log entry 21): a SLEEP that is being sent is broken off,
and no gap is left before the next header, at which the units drop it (R157). -/
def giveUpSleep (l : LineId) (s : State) : State :=
  let s1 := s.modLine l fun x => { x with idle := 0, sleepDue := false }
  if (s.line l).activity = .exchange .sleep then nextExchange l (quietLine l s1) else s1

/-- A booking entered LOBBY or IN_SESSION: an ASLEEP line wakes, and a RUNNING line stays RUNNING with its idle count
at 0 (R166, R169). -/
def wakeForMeeting (l : LineId) (s : State) : State :=
  match (s.line l).state with
  | .asleep => wakeLine l s
  | .running => giveUpSleep l s
  | _ => s

/-! ## Who is held and who is loading -/

/-- A booking is held by the change in flight that names it (R93). -/
def State.held (s : State) (n : Nat) : Bool :=
  match s.seq.change with
  | some c =>
    match c.kind with
    | .book => false
    | .walkIn => false
    | _ => c.number == n
  | none => false

/-- A booking's roster load is in flight: it is the current meeting in phase LOADING (R102). -/
def State.loading (s : State) (n : Nat) : Bool :=
  match s.seq.current with
  | some c => c.number == n && c.phase == .loading
  | none => false

/-- Write the current meeting. -/
def setCurrent (c : Option Current) (s : State) : State := s.setSeq { s.seq with current := c }

/-- Write the booking change in flight. -/
def setChange (c : Option BookingChange) (s : State) : State := s.setSeq { s.seq with change := c }

/-- Write the state of an index entry; the MEETING notice's last settled booking follows it (R115). -/
def setEntryState (n : Nat) (b : BookingState) (s : State) : State :=
  modEntry n (fun e => { e with state := b }) (followSettled n b s)

/-! ## Steps of the meeting sequence -/

/-- The IN_SESSION booking ends: the floor closes, the roster is dropped, and the booking is DONE (R104). -/
def endCore (n : Nat) (s : State) : State :=
  settleEntry n .done (setCurrent none (dropRoster (closeFloor s)))

/-- The IN_SESSION booking ends, as one change (R104, R113). -/
def endMeeting (n : Nat) (s : State) : State := change (endCore n) s

/-- The end warning is due: the flag is off and end − W ≤ now < end (R105). -/
def State.warningDue (s : State) (c : Current) : Bool :=
  match s.entry c.number, s.now with
  | some e, some now =>
    !c.warned && decide (e.endMin ≤ now + s.seq.room.endWarning ∧ now < e.endMin)
  | _, _ => false

/-- The check of the end warning for the IN_SESSION booking (R105). -/
def warnCore (s : State) : State :=
  match s.seq.current with
  | some c =>
    if c.phase = .inSession ∧ s.warningDue c then
      markMeeting (setCurrent (some { c with warned := true }) s)
    else s
  | none => s

/-- A booking becomes MISSED; a lobby ends with it (R106). -/
def missCore (n : Nat) (s : State) : State :=
  let s1 :=
    match s.seq.current with
    | some c => if c.number = n then setCurrent none (dropRoster s) else s
    | none => s
  settleEntry n .missed s1

/-- A booking is missed: the change, then its STATE record is handed on (R106). -/
def missBooking (s : State) (n : Nat) : State := handOnState n .missed (change (missCore n) s)

/-- The current booking enters IN_SESSION under its own policy, with the check of R105 (R109). -/
def enterCore (c : Current) (s : State) : State :=
  warnCore (markMeeting (setEntryState c.number .inSession
    (setCurrent (some { c with phase := .inSession }) (openFloor c.policy s))))

/-- The current LOBBY booking enters IN_SESSION, as one change, and the lines are asked to wake (R109, R166). -/
def enterSession (c : Current) (s : State) : State :=
  wakeForMeeting .b (wakeForMeeting .a (change (enterCore c) s))

/-- A booking's roster load starts (R107, R110). -/
def startLoad (n : Nat) (resumed : Bool) (s : State) : State :=
  askRead (.roster n) (change (fun s => markMeeting (setCurrent
    (some ⟨n, .loading, resumed, false, Policy.walkIn⟩) s)) s)

/-- Insert an entry by a rising minute, and by rising number among equal minutes. -/
def insertEntry (key : IndexEntry → Nat) (x : IndexEntry) : List IndexEntry → List IndexEntry
  | [] => [x]
  | y :: rest =>
    if key x < key y ∨ (key x = key y ∧ x.number < y.number) then x :: y :: rest
    else y :: insertEntry key x rest

/-- Entries by rising start, and by rising number among equal starts. -/
def byStart (l : List IndexEntry) : List IndexEntry := l.foldr (insertEntry (·.startMin)) []

/-- Step 1 of the evaluation (R104). -/
def evaluateEnd (now : Nat) (s : State) : State :=
  match s.seq.current with
  | some c =>
    match s.entry c.number with
    | some e =>
      if c.phase = .inSession ∧ !s.held c.number ∧ e.endMin ≤ now then
        handOnState c.number .done (endMeeting c.number s)
      else s
    | none => s
  | none => s

/-- Step 2 of the evaluation (R105). -/
def evaluateWarning (s : State) : State :=
  match s.seq.current with
  | some c => if s.held c.number then s else change warnCore s
  | none => s

/-- The bookings that are missed at a minute, in order of start (R106). -/
def State.missedAt (s : State) (now : Nat) : List Nat :=
  ((byStart s.seq.index).filter fun e =>
    decide ((e.state = .pending ∨ e.state = .lobby) ∧ e.endMin ≤ now)
      && !s.held e.number && !s.loading e.number).map (·.number)

/-- Step 4 of the evaluation (R109). -/
def evaluateEntry (now : Nat) (s : State) : State :=
  match s.seq.current with
  | some c =>
    match s.entry c.number with
    | some e =>
      if c.phase = .lobby ∧ !s.held c.number ∧ e.startMin ≤ now then enterSession c s else s
    | none => s
  | none => s

/-- The PENDING booking that a resume takes up (R110). -/
def State.resumable (s : State) (now : Nat) : Option IndexEntry :=
  (byStart s.seq.index).find? fun e =>
    decide (e.state = .pending ∧ e.startMin ≤ now ∧ now < e.endMin) && !s.held e.number

/-- The earliest PENDING booking, if it is due and not held (R107). -/
def State.lobbyDue (s : State) (now : Nat) : Option IndexEntry :=
  match (byStart s.seq.index).find? (fun e => e.state == .pending) with
  | some e =>
    if e.startMin ≤ now + s.seq.room.lobbyLead ∧ now < e.endMin ∧ !s.held e.number then some e
    else none
  | none => none

/-- Step 5 of the evaluation: resume or lobby entry, in RUN while the current meeting is none (R107, R110). -/
def evaluateLobby (now : Nat) (s0 : State) : State :=
  if !s0.link.run then s0
  else
    let resume := s0.seq.resumeMark
    let s := s0.setSeq { s0.seq with resumeMark := false }
    if s.seq.current ≠ none then s
    else
      match (if resume then s.resumable now else none) with
      | some e => startLoad e.number true s
      | none =>
        match s.lobbyDue now with
        | some e => startLoad e.number false s
        | none => s

/-- An evaluation of the meeting sequence (R103), made while the clock is set and the scan has completed. -/
def evaluate (s : State) : State :=
  match s.now with
  | none => s
  | some now =>
    if s.store.engine = .scanning then s
    else
      let s1 := evaluateWarning (evaluateEnd now s)
      let s2 := (s1.missedAt now).foldl missBooking s1
      evaluateLobby now (evaluateEntry now s2)

/-! ## Roster loads (R108) -/

/-- The roster is made and the booking becomes MISSED, IN_SESSION or LOBBY (R108). Where the end has passed the
roster is dropped at once, and the seats whose card state the load changed have their SEAT notices marked (R77,
R82). -/
def enterLoaded (c : Current) (e : IndexEntry) (data : BookingData) (now : Nat) (s : State) : State :=
  let s1 := loadRoster data.attendees s
  let c1 := { c with policy := data.policy }
  if e.endMin ≤ now then missCore c.number (markSeatNotices s s1)
  else if e.startMin ≤ now then
    setEntryState c.number .inSession (markMeeting
      (setCurrent (some { c1 with phase := .inSession }) (openFloor data.policy s1)))
  else setEntryState c.number .lobby (markMeeting (setCurrent (some { c1 with phase := .lobby }) s1))

/-- The result of the current meeting's roster load is taken: failed, or read (R108). A load whose roster is dropped at
once has every label re-evaluated all the same (R145). -/
def takeLoad (c : Current) (result : LoadResult) (s : State) : State :=
  match s.entry c.number with
  | none => setCurrent none s
  | some e =>
    match result with
    | .failed =>
      change (fun s => markFault (.damagedBooking c.number)
        (settleEntry c.number .damaged (setCurrent none s))) s
    | .read data =>
      let now := s.now.getD 0
      let s1 := change (enterLoaded c e data now) s
      if e.endMin ≤ now then handOnState c.number .missed (remarkLabels s1)
      else wakeForMeeting .b (wakeForMeeting .a (remarkItems s1))

/-- A roster load completes (R108): it waits while its booking is held by a CANCEL, it is discarded where its
booking is no longer loading, and otherwise it is taken; an evaluation follows. -/
def completeLoad (n : Nat) (result : LoadResult) (s : State) : State :=
  if s.held n then s.setSeq { s.seq with heldLoad := some result }
  else
    match s.seq.current with
    | some c =>
      if c.number = n ∧ c.phase = .loading then evaluate (takeLoad c result s) else evaluate s
    | none => evaluate s

/-! ## Admission (R92, R95, R96) -/

/-- Two windows conflict under the gap in force (R95). -/
def windowsConflict (gap s e s' e' : Nat) : Bool := decide (s < e' + gap ∧ s' < e + gap)

/-- The conflicting booking with the earliest start, the booking `except` left out (R95). -/
def State.conflict (s : State) (except : Option Nat) (startMin endMin : Nat) : Option IndexEntry :=
  (byStart s.seq.index).find? fun e =>
    holdsWindow e.state && except != some e.number
      && windowsConflict s.seq.room.gap startMin endMin e.startMin e.endMin

/-- The number after `n`, passing from 65535 to 1 (R92). -/
def succNumber (n : Nat) : Nat := if n < 65535 then n + 1 else 1

/-- The next number that has no entry in the index, looking at most `fuel` numbers on (R92). -/
def freeNumber (used : List Nat) : Nat → Nat → Nat
  | 0, n => n
  | fuel + 1, n => if n ∈ used then freeNumber used fuel (succNumber n) else n

/-- The number a new booking takes (R92). -/
def State.nextNumber (s : State) : Nat :=
  freeNumber (s.seq.index.map (·.number)) Config.indexCapacity (succNumber s.seq.lastAssigned)

/-- Entries by rising end, and by rising number among equal ends. -/
def byEnd (l : List IndexEntry) : List IndexEntry := l.foldr (insertEntry (·.endMin)) []

/-- The settled booking that gives room to an admission: the earliest end, then the lowest number (R96). -/
def State.evictable (s : State) : Option Nat :=
  ((byEnd s.seq.index).find? fun e => settled e.state).map (·.number)

/-- Room for an admission (R96): none, no need of any, or the entry that is removed for it. -/
def State.roomForBooking (s : State) : Option (Option Nat) :=
  if s.seq.index.length < Config.indexCapacity then some none else s.evictable.map some

/-! ## Completion of booking changes (R93) -/

/-- The kind byte of a booking change (R218). -/
def changeKindByte : ChangeKind → Byte
  | .book => 0x28 | .walkIn => 0x29 | .amend => 0x2A | .cancel => 0x2B | .extend => 0x2C
  | .endNow => 0x2D

/-- The body of a BOOK or AMEND reply (R220). -/
def admittedBody (n version startMin endMin : Nat) : List Byte :=
  put2 n ++ put1 version ++ put4 startMin ++ put4 endMin

/-- The load that waited for a CANCEL: it is discarded where the booking is no longer loading, and taken
otherwise (R108); without one, an evaluation is made (R93). -/
def afterChange (n : Nat) (s : State) : State :=
  match s.seq.heldLoad with
  | some r => completeLoad n r (s.setSeq { s.seq with heldLoad := none })
  | none => evaluate s

/-- A booking change completes: the hold ends, the reply is formed and an evaluation is made (R93). -/
def completeChange (c : BookingChange) (r : Result) (body : List Byte) (s : State) : State :=
  afterChange c.number (reply (changeKindByte c.kind) c.tag r body (setChange none s))

/-- A new booking joins the index as PENDING (R94, R96). -/
def admitBooking (c : BookingChange) (place : Place) (writeCount : Nat) (s : State) : State :=
  let kept := match c.evict with
    | some n => s.seq.index.filter (fun e => !(e.number == n))
    | none => s.seq.index
  s.setSeq { s.seq with
    lastAssigned := c.number
    index := kept ++ [{
      number := c.number, version := 1, startMin := c.data.startMin, endMin := c.data.endMin,
      title := c.data.title, attendeeCount := c.data.attendees.length, state := .pending,
      place := place, writeCount := writeCount, stateNote := none }] }

/-- The state of a booking after an AMEND that succeeded: a DAMAGED one is PENDING again (R98). -/
def amendedState (b : BookingState) : BookingState := if b = .damaged then .pending else b

/-- An AMEND succeeded (R98). -/
def amendEntry (c : BookingChange) (place : Place) (writeCount : Nat) (e : IndexEntry) : IndexEntry :=
  { e with
    version := e.version + 1
    startMin := c.data.startMin
    endMin := c.data.endMin
    title := c.data.title
    attendeeCount := c.data.attendees.length
    state := amendedState e.state
    place := place
    writeCount := writeCount
    stateNote := none }

/-- An AMEND succeeded: its entry is amended, and the MEETING notice's last settled booking follows its state (R98,
R115). -/
def amendCore (c : BookingChange) (place : Place) (writeCount : Nat) (s : State) : State :=
  let s1 := match s.entry c.number with
    | some e => followSettled c.number (amendedState e.state) s
    | none => s
  modEntry c.number (amendEntry c place writeCount) s1

/-- A CANCEL succeeded (R99): the booking is CANCELLED, and a lobby or a load of it frees the current meeting. -/
def cancelCore (n : Nat) (note : StateNote) (s : State) : State :=
  let s1 :=
    match s.seq.current with
    | some c =>
      if c.number = n then setCurrent none (if c.phase = .loading then s else dropRoster s) else s
    | none => s
  settleEntry n .cancelled (modEntry n (fun e => { e with stateNote := some note }) s1)

/-- An EXTEND succeeded (R112). -/
def extendCore (c : BookingChange) (place : Place) (writeCount : Nat) (s : State) : State :=
  let s1 := modEntry c.number (fun e => { e with
    version := e.version + 1, endMin := c.data.endMin, place := place, writeCount := writeCount }) s
  markMeeting (s1.setSeq { s1.seq with
    current := s1.seq.current.map fun m => { m with warned := false } })

/-- The program of the booking change in flight has succeeded (R94, R98, R99, R112, R113). -/
def changeSucceeded (c : BookingChange) (place : Place) (writeCount : Nat) (s : State) : State :=
  match c.kind with
  | .book | .walkIn =>
    completeChange c (okOr c.clamped) (admittedBody c.number 1 c.data.startMin c.data.endMin)
      (change (admitBooking c place writeCount) s)
  | .amend =>
    let s1 := change (amendCore c place writeCount) s
    completeChange c (okOr c.clamped) (admittedBody c.number
      (((s1.entry c.number).map (·.version)).getD 0) c.data.startMin c.data.endMin) s1
  | .cancel =>
    completeChange c .ok [] (change (cancelCore c.number ⟨writeCount, .cancelled, place⟩) s)
  | .extend =>
    completeChange c (okOr c.clamped) (put4 c.data.endMin)
      (change (extendCore c place writeCount) s)
  | .endNow =>
    completeChange c .ok [] (modEntry c.number (fun e =>
      { e with stateNote := some ⟨writeCount, .done, place⟩ }) s)

/-- The program of the booking change in flight has failed: the failure is the reply's result (R93 to R99, R112,
R113). -/
def changeFailed (r : Result) (s : State) : State :=
  match s.seq.change with
  | some c => completeChange c r [] s
  | none => s

/-- A program ended OK: its place and write count go to the sequencer (R121, R129, R131). -/
def programSucceeded (j : ProgramJob) (place : Place) (writeCount : Nat) (s : State) : State :=
  match j.purpose with
  | .change =>
    match s.seq.change with
    | some c => changeSucceeded c place writeCount s
    | none => s
  | .settle =>
    match j.body with
    | .state b =>
      modEntry j.number (fun e =>
        if e.version = j.version ∧ e.state = b then
          { e with stateNote := some ⟨writeCount, b, place⟩ } else e) s
    | .booking _ => s
  | .copy =>
    match j.body with
    | .booking _ => modEntry j.number (fun e => { e with place := place }) s
    | .state _ =>
      modEntry j.number (fun e =>
        { e with stateNote := e.stateNote.map fun n => { n with place := place } }) s

/-- A program ended with a failure (R121, R122, R127). A failed STATE record of the meeting sequence and a failed
copy change nothing of the sequencer (R104). -/
def programFailed (j : ProgramJob) (r : Result) (s : State) : State :=
  match j.purpose with
  | .change => changeFailed r s
  | _ => s

/-! ## The minute event (R88) -/

/-- A booking is LOBBY or IN_SESSION. -/
def State.meetingOn (s : State) : Bool :=
  match s.seq.current with
  | some c => c.phase != .loading
  | none => false

/-- The idle count of a RUNNING line at a minute event (R168). -/
def countIdle (now : Nat) (meeting : Bool) (x : Line) : Line :=
  if x.state ≠ .running then x
  else if meeting then { x with idle := 0, minuteLast := some now }
  else
    match x.minuteLast with
    | none => { x with minuteLast := some now }
    | some m =>
      if m < now then { x with idle := min 60 (x.idle + (now - m)), minuteLast := some now }
      else { x with minuteLast := some now }

/-- A RUNNING line whose idle count has reached the idle time goes to sleep: SLEEP follows the exchange on the
line, or leaves at once where there is none (R168, R169). -/
def sleepCheck (l : LineId) (s : State) : State :=
  let x := s.line l
  if x.state = .running ∧ s.seq.room.idleTime ≤ x.idle then
    s.setLine l { x with
      sleepDue := true
      activity := if x.activity = .none then .exchange .sleep else x.activity
      begun := if x.activity = .none then false else x.begun }
  else s

/-- A minute event (R88): the idle counts, the evaluation, the clock item, and the sleep that is due at its end
(log entry 13). -/
def minuteEvent (s : State) : State :=
  match s.now with
  | none => s
  | some now =>
    let s1 := (s.modLine .a (countIdle now s.meetingOn)).modLine .b (countIdle now s.meetingOn)
    sleepCheck .b (sleepCheck .a (remarkClockItem (evaluate s1)))

end Sys2Proof.Machine
end

