-- ==== Sys2Proof/Machine/Medium.lean ====
section
/-! DEFINITION. The medium of the booking store: its records and their units (R116 to R118), wear, reading and
writing, the sector table (R117, R119), and live and dead units (R129). -/

namespace Sys2Proof.Machine

/-! ## Units -/

/-- A record's length in units (R118). -/
def recordUnits : RecordBody → Nat
  | .booking d => 8 + 3 * d.attendees.length
  | .state _ => 1

/-- A unit that reads clean or corrected (R116). -/
def unitReads (h : UnitHealth) : Bool := h == .clean || h == .corrected

/-- The corrected readings among some units (R116). -/
def correctedUnits (l : List UnitHealth) : Nat := (l.filter (· == .corrected)).length

/-- A programmed unit wears: one bit wrong, or two and more. An unprogrammed unit stays erased (log entry
15). -/
def wearUnit (bad : Bool) : UnitHealth → UnitHealth
  | .clean => if bad then .uncorrectable else .corrected
  | .corrected => if bad then .uncorrectable else .corrected
  | h => h

/-- A header wears. -/
def wearHeader (bad : Bool) : HeaderCell → HeaderCell
  | .valid q _ => if bad then .invalid else .valid q true
  | h => h

/-- One worn unit of a sector. -/
def wearSector (w : WornUnit) (m : SectorMedium) : SectorMedium :=
  if w.unit = 0 then { m with header := wearHeader w.uncorrectable m.header }
  else { m with records := m.records.map fun r =>
    if r.unit ≤ w.unit then { r with health := r.health.modify (w.unit - r.unit) (wearUnit w.uncorrectable) }
    else r }

/-- The wear that has come about on the medium by now. -/
def applyWear (wear : List WornUnit) (m : Vector SectorMedium 16) : Vector SectorMedium 16 :=
  wear.foldl (fun m w => m.set w.sector.val (wearSector w m[w.sector])) m

/-! ## The store's fields -/

/-- Change the store engine's state. -/
def modStore (f : Store → Store) (s : State) : State := s.setStore (f s.store)

/-- Advance the corrected-unit count (R116). -/
def countCorrected (n : Nat) (s : State) : State :=
  modStore (fun t => { t with corrected := satAdd 65535 t.corrected n }) s

/-- Write the entry of a sector in the sector table. -/
def setSector (i : Fin 16) (e : SectorEntry) (s : State) : State :=
  modStore (fun t => { t with table := t.table.set i.val e }) s

/-- The entry of a sector in the sector table. -/
def State.sector (s : State) (i : Fin 16) : SectorEntry := s.store.table.getD i.val ⟨.retired, 0⟩

/-- The sectors in a state, by number. -/
def State.sectorsIn (s : State) (x : SectorState) : List (Fin 16) :=
  (List.finRange 16).filter fun i => (s.store.table.map (·.state))[i.val]? == some x

/-- The write head (R119). -/
def State.writeHead (s : State) : Option (Fin 16) := (s.sectorsIn .opened).head?

/-- The sectors that are not RETIRED. -/
def State.sectorsInService (s : State) : Nat := 16 - (s.sectorsIn .retired).length

/-- The free units (R119). -/
def State.freeUnits (s : State) : Nat :=
  (match s.writeHead with | some _ => 256 - s.store.nextFree | none => 0)
    + 255 * (s.sectorsIn .erased).length

/-! ## Reading (R125) -/

/-- The record at a place. -/
def State.recordAt (s : State) (p : Place) : Option MediumRecord :=
  s.store.medium[p.sector].records.find? fun r => r.unit == p.unit

/-- What reading a booking's record gives (R100, R125). -/
inductive ReadOutcome where
  | ok (data : BookingData)
  | headerFailed
  | attendeesFailed (data : BookingData)
deriving DecidableEq, Repr

/-- Reading the current record of an index entry, with the corrected readings counted (R116, R125). DESIGN CHOICE (log
entry 56): a record in the sector of a SUSPENDED erase reads as it did before the erase began. -/
def readBooking (e : IndexEntry) (s : State) : ReadOutcome × State :=
  match s.recordAt e.place with
  | none => (.headerFailed, s)
  | some r =>
    let s1 := countCorrected (correctedUnits r.health) s
    match r.body with
    | .state _ => (.headerFailed, s1)
    | .booking d =>
      if !(r.health.take 8).all unitReads then (.headerFailed, s1)
      else if !(r.health.drop 8).all unitReads then (.attendeesFailed d, s1)
      else (.ok d, s1)

/-! ## Writing -/

/-- How a programmed unit of a record comes out: the units written poisoned read uncorrectable (R131). -/
def programmedUnit (j : ProgramJob) (k : Nat) : UnitHealth :=
  if k ∈ j.badUnits then .uncorrectable else .clean

/-- The record a program places, with the reading of each unit given. -/
def placedRecord (p : Programming) (health : List UnitHealth) : MediumRecord where
  unit := p.place.unit
  number := p.job.number
  version := p.job.version
  writeCount := p.writeCount
  poison := p.job.poison
  headKnown := true
  body := p.job.body
  health := health

/-- A whole program on the medium: the header of a sector that is being opened, or the record (R121). -/
def writeProgram (p : Programming) (m : Vector SectorMedium 16) : Vector SectorMedium 16 :=
  let sec := m[p.place.sector]
  m.set p.place.sector.val (match p.header with
    | some q => { sec with header := .valid q false }
    | none => { sec with records := sec.records ++
        [placedRecord p ((List.range (recordUnits p.job.body)).map (programmedUnit p.job))] })

/-- A unit of an interrupted program, the `k`-th of the record: done, torn, or not reached (R137, R140). -/
def interruptedUnit (j : ProgramJob) (done : Nat) (torn : Bool) (k : Nat) : UnitHealth :=
  if k < done then programmedUnit j k else if k = done ∧ torn then .uncorrectable else .erased

/-- A program interrupted by a power loss: `unitsDone` of its units, those of a record or the one of a header, were
programmed, and `torn` says that the next one reads uncorrectable (R140). -/
def writeInterrupted (p : Programming) (unitsDone : Nat) (torn : Bool) (m : Vector SectorMedium 16) :
    Vector SectorMedium 16 :=
  let sec := m[p.place.sector]
  m.set p.place.sector.val (match p.header with
    | some q =>
      { sec with header := if 0 < unitsDone then .valid q false else if torn then .invalid else sec.header }
    | none =>
      if 0 < unitsDone ∨ torn then
        { sec with records := sec.records ++ [placedRecord p
          ((List.range (recordUnits p.job.body)).map (interruptedUnit p.job unitsDone torn))] }
      else sec)

/-- The reading of a program's units agrees with what was meant (R121, R131). -/
def unitsAsMeant (j : ProgramJob) (health : List UnitHealth) : Bool :=
  health.zipIdx.all fun p =>
    if p.2 ∈ j.badUnits then p.1 == .uncorrectable else unitReads p.1

/-- Whether a header reads valid (R117). -/
def headerValid : HeaderCell → Bool
  | .valid _ _ => true
  | _ => false

/-- Whether a header was corrected in reading. -/
def headerCorrected : HeaderCell → Bool
  | .valid _ c => c
  | _ => false

/-- The verify of a program, of a header or of a record (R121, R122): whether it passes, and the corrected readings
it made. -/
def verifyProgram (p : Programming) (m : Vector SectorMedium 16) : Bool × Nat :=
  let sec := m[p.place.sector]
  match p.header with
  | some _ => (headerValid sec.header, if headerCorrected sec.header then 1 else 0)
  | none =>
    match sec.records.find? (fun r => r.unit == p.place.unit) with
    | some r => (unitsAsMeant p.job r.health, correctedUnits r.health)
    | none => (false, 0)

/-! ## Live and dead units (R129) -/

/-- A record that lies in a sector is live (R129). -/
def State.recordLive (s : State) (sector : Fin 16) (r : MediumRecord) : Bool :=
  let place : Place := ⟨sector, r.unit⟩
  match r.body with
  | .booking _ => s.seq.index.any fun e => holdsWindow e.state && decide (e.place = place)
  | .state _ => s.seq.index.any fun e =>
      settled e.state && decide (e.place.sector ≠ sector)
        && (match e.stateNote with | some n => decide (n.place = place) | none => false)

/-- The live records of a sector, in the order they lie in it. -/
def State.liveRecords (s : State) (sector : Fin 16) : List MediumRecord :=
  s.store.medium[sector].records.filter (s.recordLive sector)

/-- The live units of a sector (R119, R129). -/
def State.liveUnits (s : State) (sector : Fin 16) : Nat :=
  ((s.liveRecords sector).map fun r => recordUnits r.body).sum

/-- The dead units of a FULL sector (R119). -/
def State.deadUnits (s : State) (sector : Fin 16) : Nat := 255 - s.liveUnits sector

/-- The protected sector: the one that holds the current record of the current meeting (R102, R130). -/
def State.protectedSector (s : State) : Option (Fin 16) :=
  s.seq.current.bind fun c => (s.entry c.number).map (·.place.sector)

/-- The victim of a pass: the FULL sector, not protected, with the most dead units, at least one; among equals
the lowest number (R130). -/
def State.victim (s : State) : Option (Fin 16) :=
  (s.sectorsIn .full).foldl (fun best i =>
    if s.protectedSector = some i ∨ s.deadUnits i = 0 then best
    else
      match best with
      | none => some i
      | some b => if s.deadUnits b < s.deadUnits i then some i else some b) none

end Sys2Proof.Machine
end

