-- ==== Sys2Proof/Machine/Store.lean ====
section
/-! DEFINITION. The store engine at work: the HALTED latch (R126 to R128), finding room (R121), compaction (R130
to R133), taking up the next work (R120), and the ends of programs, reads and erases (R121 to R125). -/

namespace Sys2Proof.Machine

/-- A STORE notice's outcome for a failure result (R134). -/
def outcomeOf : Result → StoreOutcome
  | .storeFull => .storeFull
  | .storeFault => .storeFault
  | .storeHalted => .storeHalted
  | _ => .ok

/-- A program, erase or pass ends with an outcome (R134). -/
def setOutcome (o : StoreOutcome) (s : State) : State := modStore (fun t => { t with lastOutcome := o }) s

/-- A program ends with a failure: the STORE notice is marked and the sequencer is told (R134). -/
def endProgram (r : Result) (j : ProgramJob) (s : State) : State :=
  programFailed j r (markStore (setOutcome (outcomeOf r) s))

/-- Write the programs that wait. -/
def setPrograms (l : List ProgramJob) (s : State) : State := modStore (fun t => { t with programs := l }) s

/-- A pass ends: its STORE notice, and the reply of the COMPACT that asked for it (R132 to R134). -/
def endPass (r : Result) (body : List Byte) (s : State) : State :=
  match s.store.pass with
  | none => s
  | some p =>
    let s1 := markStore (setOutcome (outcomeOf r) (modStore (fun t => { t with pass := none }) s))
    match p.tag with
    | some tag => reply 0x32 tag r body s1
    | none => s1

/-- The HALTED latch is set: the waiting programs end STORE_HALTED in order, and a pass stops (R127). DESIGN CHOICE (log
entry 67): the programs end first, so that the reply of a booking change that waits comes before that of COMPACT. -/
def setLatch (cause : HaltCause) (s : State) : State :=
  let waiting := s.store.programs
  let s1 := markStore (markFault (.storeHalted cause)
    (modStore (fun t => { t with latch := true, programs := [] }) s))
  endPass .storeHalted [] (waiting.foldl (fun s j => endProgram .storeHalted j s) s1)

/-! ## Finding room (R121, R126) -/

/-- What looking for room comes to. -/
inductive Begin where
  | started | noRoom | exhausted
deriving DecidableEq, Repr

/-- The sequence number the next sector opens with (R117). -/
def State.nextSequence (s : State) : Nat :=
  match (s.store.table.filter fun e => e.state == .opened || e.state == .full).map (·.sequence) with
  | [] => 0
  | q :: l => l.foldl max q + 1

/-- The write head becomes FULL (R121, R122). -/
def closeHead (s : State) : State :=
  match s.writeHead with
  | some h => setSector h { s.sector h with state := .full } s
  | none => s

/-- A program begins at a place, with the header of the sector where that is being opened (R121); a new record's
write count is given now (R118). -/
def startProgram (j : ProgramJob) (place : Place) (header : Option Nat) (s : State) : State :=
  let writeCount := j.writeCount.getD s.store.nextWrite
  modStore (fun t => { t with
    engine := .programming
    active := some ⟨j, writeCount, place, header⟩
    nextWrite := if j.writeCount = none then t.nextWrite + 1 else t.nextWrite }) s

/-- Open a sector for a program: an ordinary program leaves the reserve (R119, R121, R126). -/
def openFor (j : ProgramJob) (s : State) : Begin × State :=
  let erased := s.sectorsIn .erased
  let needed := if j.purpose = .copy then 1 else 2
  if erased.length < needed then (.noRoom, s)
  else
    match erased with
    | [] => (.noRoom, s)
    | i :: _ =>
      if Config.sequenceMax < s.nextSequence then (.exhausted, s)
      else (.started, startProgram j ⟨i, 1⟩ (some s.nextSequence) s)

/-- Find room for a program and begin it (R121, R126). -/
def beginProgram (j : ProgramJob) (s : State) : Begin × State :=
  if j.writeCount = none ∧ Config.writeCountMax < s.store.nextWrite then (.exhausted, s)
  else
    match s.writeHead with
    | some h =>
      if s.store.nextFree + recordUnits j.body ≤ 256 then
        (.started, startProgram j ⟨h, s.store.nextFree⟩ none s)
      else openFor j (closeHead s)
    | none => openFor j s

/-! ## Compaction (R130 to R132) -/

/-- A pass is asked for (R130): none is started while one runs, while the latch is set or while the scan runs.
Without a victim it ends at once (R132; log entry 16). -/
def startPass (tag : Option Byte) (s : State) : State :=
  if s.store.pass.isSome || s.store.latch || s.store.engine == .scanning then s
  else
    let begun (v : Fin 16) : State := modStore (fun t => { t with pass := some ⟨v, 0, 0, tag⟩ }) s
    match s.victim with
    | some v => begun v
    | none =>
      let s1 := markStore (setOutcome .ok s)
      match tag with
      | some g => reply 0x32 g .notFound [] s1
      | none => s1

/-- A pass is asked for when 2 or fewer sectors are ERASED (R130). -/
def passIfShort (s : State) : State :=
  if (s.sectorsIn .erased).length ≤ 2 then startPass none s else s

/-- Another pass starts when one has ended with 2 or fewer sectors ERASED and a victim there (R130). -/
def nextPass (s : State) : State := if s.victim = none then s else passIfShort s

/-- The units of a record that a copy writes poisoned: every unit that failed but the head (R131). -/
def badUnitsOf (r : MediumRecord) : List Nat :=
  (r.health.zipIdx.filter fun p => !unitReads p.1 && p.2 != 0).map (·.2)

/-- The program that copies a live record: its head comes from the index entry, its write count is the original's
(R131). -/
def State.copyJob (s : State) (r : MediumRecord) : ProgramJob :=
  let e := s.entry r.number
  let note := e.bind (·.stateNote)
  { purpose := .copy
    number := r.number
    version := (e.map (·.version)).getD r.version
    body := r.body
    writeCount := some (match r.body with
      | .booking _ => (e.map (·.writeCount)).getD r.writeCount
      | .state _ => (note.map (·.writeCount)).getD r.writeCount)
    badUnits := badUnitsOf r
    poison := !r.health.all unitReads
    retry := false
    waits := false }

/-- The read of a copy step (R131): corrected units are counted, and a PENDING booking with a failed unit becomes
DAMAGED. -/
def readForCopy (r : MediumRecord) (s : State) : State :=
  let s1 := countCorrected (correctedUnits r.health) s
  if r.health.all unitReads then s1 else change (damageIfPending r.number) s1

/-- The victim's erase begins, with the units it will reclaim (R123, R132). -/
def beginErase (p : Pass) (s : State) : State :=
  modStore (fun t => { t with
    engine := .erasing
    pass := some { p with reclaimed := 255 - p.copied } }) s

/-- The program at the head of those that wait for room ends STORE_FULL (R132); one that has not looked for room yet
does not (log entry 46). -/
def failHead (s : State) : State :=
  match s.store.programs with
  | j :: rest => if j.waits then endProgram .storeFull j (setPrograms rest s) else s
  | [] => s

/-- The head of the programs has looked for room and waits for it (R121). -/
def headWaits (s : State) : State :=
  match s.store.programs with
  | j :: rest => setPrograms ({ j with waits := true } :: rest) s
  | [] => s

/-- The program at the head waits for room, which asks for a pass at once (R121, R130): it starts where none runs, and
without a victim the program ends STORE_FULL (R132). -/
def waitForRoom (s : State) : State :=
  let s1 := startPass none (headWaits s)
  if s1.store.pass.isNone then failHead s1 else s1

/-- A copy finds no room: the pass ends STORE_FULL with the program that waits for room, and another pass starts at
once where R130 asks for it (R132). -/
def copyNoRoom (s : State) : State := nextPass (failHead (endPass .storeFull [] s))

/-- What the next step of a pass comes to: whether the engine goes on choosing. A pass that is started because a copy
found no room, with no program waiting, takes its first step with the next command (log entry 16). -/
def passStep (p : Pass) (s : State) : Bool × State :=
  match s.liveRecords p.victim with
  | [] => (false, beginErase p s)
  | r :: _ =>
    let s1 := readForCopy r s
    match beginProgram (s1.copyJob r) s1 with
    | (.started, s2) => (false, s2)
    | (.exhausted, s2) => (true, setLatch .counter s2)
    | (.noRoom, s2) => (!s2.store.programs.isEmpty, copyNoRoom s2)

/-! ## The next work (R120) -/

/-- One choice of work by an IDLE engine with no read waiting: whether it goes on choosing. -/
def chooseWork (s : State) : Bool × State :=
  match s.store.programs with
  | j :: rest =>
    match beginProgram j s with
    | (.started, s1) => (false, setPrograms rest s1)
    | (.exhausted, s1) => (true, setLatch .counter s1)
    | (.noRoom, s1) =>
      let s2 := waitForRoom s1
      match s2.store.pass with
      | none => (true, s2)
      | some p => passStep p s2
  | [] =>
    match s.store.pass with
    | none => (false, s)
    | some p => passStep p s

/-- The engine takes up its next work: reads first, then programs, then the step of a pass. `fuel` bounds the
programs and passes that end on the way: each waiting program ends once, and what their ends make the sequencer
hand on is at most one STATE record for each of the 96 bookings. -/
def pumpLoop : Nat → State → State
  | 0, s => s
  | fuel + 1, s =>
    if s.store.engine ≠ .idle ∨ s.store.reads ≠ [] then s
    else
      match chooseWork s with
      | (true, s1) => pumpLoop fuel s1
      | (false, s1) => s1

/-- A program handed on while the latch is set ends at once (R127). -/
def refuseHalted (s : State) : State :=
  if s.store.latch then
    s.store.programs.foldl (fun s j => endProgram .storeHalted j s) (setPrograms [] s)
  else s

/-- A suspended erase resumes when no read waits (R123). -/
def resumeErase (s : State) : State :=
  if s.store.engine = .suspended ∧ s.store.reads = [] then
    modStore (fun t => { t with engine := .erasing }) s
  else s

/-- The engine goes on (R120, R123). -/
def pump (s : State) : State :=
  let s1 := refuseHalted (resumeErase s)
  pumpLoop (2 * s1.store.programs.length + 400) s1

/-! ## The end of a program (R121, R122) -/

/-- Write a sector's state and sequence number, and the head's next free unit. -/
def noteSector (p : Programming) (x : SectorState) (nextFree : Nat) (s : State) : State :=
  let s1 := setSector p.place.sector
    ⟨x, match p.header with | some q => q | none => (s.sector p.place.sector).sequence⟩ s
  modStore (fun t => { t with nextFree := nextFree }) s1

/-- The verify of a header passed: its sector is the write head, and the record's own program follows (R121). -/
def headerPassed (p : Programming) (s : State) : State :=
  modStore (fun t => { t with engine := .programming, active := some { p with header := none } })
    (noteSector p .opened 1 s)

/-- The verify of a record passed (R121). -/
def programPassed (p : Programming) (s : State) : State :=
  let units := recordUnits p.job.body
  let s1 := setOutcome .ok (noteSector p .opened (p.place.unit + units) s)
  let s2 := modStore (fun t => { t with
    pass := if p.job.purpose = .copy then
        t.pass.map fun q => { q with copied := q.copied + units } else t.pass }) s1
  programSucceeded p.job p.place p.writeCount s2

/-- The first verify failed: the record is programmed once more in a newly opened sector (R122). An ordinary one for
which none may be opened waits for room before those that wait already, and asks for a pass at once, whatever reads
wait (R121, R130; log entry 46). -/
def programRetried (p : Programming) (s : State) : State :=
  let j := { p.job with retry := true, writeCount := some p.writeCount }
  match beginProgram j s with
  | (.started, s1) => s1
  | (.exhausted, s1) =>
    setLatch .counter (if j.purpose = .copy then s1 else setPrograms (j :: s1.store.programs) s1)
  | (.noRoom, s1) =>
    if j.purpose = .copy then copyNoRoom s1
    else waitForRoom (setPrograms (j :: s1.store.programs) s1)

/-- A header's program has ended, and its sector is ERASED no longer: that may call for a pass (R130). The end of a
record's program changes no ERASED sector. -/
def headerEnded (p : Programming) (s : State) : State := if p.header = none then s else passIfShort s

/-- A program of a header or a record ends with its verify, and with the wear that has come about (R121, R122). The pass
that a failed header calls for is asked for before its record is programmed once more (R130). DESIGN CHOICE (log entry
67): at a second failure of its verify a program ends after those that wait and after the pass. -/
def completeProgram (p : Programming) (wear : List WornUnit) (s : State) : State :=
  let medium := applyWear wear (writeProgram p s.store.medium)
  let (passed, corrected) := verifyProgram p medium
  let s1 := countCorrected corrected (modStore (fun t => { t with
    medium := medium, engine := .idle, active := none }) s)
  if passed then headerEnded p (if p.header = none then programPassed p s1 else headerPassed p s1)
  else
    let s2 := noteSector p .full s1.store.nextFree s1
    if p.job.retry then endProgram .storeFault p.job (setLatch .verify s2)
    else programRetried p (headerEnded p s2)

/-- The orphan program of a RESTART ends, that of a header without its record: nothing is retried and no outcome is
given (R140). -/
def completeOrphan (p : Programming) (wear : List WornUnit) (s : State) : State :=
  let medium := applyWear wear (writeProgram p s.store.medium)
  countCorrected (verifyProgram p medium).2 (modStore (fun t => { t with
    medium := medium, orphan := none }) s)

/-! ## The end of a read (R100, R108, R112, R125) -/

/-- The engine makes a read: it is IDLE, or an erase is suspended (R120, R123). -/
def State.readInProgress (s : State) : Option ReadJob :=
  if s.store.engine = .idle ∨ s.store.engine = .suspended then s.store.reads.head? else none

/-- Summary fields of an index entry: number, version, state, start, end, title and attendee count (R101). -/
def summaryBytes (e : IndexEntry) : List Byte :=
  put2 e.number ++ put1 e.version ++ put1 (bookingNumber e.state) ++ put4 e.startMin ++ put4 e.endMin
    ++ putText 40 e.title ++ put1 e.attendeeCount

/-- The number, version and state of an index entry (R220). -/
def entryHead (e : IndexEntry) : List Byte :=
  put2 e.number ++ put1 e.version ++ put1 (bookingNumber e.state)

/-- The reply to a GET_BOOKING whose read has ended (R100, R220; log entry 17). A DAMAGED booking gives STORE_FAULT
also where every unit reads. -/
def completeGetBooking (n : Nat) (tag : Byte) (s : State) : State :=
  match s.entry n with
  | none => reply 0x2E tag .notFound [] s
  | some e =>
    match readBooking e s with
    | (.ok d, s1) =>
      if e.state = .damaged then reply 0x2E tag .storeFault (summaryBytes e) s1
      else reply 0x2E tag .ok (entryHead e ++ putBooking d) s1
    | (.headerFailed, s1) =>
      let s2 := change (damageIfPending n) s1
      reply 0x2E tag .storeFault (summaryBytes ((s2.entry n).getD e)) s2
    | (.attendeesFailed d, s1) =>
      let s2 := change (damageIfPending n) s1
      reply 0x2E tag .storeFault (entryHead ((s2.entry n).getD e) ++ putBookingHead d) s2

/-- The read of an EXTEND has ended: the new version is handed on, or the change fails (R112). -/
def completeExtendRead (n : Nat) (s : State) : State :=
  match s.entry n, s.seq.change with
  | some e, some c =>
    match readBooking e s with
    | (.ok d, s1) =>
      let d1 := { d with endMin := c.data.endMin }
      handOn (bookingJob n (e.version + 1) d1) (setChange (some { c with data := d1 }) s1)
    | (_, s1) => changeFailed .storeFault s1
  | _, _ => s

/-- The read of a roster load has ended (R108). -/
def completeRosterRead (n : Nat) (s : State) : State :=
  match s.entry n with
  | none => completeLoad n .failed s
  | some e =>
    match readBooking e s with
    | (.ok d, s1) => completeLoad n (.read d) s1
    | (_, s1) => completeLoad n .failed s1

/-- The wear on the medium comes about. -/
def wearStore (wear : List WornUnit) (s : State) : State :=
  modStore (fun t => { t with medium := applyWear wear t.medium }) s

/-- A read ends: it leaves the waiting reads. -/
def takeRead (wear : List WornUnit) (s : State) : State :=
  wearStore wear (modStore (fun t => { t with reads := t.reads.drop 1 }) s)

/-! ## The end of an erase (R123, R124, R132) -/

/-- What an erase leaves of a sector (R123, R124). DESIGN CHOICE (log entry 56): an erase that failed leaves the
sector's records and their readings as they were. -/
def erasedMedium (o : EraseOutcome) (m : SectorMedium) : SectorMedium :=
  match o with
  | .erased => SectorMedium.blank
  | .failedHeaderErased => { m with header := .erased }
  | .failedHeaderValid => m
  | .failedHeaderInvalid => { m with header := .invalid }

/-- A retirement marks its FAULT and STORE notices (R124, R134). -/
def retireSector (i : Fin 16) (s : State) : State :=
  markStore (markFault (.storeRetire i.val) (setSector i ⟨.retired, 0⟩ s))

/-- The settled bookings whose BOOKING record lay in the victim leave the index (R132). -/
def removeSettled (v : Fin 16) (s : State) : State :=
  s.setSeq { s.seq with index := s.seq.index.filter fun e =>
    !(settled e.state && decide (e.place.sector = v)) }

/-- The victim's erase ends (R123, R124, R132). -/
def completeErase (p : Pass) (o : EraseOutcome) (s : State) : State :=
  let v := p.victim
  let s1 := modStore (fun t => { t with
    engine := .idle
    medium := t.medium.set v.val (erasedMedium o t.medium[v]) }) s
  let s2 := if o = .erased then setSector v ⟨.erased, 0⟩ s1 else retireSector v s1
  let s3 := endPass .ok (put1 v.val ++ put1 p.reclaimed) (change (removeSettled v) s2)
  let s4 := if o ≠ .erased ∧ s3.sectorsInService < 4 then setLatch .tooFewSectors s3 else s3
  nextPass s4

end Sys2Proof.Machine
end

