-- ==== Sys2Proof/Machine/Scan.lean ====
section
/-! DEFINITION. The start-up scan (R136 to R139), and what a RESTART and a power loss leave of the store (R140). -/

namespace Sys2Proof.Machine

/-! ## Headers (R136) -/

/-- Whether the scan finds a sector in use. -/
def inUse (m : SectorMedium) : Bool := headerValid m.header

/-- Whether the scan erases a sector: its header is invalid, or it is erased while some unit is not (R136). -/
def scanErases (m : SectorMedium) : Bool :=
  match m.header with
  | .valid _ _ => false
  | .invalid => true
  | .erased => !m.records.isEmpty

/-- The sequence number of a valid header. -/
def headerSequence (m : SectorMedium) : Nat :=
  match m.header with
  | .valid q _ => q
  | _ => 0

/-- The medium after the scan's erasures, of which those of `failures` fail (R136). DESIGN CHOICE (log entry 56): a
sector that fails to erase reads as it did before. -/
def scanMedium (failures : List (Fin 16)) (m : Vector SectorMedium 16) : Vector SectorMedium 16 :=
  Vector.ofFn fun i : Fin 16 =>
    if scanErases m[i] ∧ i ∉ failures then SectorMedium.blank else m[i]

/-- The sectors that the scan retires (R136). -/
def scanRetires (failures : List (Fin 16)) (m : Vector SectorMedium 16) : List (Fin 16) :=
  (List.finRange 16).filter fun i => scanErases m[i] && decide (i ∈ failures)

/-- The write head: of the sectors in use, the one with the highest sequence number (R137). DESIGN CHOICE (log entry
57): of several with that number, which a RETIRED sector that comes back allows, the lowest sector. -/
def scanHead (m : Vector SectorMedium 16) : Option (Fin 16) :=
  (List.finRange 16).foldl (fun best i =>
    if !inUse m[i] then best
    else
      match best with
      | none => some i
      | some b => if headerSequence m[b] < headerSequence m[i] then some i else some b) none

/-! ## Walking the records (R137) -/

/-- A record is an interrupted program: a unit reads erased, or, without a poison mark, its last unit reads
uncorrectable and is followed by erased units or the end of the sector (R137). -/
def interrupted (following : Option MediumRecord) (r : MediumRecord) : Bool :=
  r.health.any (· == .erased)
    || (!r.poison && r.health.getLast? == some .uncorrectable
        && (match following with
            | none => true
            | some f => f.health.head? == some .erased))

/-- A head that makes the rest of its sector unusable: it reads uncorrectable, or carries an unknown kind or a length
that its kind does not have, that of a BOOKING of more than 24 attendees, or one that passes unit 255 (R137). -/
def unusableHead (u : Nat) (r : MediumRecord) : Bool :=
  r.health.head? == some .uncorrectable || !r.headKnown || decide (256 < u + recordUnits r.body)
    || (match r.body with
        | .booking d => decide (24 < d.attendees.length)
        | .state _ => false)

/-- The records noted in a sector, the unit after the last, and whether the rest is unusable (R137). -/
def walkRecords : List MediumRecord → Nat → List MediumRecord × Nat × Bool
  | [], u => ([], u, false)
  | r :: rest, u =>
    if r.health.head? == some .erased then ([], u, false)
    else if unusableHead u r then ([], u, true)
    else if interrupted rest.head? r then ([], u, true)
    else
      let (l, v, bad) := walkRecords rest (u + recordUnits r.body)
      (r :: l, v, bad)

/-- A record noted by the scan, with its place and the sequence number of its sector. -/
structure Noted where
  place : Place
  sequence : Nat
  record : MediumRecord
deriving DecidableEq, Repr

/-- The records noted in all sectors in use (R137). -/
def notedRecords (m : Vector SectorMedium 16) : List Noted :=
  ((List.finRange 16).filter fun i => inUse m[i]).flatMap fun i =>
    (walkRecords m[i].records 1).1.map fun r => ⟨⟨i, r.unit⟩, headerSequence m[i], r⟩

/-- The sector table the scan builds, and the head's next free unit (R136, R137). -/
def scanTable (retired : List (Fin 16)) (m : Vector SectorMedium 16) : List SectorEntry × Nat :=
  let head := scanHead m
  let walked := fun i : Fin 16 => walkRecords m[i].records 1
  let entry := fun i : Fin 16 =>
    if i ∈ retired then (⟨.retired, 0⟩ : SectorEntry)
    else if !inUse m[i] then ⟨.erased, 0⟩
    else if head = some i ∧ (walked i).2.2 = false then ⟨.opened, headerSequence m[i]⟩
    else ⟨.full, headerSequence m[i]⟩
  ((List.finRange 16).map entry,
    match head with
    | some h => (walked h).2.1
    | none => 0)

/-- The corrected readings of the walk of a sector from a unit on: of the records it passes, of the interrupted one or
the unusable head it ends at; what lies behind an unusable head is not read (R116, R137; log entry 45). -/
def walkCorrected : List MediumRecord → Nat → Nat
  | [], _ => 0
  | r :: rest, u =>
    if r.health.head? == some .erased then 0
    else if unusableHead u r then correctedUnits (r.health.take 1)
    else if interrupted rest.head? r then correctedUnits r.health
    else correctedUnits r.health + walkCorrected rest (u + recordUnits r.body)

/-- The corrected readings of the scan in one sector: the header and the walk of a sector in use, and every unit of one
whose header reads erased, which the scan reads to judge it (R116, R136, R138; log entry 45). -/
def sectorCorrected (m : SectorMedium) : Nat :=
  match m.header with
  | .valid _ corrected => (if corrected then 1 else 0) + walkCorrected m.records 1
  | .erased => (m.records.map fun r => correctedUnits r.health).sum
  | .invalid => 0

/-- The corrected readings of the scan (R116, R138). -/
def scanCorrected (m : Vector SectorMedium 16) : Nat :=
  ((List.finRange 16).map fun i => sectorCorrected m[i]).sum

/-! ## Building the index (R92, R138) -/

/-- Two noted records are copies of one record (R138). -/
def sameRecord (a b : Noted) : Bool :=
  a.record.number == b.record.number && a.record.version == b.record.version
    && a.record.writeCount == b.record.writeCount
    && (match a.record.body, b.record.body with
        | .booking _, .booking _ => true
        | .state _, .state _ => true
        | _, _ => false)

/-- A copy is preferred to another: one that reads wholly to one that does not, then the higher sequence number
(R138). -/
def betterCopy (a b : Noted) : Bool :=
  let whole := fun n : Noted => n.record.health.all unitReads
  if whole a = whole b then decide (b.sequence < a.sequence) else whole a

/-- Copies count as one record, with the preferred place (R138). DESIGN CHOICE (log entry 57): of copies alike in
both respects, the one in the lowest sector. -/
def mergeCopies (l : List Noted) : List Noted :=
  l.foldl (fun acc n =>
    if acc.any (sameRecord n) then
      acc.map fun o => if sameRecord n o ∧ betterCopy n o then n else o
    else acc ++ [n]) []

/-- The one of some noted records with the greatest key; among equals the first. -/
def latestBy (key : Noted → Nat) (l : List Noted) : Option Noted :=
  l.foldl (fun best n =>
    match best with
    | none => some n
    | some b => if key b < key n then some n else some b) none

/-- A BOOKING record. -/
def isBooking (n : Noted) : Bool :=
  match n.record.body with
  | .booking _ => true
  | .state _ => false

/-- The write count of a noted record. -/
def Noted.count (n : Noted) : Nat := n.record.writeCount

/-- The records of a number's latest generation: those from its latest version-1 BOOKING record on (R138); all of
them where there is no such record (log entry 18). -/
def latestGeneration (l : List Noted) : List Noted :=
  match latestBy Noted.count (l.filter fun n => isBooking n && n.record.version == 1) with
  | some g => l.filter fun n => decide (g.count ≤ n.count)
  | none => l

/-- The current version: the highest one whose eight header units read (R138). -/
def currentRecord (l : List Noted) : Option Noted :=
  latestBy (fun n => n.record.version * (Config.writeCountMax + 1) + n.count)
    (l.filter fun n => isBooking n && (n.record.health.take 8).all unitReads)

/-- What the scan finds of one booking number: an entry, a number whose every version fails, or nothing. -/
inductive Found where
  | entry (e : IndexEntry)
  | failed (number : Nat)
  | none
deriving DecidableEq, Repr

/-- The index entry of a booking by its current record (R138). -/
def foundEntry (l : List Noted) (n : Noted) (d : BookingData) : IndexEntry :=
  let states := l.filter fun m => !isBooking m && m.record.version == n.record.version
  let note := (latestBy Noted.count states).bind fun m =>
    match m.record.body with
    | .state b => some (⟨m.count, b, m.place⟩ : StateNote)
    | .booking _ => Option.none
  { number := n.record.number
    version := n.record.version
    startMin := d.startMin
    endMin := d.endMin
    title := d.title
    attendeeCount := d.attendees.length
    state := match note with
      | some x => x.state
      | Option.none => if (n.record.health.drop 8).all unitReads then .pending else .damaged
    place := n.place
    writeCount := n.count
    stateNote := note }

/-- What the scan finds of one booking number (R138). DESIGN CHOICE (log entry 57): a number of which only STATE
records are found has no entry and no FAULT. -/
def foundOf (number : Nat) (all : List Noted) : Found :=
  let l := latestGeneration (all.filter fun n => n.record.number == number)
  match currentRecord l with
  | some n =>
    match n.record.body with
    | .booking d => .entry (foundEntry l n d)
    | .state _ => .none
  | Option.none => if l.any isBooking then .failed number else .none

/-- The numbers among some noted records, rising. -/
def notedNumbers (l : List Noted) : List Nat := l.foldl (fun acc n => insertUnit n.record.number acc) []

/-- The entries found, by rising number. -/
def foundEntries (l : List Found) : List IndexEntry :=
  l.filterMap fun f => match f with | .entry e => some e | _ => Option.none

/-- The numbers whose every version fails, rising. -/
def failedNumbers (l : List Found) : List Nat :=
  l.filterMap fun f => match f with | .failed n => some n | _ => Option.none

/-- The windows of two bookings overlap, each starting before the other ends (R138). -/
def windowsOverlap (a b : IndexEntry) : Bool := decide (a.startMin < b.endMin ∧ b.startMin < a.endMin)

/-- Entries by falling write count of their current BOOKING records. -/
def byWriteCount (l : List IndexEntry) : List IndexEntry :=
  (l.foldr (insertEntry (·.writeCount)) []).reverse

/-- The rebuilt bookings that become CANCELLED: of the PENDING and DAMAGED ones, by falling write count, those
that overlap one already kept (R138). -/
def overlapLosers (l : List IndexEntry) : List Nat :=
  ((byWriteCount (l.filter fun e => e.state == .pending || e.state == .damaged)).foldl
    (fun (acc : List IndexEntry × List Nat) e =>
      if acc.1.any (windowsOverlap e) then (acc.1, acc.2 ++ [e.number]) else (acc.1 ++ [e], acc.2))
    ([], [])).2

/-- The entries left out when more than 96 are found: settled ones first, then others, each by earliest end and
lowest number (R92). -/
def leftOut (l : List IndexEntry) : List IndexEntry :=
  let excess := l.length - Config.indexCapacity
  (byEnd (l.filter fun e => settled e.state) ++ byEnd (l.filter fun e => !settled e.state)).take excess

/-! ## The completion of the scan (R138, R139) -/

/-- What the scan reads: the records noted, copies merged. -/
def scanNotes (m : Vector SectorMedium 16) : List Noted := mergeCopies (notedRecords m)

/-- Mark the FAULT of a damaged booking (R92, R138). -/
def faultDamaged (s : State) (n : Nat) : State := markFault (.damagedBooking n) s

/-- A booking that the scan finds DAMAGED or CANCELLED is noted as settled (R115, R138; log entry 19). -/
def noteFound (s : State) (e : IndexEntry) : State :=
  if e.state = .damaged then faultDamaged (noteSettled e.number .damaged s) e.number else s

/-- The index is built from the records noted (R92, R138). DESIGN CHOICE (log entry 51): the highest write count is
that of the records noted; an interrupted or unusable record does not count. The FAULTs of damaged bookings are marked
for the numbers whose every version fails, then for the DAMAGED entries, then for those left out, each by its order. -/
def buildIndex (notes : List Noted) (s : State) : State :=
  let found := (notedNumbers notes).map fun n => foundOf n notes
  let entries := foundEntries found
  let s1 := (failedNumbers found).foldl faultDamaged s
  let s2 := entries.foldl noteFound s1
  let losers := overlapLosers entries
  let entries2 := entries.map fun e => if e.number ∈ losers then { e with state := .cancelled } else e
  let out := leftOut entries2
  let s3 := s2.setSeq { s2.seq with
    index := entries2.filter fun e => decide (e ∉ out)
    lastAssigned := ((latestBy Noted.count (notes.filter fun n =>
      isBooking n && n.record.version == 1)).map (·.record.number)).getD 0 }
  let s4 := losers.foldl (fun s n => noteSettled n .cancelled s) s3
  let s5 := (out.filter fun e => !settled e.state).foldl (fun s e => faultDamaged s e.number) s4
  modStore (fun t => { t with
    nextWrite := ((latestBy Noted.count notes).map (fun n => n.count + 1)).getD 0 }) s5

/-- The bookings that the overlap of R138 settled and that are still in the index: their STATE records are handed
on. DESIGN CHOICE (log entry 51): in the order of the index, by rising number. -/
def handOnCancelled (s : State) : State :=
  (s.seq.index.filter fun e => e.state == .cancelled && e.stateNote.isNone).foldl
    (fun s e => handOnState e.number .cancelled s) s

/-- The outcome of the scan's erases: that of the last of them, STORE_FAULT where it failed (R134, R136). DESIGN
CHOICE (log entry 51): the sectors are erased in rising order. -/
def scanOutcome (failures : List (Fin 16)) (m : Vector SectorMedium 16) (before : StoreOutcome) : StoreOutcome :=
  match ((List.finRange 16).filter fun i => scanErases m[i]).getLast? with
  | some i => if i ∈ failures then .storeFault else .ok
  | none => before

/-- The start-up scan completes, with the wear that has come about and the erasures that fail (R136 to R139,
R150). -/
def completeScan (wear : List WornUnit) (failures : List (Fin 16)) (s : State) : State :=
  let worn := applyWear wear s.store.medium
  let retired := scanRetires failures worn
  let medium := scanMedium failures worn
  let (table, nextFree) := scanTable retired medium
  let s1 := countCorrected (scanCorrected worn) (modStore (fun t => { t with
    medium := medium
    table := table
    nextFree := nextFree
    lastOutcome := scanOutcome failures worn t.lastOutcome }) s)
  let s2 := retired.foldl (fun s i => markStore (markFault (.storeRetire i.val) s)) s1
  let s3 := remarkTitleItem (change (buildIndex (scanNotes medium)) s2)
  let s4 := if s3.sectorsInService < 4 then setLatch .tooFewSectors s3 else s3
  let s5 := handOnCancelled (markStore (modStore (fun t => { t with engine := .idle }) s4))
  passIfShort (evaluate s5)

/-! ## RESTART and power loss (R140) -/

/-- The medium when an erase is abandoned: the victim's header reads invalid, and the next scan erases it again
(R136, R140). -/
def abandonErase (t : Store) : Vector SectorMedium 16 :=
  if t.engine = .erasing ∨ t.engine = .suspended then
    match t.pass with
    | some p => t.medium.set p.victim.val { t.medium[p.victim] with header := .invalid }
    | none => t.medium
  else t.medium

/-- The store after a RESTART: a program in progress goes on as an orphan, everything that waits is discarded and
the scan begins anew (R140). -/
def Store.restarted (t : Store) : Store :=
  { Store.initial (abandonErase t) with orphan := if t.active.isSome then t.active else t.orphan }

/-- The medium after a power loss (R140). -/
def Store.mediumAfterLoss (t : Store) (unitsDone : Nat) (torn : Bool) : Vector SectorMedium 16 :=
  match (if t.active.isSome then t.active else t.orphan) with
  | some p => writeInterrupted p unitsDone torn t.medium
  | none => abandonErase t

end Sys2Proof.Machine
end

