-- ==== Sys2Proof/Machine/Lines.lean ====
section
/-! DEFINITION. The line engines (chapter 8): the end of exchanges (R161 to R164), wake and sleep (R165 to R169),
FAULT and its retries (R170, R171), enumeration (R172 to R177), and the reports that START and RESCAN wait
for (R175, R176, R212). -/

namespace Sys2Proof.Machine

/-! ## Counters (R155, R162, R163) -/

/-- A failure adds one to the line's counter of its kind (R162). -/
def countFailure (k : FailureKind) (x : Line) : Line :=
  let c := x.counters
  { x with counters :=
    match k with
    | .noResponse => { c with noResponse := satAdd 65535 c.noResponse 1 }
    | .incomplete => { c with incomplete := satAdd 65535 c.incomplete 1 }
    | .badCheck => { c with badCheck := satAdd 65535 c.badCheck 1 }
    | .orderMismatch => { c with orderMismatch := satAdd 65535 c.orderMismatch 1 } }

/-- The consecutive bit errors return to 0 at the end of an exchange sent without one (R164). -/
def sentClean (l : LineId) (s : State) : State := s.modLine l fun x => { x with consecutive := 0 }

/-- A failure of an exchange on a line. -/
def noteFailure (l : LineId) (k : FailureKind) (s : State) : State := s.modLine l (countFailure k)

/-! ## Reports to START and RESCAN (R175 to R177, R212) -/

/-- The number that stands for a line state, asked of the free numbering (R156). -/
def lineStateIndex : LineState → Nat
  | .off => 0 | .asleep => 1 | .waking => 2 | .enumerating => 3 | .running => 4 | .fault => 5

/-- The byte for the screens found: none, 48, 49, or both, asked of the free numbering (R155). -/
def screensByte (l : List Nat) : List Byte :=
  [Config.unnumbered .screensFound
    (match decide (48 ∈ l), decide (49 ∈ l) with
     | false, false => 0
     | true, false => 1
     | false, true => 2
     | true, true => 3)]

/-- What a line would report now (R175). -/
def Line.report (x : Line) : LineReport := ⟨x.state, x.seatsFound, x.screensFound⟩

/-- The bytes of a line's report: its state, seats found and screens found (R212). -/
def reportBytes (r : LineReport) : List Byte :=
  [Config.unnumbered .lineState (lineStateIndex r.state)] ++ put1 r.seatsFound ++ screensByte r.screensFound

/-- A line's state, seats found and screens found as they stand. -/
def lineReport (x : Line) : List Byte := reportBytes x.report

/-- What a line has reported to the START in flight (R175, R212). No run forms START's reply without a report of each
line. -/
def startLineReport (x : Line) : LineReport := x.reported.getD x.report

/-- When both lines have reported, the part enters RUN, the evaluation is made, and START's reply is formed
(R212). -/
def startReport (s : State) : State :=
  match s.link.startTag with
  | none => s
  | some tag =>
    if s.lineA.reportOwed ∨ s.lineB.reportOwed then s
    else
      let s1 := evaluate (s.setLink { s.link with run := true })
      let s2 := reply 0x48 tag .ok (reportBytes (startLineReport s1.lineA) ++ reportBytes (startLineReport s1.lineB)) s1
      s2.setLink { s2.link with startTag := none }

/-- The reply of a RESCAN that a line's report answers (R176, R217). -/
def rescanReply (x : Line) (tag : Byte) (s : State) : State :=
  reply 0x41 tag .ok (put1 x.seatsFound ++ screensByte x.screensFound
    ++ [Config.unnumbered .lineState (lineStateIndex x.state)]) s

/-- A line reports the end of its enumeration, or its FAULT: the reply of each RESCAN is formed, in the order they were
taken (R176; log entry 22), and START, which keeps the report, waits for it no more (R175, R177, R212). -/
def report (l : LineId) (s : State) : State :=
  let x := s.line l
  let s1 := s.setLine l { x with
    rescans := []
    reportOwed := false
    reported := if x.reportOwed then some x.report else x.reported }
  startReport (x.rescans.foldl (fun s tag => rescanReply x tag s) s1)

/-! ## Entering states -/

/-- The line enters RUNNING (R166, R186, R193). -/
def enterRunning (l : LineId) (s : State) : State :=
  s.modLine l fun x => { x with
    state := .running
    cause := none
    idle := 0
    minuteLast := s.now
    sleepDue := false
    round := Round.initial
    others := 0
    second := none
    activity := .none
    begun := false }

/-! ## FAULT (R170, R177) -/

/-- The item whose two segments are part way sent (R170, R197). DESIGN CHOICE (log entry 63): an item is so from the
choice of its first segment, even while that segment waits for a low line and nothing has been driven. -/
def itemUnderWay (x : Line) : Option (ScreenId × OrderContent) :=
  match x.second with
  | some p => some p
  | none =>
    match x.activity with
    | .exchange (.order (.screen j) c .first) => some (j, c)
    | .exchange (.order (.screen j) c .second) => some (j, c)
    | _ => none

/-- Step 1 of R170: a two-segment item part way sent is a failure of that item. -/
def abandonItem (l : LineId) (s : State) : State :=
  match itemUnderWay (s.line l) with
  | some (j, c) => takeOrderFailure (.screen j) c s
  | none => s

/-- The kinds found by an enumeration, by seat. -/
def foundSeats (l : LineId) (kinds : List UnitKind) : List (SeatId × UnitKind) :=
  kinds.zipIdx.map fun p => (seatAtPosition l (p.2 + 1), p.1)

/-- The seat default role of a position found by enumeration (R73). -/
def enumeratedRole (kind : UnitKind) (r : SeatRec) : SeatRec :=
  if r.hostSet then r else { r with defaultRole := if kind = .chair then 1 else 0 }

/-- R177: the positions found are LOST, with the kind and the seat default role of the unit found (R73), and every
other position and both screens are ABSENT. -/
def cutOffCore (l : LineId) (kinds : List UnitKind) (s : State) : State :=
  let found := foundSeats l kinds
  let s1 := found.foldl (fun s p =>
    s.modSeat p.1 fun r => enumeratedRole p.2 { r with kind := some p.2 }) s
  let s2 := loseCore (found.map fun p => Station.seat p.1) s1
  ((stationsOfLine l).filter fun u => decide (u ∉ found.map fun p => Station.seat p.1)).foldl
    (fun s u => absentCore u s) s2

/-- The seats of a line freeze, those that are LOST or ABSENT, after the recompute of their change (R68). -/
def freezeLine (l : LineId) (s : State) : State :=
  (seatsOfLine l).foldl (fun s i =>
    if inService (s.seat i).presence then s else freezeSeat i s) s

/-- The line's own part of entering FAULT (R170 steps 1 and 4). -/
def faultLine (cause : FaultCause) (x : Line) : Line :=
  { x with
    state := .fault
    cause := some cause
    consecutive := 0
    counters := { x.counters with faults := satAdd 65535 x.counters.faults 1 }
    activity := .none
    begun := false
    second := none
    sleepDue := false }

/-- A line enters FAULT, as one change (R170, R177). DEDUCED (log entry 52): an enumeration that is cut off leaves no
screens found, since its screens are ABSENT. -/
def enterFault (l : LineId) (cause : FaultCause) (s : State) : State :=
  let x := s.line l
  let s1 := (abandonItem l s).modLine l (faultLine cause)
  let s2 :=
    if x.state = .enumerating then
      let kinds := x.enumeration.kinds
      (freezeLine l (changeLevels (cutOffCore l kinds) s1)).modLine l fun y =>
        { y with seatsFound := kinds.length, screensFound := [] }
    else loseUnits (s1.unitsInService l) s1
  let s3 := markFault (.lineFault l cause) s2
  if x.rescans ≠ [] ∨ x.reportOwed then report l s3 else s3

/-- The engine may be waiting for a low line: it wants to drive and has not begun, or a wake pulse is in progress
(R165, R166). -/
def mayBeShorted (x : Line) : Bool :=
  x.state == .waking
    || ((x.state == .running || x.state == .enumerating) && x.activity != .none && !x.begun)

/-! ## The end of an exchange on a RUNNING line -/

/-- A poll ends: it counts in its round, and the count of other exchanges returns to 0 (R192, R193). -/
def pollEnded (addr : Nat) (probe : Bool) (x : Line) : Line :=
  { x with
    others := 0
    round := if probe then { x.round with lastProbed := addr } else { x.round with lastPolled := addr } }

/-- An exchange other than a poll ends (R193). -/
def otherEnded (x : Line) : Line := { x with others := x.others + 1 }

/-- The addressee of a poll. -/
def pollStation (l : LineId) (addr : Nat) : Station := (stationAt l addr).getD (.screen (screenAt l true))

/-- A clean poll ends (R183). -/
def endPoll (l : LineId) (addr : Nat) (probe : Bool) (f : PollFields) (s : State) : State :=
  let s1 := (sentClean l s).modLine l (pollEnded addr probe)
  nextExchange l (takePoll (pollStation l addr) probe f (quietLine l s1))

/-- A clean FETCH ends (R79). -/
def endFetch (l : LineId) (i : SeatId) (identity : List Byte) (s : State) : State :=
  let s1 := (sentClean l s).modLine l otherEnded
  nextExchange l (takeFetch i identity (quietLine l s1))

/-- A clean ORDER ends: the first segment of an item makes its second segment due, any other order is acknowledged
(R162, R196, R197). -/
def endOrder (l : LineId) (u : Station) (c : OrderContent) (seg : Segment) (s : State) : State :=
  let s1 := quietLine l (sentClean l s)
  match seg, u with
  | .first, .screen j =>
    nextExchange l (recordClean u (s1.modLine l fun x => { x with second := some (j, c) }))
  | _, _ => nextExchange l (takeAcknowledgement u c (s1.modLine l otherEnded))

/-- A failed poll ends: a miss of the unit, but for a probe (R184, R186). -/
def failPoll (l : LineId) (addr : Nat) (probe : Bool) (k : FailureKind) (s : State) : State :=
  let s1 := quietLine l ((noteFailure l k (sentClean l s)).modLine l (pollEnded addr probe))
  nextExchange l (if probe then s1 else recordMiss (pollStation l addr) s1)

/-- A failed FETCH ends: it is marked again, and it is a miss (R79, R162, R184). -/
def failFetch (l : LineId) (i : SeatId) (k : FailureKind) (s : State) : State :=
  let s1 := quietLine l ((noteFailure l k (sentClean l s)).modLine l otherEnded)
  nextExchange l (recordMiss (.seat i) (refetch i s1))

/-- A failed ORDER ends: it is marked again, and it is a miss (R162, R184, R197). -/
def failOrder (l : LineId) (u : Station) (c : OrderContent) (k : FailureKind) (s : State) : State :=
  let s1 := quietLine l ((noteFailure l k (sentClean l s)).modLine l otherEnded)
  nextExchange l (recordMiss u (takeOrderFailure u c s1))

/-! ## Bit errors (R163, R164) -/

/-- An exchange abandoned by a bit error is handed back as not made: an ORDER is marked again, either segment of an
item being a failure of that item, and a FETCH stays pending (R163, R197). -/
def handBack (x : Exchange) (s : State) : State :=
  match x with
  | .order u c .whole => putMark u (contentKind c) true s
  | .order u c _ => takeOrderFailure u c s
  | .fetch i => refetch i s
  | _ => s

/-- What an exchange abandoned by a bit error counts among the exchanges since the last poll: nothing (R193). DEDUCED
(log entry 66): but one where it is the second segment of an item, which ends that item as a failure does (R197), so
that the bound of R195 holds. -/
def abandonedCount : Exchange → Nat
  | .order _ _ .second => 1
  | _ => 0

/-- A bit error counts on the line (R163, R164). -/
def countBitError (x : Line) : Line :=
  { x with
    consecutive := satAdd 16 x.consecutive 1
    counters := { x.counters with bitError := satAdd 65535 x.counters.bitError 1 } }

/-- An exchange is abandoned by a bit error: the resync gap begins, or, at the 16th in a row, the line enters FAULT
(R163, R164). -/
def abandonExchange (l : LineId) (x : Exchange) (s : State) : State :=
  let s1 := (handBack x s).modLine l fun y => { countBitError y with
    activity := .gap x, begun := false, others := y.others + abandonedCount x }
  if 16 ≤ (s1.line l).consecutive then enterFault l .bitErrors s1 else s1

/-- The resync gap ends: in enumeration the exchange is sent again, SLEEP is repeated while it is due, and
otherwise the next exchange is chosen (R163, R169, R173). -/
def endGap (l : LineId) (x : Exchange) (s : State) : State :=
  if (s.line l).state = .enumerating then putExchange l x s else nextExchange l (quietLine l s)

/-! ## Enumeration (R172 to R175) -/

/-- Change where an enumeration stands. -/
def modEnum (l : LineId) (f : EnumState → EnumState) (s : State) : State :=
  s.modLine l fun x => { x with enumeration := f x.enumeration }

/-- Send the ASSIGN of a position for the first time (R173). -/
def assignPosition (l : LineId) (k : Nat) (s : State) : State :=
  putExchange l (.assign k) (modEnum l (fun e => { e with position := k, assigns := 1, polls := 0 }) s)

/-- The seat part ends: address 48 is polled (R174). -/
def endSeatPart (l : LineId) (s : State) : State :=
  putExchange l (.screenPoll 48) (modEnum l (fun e => { e with polls := 0 }) s)

/-- A position is found with a kind (R173). -/
def positionFound (l : LineId) (k : Nat) (kind : UnitKind) (s : State) : State :=
  let s1 := modEnum l (fun e => { e with kinds := e.kinds ++ [kind] }) s
  if k < 32 then assignPosition l (k + 1) s1 else endSeatPart l s1

/-- The findings of an enumeration go to the seat table within one change (R73, R175). -/
def findingsCore (l : LineId) (kinds : List UnitKind) (screens : List Nat) (s : State) : State :=
  let found := foundSeats l kinds
  let s1 := found.foldl (fun s p =>
    (returnCore (.seat p.1) p.2 s).modSeat p.1 (enumeratedRole p.2)) s
  (stationsOfLine l).foldl (fun s u =>
    match u with
    | .seat i => if i ∈ found.map (·.1) then s else absentCore u s
    | .screen _ => if addressOf u ∈ screens then returnCore u .screen s else absentCore u s) s1

/-- Enumeration ends (R175). -/
def endEnumeration (l : LineId) (s : State) : State :=
  let e := (s.line l).enumeration
  let s1 := freezeLine l (changeLevels (findingsCore l e.kinds e.screens) s)
  let s2 := enterRunning l (s1.modLine l fun x => { x with
    enumOwed := false
    seatsFound := e.kinds.length
    screensFound := e.screens
    urgentPtr := none
    fetchPtr := none
    bulkPtr := none })
  report l (arbiter l s2)

/-- The poll of a screen address is settled: the next address, or the end of enumeration (R174). -/
def screenSettled (l : LineId) (addr : Nat) (found : Bool) (s : State) : State :=
  let s1 := modEnum l (fun e => { e with
    polls := 0, screens := if found then e.screens ++ [addr] else e.screens }) s
  if addr = 48 then putExchange l (.screenPoll 49) s1 else endEnumeration l (quietLine l s1)

/-- A broadcast UNASSIGN ends (R172). -/
def endUnassign (l : LineId) (s : State) : State :=
  let s1 := modEnum l (fun e => { e with unassigns := e.unassigns + 1 }) (sentClean l s)
  if 2 ≤ (s1.line l).enumeration.unassigns then assignPosition l 1 s1 else putExchange l .unassign s1

/-- An ASSIGN of position `k` ends (R173). -/
def endAssign (l : LineId) (k : Nat) (a : LineAnswer) (s0 : State) : State :=
  let s := sentClean l s0
  match judgeAssign k a with
  | .ok kind => positionFound l k kind s
  | .error f =>
    putExchange l (.confirmPoll k) (modEnum l (fun e =>
      { e with noResponse := decide (f = .noResponse), polls := 0 }) (noteFailure l f s))

/-- A confirming poll of position `k` ends (R173). -/
def endConfirmPoll (l : LineId) (k : Nat) (a : LineAnswer) (s0 : State) : State :=
  let s := sentClean l s0
  match judgePoll k a with
  | .ok f => positionFound l k f.kind s
  | .error f =>
    let s1 := noteFailure l f s
    let e := (s1.line l).enumeration
    if f = .noResponse then
      if e.noResponse ∨ 3 ≤ e.assigns then endSeatPart l s1
      else putExchange l (.assign k) (modEnum l (fun e => { e with assigns := e.assigns + 1, polls := 0 }) s1)
    else if 3 ≤ e.polls + 1 then endSeatPart l s1
    else putExchange l (.confirmPoll k) (modEnum l (fun e => { e with polls := e.polls + 1 }) s1)

/-- An enumeration poll of a screen address ends (R174). -/
def endScreenPoll (l : LineId) (addr : Nat) (a : LineAnswer) (s0 : State) : State :=
  let s := sentClean l s0
  match judgePoll addr a with
  | .ok _ => screenSettled l addr true s
  | .error f =>
    let s1 := noteFailure l f s
    if f = .noResponse ∨ 3 ≤ (s1.line l).enumeration.polls + 1 then screenSettled l addr false s1
    else putExchange l (.screenPoll addr) (modEnum l (fun e => { e with polls := e.polls + 1 }) s1)

/-! ## Wake and sleep (R166, R169) -/

/-- The wake delimiter ends: the idle count is 0, and the line enumerates after START or for a RESCAN, and is RUNNING
otherwise (R166). -/
def endDelimiter (l : LineId) (s : State) : State :=
  let x := s.line l
  if x.reportOwed ∨ x.rescans ≠ [] then
    beginEnumeration l (s.modLine l fun x => { x with idle := 0, minuteLast := s.now })
  else nextExchange l (enterRunning l s)

/-- A broadcast SLEEP has been sent clean: the line is ASLEEP. DEDUCED (log entry 59): a RESCAN taken while SLEEP was on
the line then wakes it. DESIGN CHOICE (log entry 21): without a sleep due, which no run shows (R169), the line stays
RUNNING. -/
def endSleep (l : LineId) (s0 : State) : State :=
  let s := sentClean l s0
  let x := s.line l
  if !x.sleepDue then nextExchange l (quietLine l s)
  else
    let s1 := s.setLine l { x with
      state := .asleep, activity := .none, begun := false, sleepDue := false }
    if x.rescans ≠ [] then wakeLine l s1 else s1

/-! ## Retries of a FAULT line (R171) -/

/-- The lowest assigned address (R155). -/
def lowestAddress (x : Line) : Option Nat :=
  if 1 ≤ x.seatsFound then some 1
  else if 48 ∈ x.screensFound then some 48
  else if 49 ∈ x.screensFound then some 49
  else none

/-- The address a retry probes: none while enumeration is owed (R171). -/
def probeAddress (x : Line) : Option Nat := if x.enumOwed then none else lowestAddress x

/-- A retry that was not clean ends. -/
def retryOver (x : Line) : Line := { x with activity := .none, begun := false }

/-- A FAULT line recovers (R171): it enumerates where enumeration is owed, and is RUNNING otherwise. DESIGN CHOICE (log
entry 58): where it enumerates, the idle count and the minute last counted stay until it enters RUNNING. -/
def recoverLine (l : LineId) (s : State) : State :=
  let s1 := sentClean l s
  if (s1.line l).enumOwed then beginEnumeration l s1 else enterRunning l s1

/-- A retry of a FAULT line ends (R171): a pulse that is lost without the line being held low leaves the cause. A result
that does not fit the retry, a probe where none is due or none where one is due, changes nothing. DESIGN CHOICE (log
entry 69): at the 16th bit error in a row counted by probes, where R164 says that the line enters FAULT and R171 that it
stays there with its cause, the count stays at 16 and there is no new entry, notice or FAULT count. -/
def endRetry (l : LineId) (result : RetryResult) (s : State) : State :=
  match result, probeAddress (s.line l) with
  | .heldLow, _ => s.modLine l fun x => { retryOver x with cause := some .shorted }
  | .pulseLost, _ => s.modLine l retryOver
  | .quiet, none =>
    let s1 := recoverLine l s
    if (s1.line l).state = .running then nextExchange l s1 else s1
  | .probed a, some addr =>
    match judgePoll addr a with
    | .ok f => nextExchange l (takePoll (pollStation l addr) true f (recoverLine l s))
    | .error k => (noteFailure l k (sentClean l s)).modLine l retryOver
  | .bitError, some _ => s.modLine l fun x => retryOver (countBitError x)
  | _, _ => s

/-- What a second event does at a line (R171, R192): a FAULT line is retried, one retry at a time, and a RUNNING
line that waits begins a probing round where it has a LOST unit. -/
def secondAtLine (l : LineId) (s : State) : State :=
  let x := s.line l
  if x.activity ≠ .none then s
  else
    match x.state with
    | .fault => s.setLine l { x with activity := .retry, begun := false }
    | .running =>
      if s.lostAddresses l = [] then s
      else
        let s1 := beginRound l s
        match s1.pollInRound l with
        | some e => putExchange l e s1
        | none => s1
    | _ => s

end Sys2Proof.Machine
end

