-- ==== Sys2Proof/Machine/ReqFloor.lean ====
section
/-! DEFINITION. The requests of the floor, the speech log and the sound levels (R26 to R33, R51, R54 to R56): what
each does when it is taken, its reply included. -/

namespace Sys2Proof.Machine

/-- A request whose payload has one length: any other is BAD_LENGTH (R203). -/
def fixedForm (kind tag : Byte) (size : Nat) (payload : List Byte) (f : State → State) (s : State) : State :=
  if payload.length = size then f s else reply kind tag .badLength [] s

/-- The floor state of a seat, asked of the free numbering (R4). -/
def floorStateByte (s : State) (i : SeatId) : List Byte :=
  [Config.unnumbered .floorState (if s.speaking i then 2 else if s.requesting i then 1 else 0)]

/-! ## GRANT, CLOSE, WITHDRAW (R27 to R29) -/

/-- What GRANT comes to (R27). -/
def grantResult (i : SeatId) (s : State) : Result :=
  if s.speaking i then .ok
  else if !inService (s.seat i).presence then .absent
  else if !s.eligibleToSpeak i then .notPermitted
  else if s.roomFor (s.seatDef i).chairClass then .ok
  else if !(s.seatDef i).chairClass && s.floor.policy.fullAction == .replaceOldest then .ok
  else .full

/-- What GRANT does to the floor (R27). -/
def grantSeat (i : SeatId) (s : State) : State :=
  if s.speaking i ∨ grantResult i s ≠ .ok then s
  else if s.roomFor (s.seatDef i).chairClass then openSeat i s
  else openSeat i (closeOldest .replaced s)

/-- GRANT (R26, R27). -/
def reqGrant (tag : Byte) (p : List Byte) (s : State) : State :=
  fixedForm 0x01 tag 1 p (fun s =>
    match seatOf (byteAt p 0) with
    | none => reply 0x01 tag .badValue [] s
    | some i =>
      if !s.floor.isOpen then reply 0x01 tag .wrongState [] s
      else
        let s1 := change (grantSeat i) s
        reply 0x01 tag (grantResult i s) (floorStateByte s1 i) s1) s

/-- CLOSE (R26, R28). -/
def reqClose (tag : Byte) (p : List Byte) (s : State) : State :=
  fixedForm 0x02 tag 1 p (fun s =>
    match seatOf (byteAt p 0) with
    | none => reply 0x02 tag .badValue [] s
    | some i =>
      if !s.floor.isOpen then reply 0x02 tag .wrongState [] s
      else if !s.speaking i then reply 0x02 tag .notFound [] s
      else reply 0x02 tag .ok [] (change (closeAdvance .host i) s)) s

/-- WITHDRAW (R26, R29). -/
def reqWithdraw (tag : Byte) (p : List Byte) (s : State) : State :=
  fixedForm 0x03 tag 1 p (fun s =>
    match seatOf (byteAt p 0) with
    | none => reply 0x03 tag .badValue [] s
    | some i =>
      if !s.floor.isOpen then reply 0x03 tag .wrongState [] s
      else if !s.requesting i then reply 0x03 tag .notFound [] s
      else reply 0x03 tag .ok [] (change (withdrawSeat i) s)) s

/-! ## CLEAR_FLOOR, SET_FLOOR, FLOOR_STATUS (R30 to R33) -/

/-- What CLEAR_FLOOR does to the floor (R30). -/
def clearFloorCore (s : State) : State :=
  let s1 := emptyRequests s
  closeAll .clear s1.ordinarySeats s1

/-- CLEAR_FLOOR (R26, R30). -/
def reqClearFloor (tag : Byte) (p : List Byte) (s : State) : State :=
  fixedForm 0x04 tag 0 p (fun s =>
    if !s.floor.isOpen then reply 0x04 tag .wrongState [] s
    else reply 0x04 tag .ok [] (change clearFloorCore s)) s

/-- SET_FLOOR (R26, R31, R32). -/
def reqSetFloor (tag : Byte) (p : List Byte) (s : State) : State :=
  fixedForm 0x05 tag 14 p (fun s =>
    match policyAt p 0 with
    | none => reply 0x05 tag .badValue [] s
    | some given =>
      if !s.floor.isOpen then reply 0x05 tag .wrongState [] s
      else
        let policy := clampPolicy given
        reply 0x05 tag (okOr (decide (policy ≠ given))) (putPolicy policy)
          (change (adoptPolicy policy) s)) s

/-- A speaker entry of 8 bytes (R222). -/
def speakerBytes (e : SpeakerEntry) : List Byte :=
  put1 e.seat.val ++ put4 e.openStamp ++ put2 e.elapsed ++ speakerFlags e

/-- A request entry of 5 bytes, with its position (R222). -/
def requestBytes (r : RequestEntry) (position : Nat) : List Byte :=
  put1 r.seat.val ++ put1 r.band ++ put2 r.arrival ++ put1 position

/-- The two places for holders, the lower number first (R222). -/
def holderBytes (l : List SeatId) : List Byte :=
  let sorted := l.foldl (fun acc i => insertUnit i.val acc) []
  putOptional sorted[0]? ++ putOptional sorted[1]?

/-- The body of the FLOOR notice less the close summary (R208, R222). -/
def floorBody (f : Floor) : List Byte :=
  putYesNo f.isOpen ++ put1 f.speakers.length ++ f.speakers.flatMap speakerBytes
    ++ put1 f.requests.length ++ (f.requests.zipIdx.flatMap fun p => requestBytes p.1 (p.2 + 1))
    ++ holderBytes f.holders ++ putYesNo f.muting

/-- FLOOR_STATUS (R26, R33, R222). -/
def reqFloorStatus (tag : Byte) (p : List Byte) (s : State) : State :=
  fixedForm 0x06 tag 0 p (fun s =>
    if !s.floor.isOpen then reply 0x06 tag .wrongState [] s
    else reply 0x06 tag .ok
      (floorBody s.floor ++ putPolicy s.floor.policy ++ put2 s.floor.arrivalCounter) s) s

/-! ## READ_LOG (R51, R52) -/

/-- A speech log record of 12 bytes (R222). -/
def recordBytes (r : LogRecord) : List Byte :=
  put2 r.booking ++ put1 r.seat.val ++ putOptional r.attendee ++ put4 r.openStamp ++ put2 r.duration
    ++ put1 (closeNumber r.reason) ++ recordFlags r

/-- What READ_LOG leaves of the log: the records after the first `n`, and a dropped count of 0 (R51); the LOG mark
is cleared where the log becomes empty (R52). -/
def drainLog (n : Nat) (s : State) : State :=
  let rest := s.log.records.drop n
  let s1 := s.setLog ⟨rest, 0⟩
  if rest = [] then s1.modMarks fun m => { m with log := false } else s1

/-- READ_LOG (R51, R222). -/
def reqReadLog (tag : Byte) (p : List Byte) (s : State) : State :=
  fixedForm 0x08 tag 1 p (fun s =>
    let given := num1 p 0
    let n := clampTo 1 8 given
    let taken := s.log.records.take n
    let left := s.log.records.length - taken.length
    reply 0x08 tag (okOr (n != given))
      (put1 taken.length ++ put1 left ++ put1 s.log.dropped ++ taken.flatMap recordBytes)
      (drainLog n s)) s

/-! ## SET_LEVELS, SET_TRIM, GET_LEVELS (R54 to R56) -/

/-- The six master inputs as a reply carries them (R54), on and off as yes and no (log entry 49). -/
def masterBytes (m : Masters) : List Byte :=
  put1 m.mic ++ putYesNo m.attenuation ++ put1 m.base ++ put1 m.duck1 ++ put1 m.duck2 ++ put1 m.slew

/-- The master inputs of a SET_LEVELS, as given (R54). DEDUCED (log entry 49): the on/off of the open-microphone
attenuation is read as a yes/no field, 1 for on and 0 for off. -/
def mastersAt (p : List Byte) : Option Masters :=
  (yesNo (byteAt p 1)).map fun a => ⟨num1 p 0, a, num1 p 2, num1 p 3, num1 p 4, num1 p 5⟩

/-- The master inputs brought into their ranges (R54). -/
def clampMasters (m : Masters) : Masters where
  mic := clampTo 0 48 m.mic
  attenuation := m.attenuation
  base := clampTo 0 120 m.base
  duck1 := clampTo 0 40 m.duck1
  duck2 := clampTo 0 40 m.duck2
  slew := clampTo 2 24 m.slew

/-- SET_LEVELS (R54). -/
def reqSetLevels (tag : Byte) (p : List Byte) (s : State) : State :=
  fixedForm 0x10 tag 6 p (fun s =>
    match mastersAt p with
    | none => reply 0x10 tag .badValue [] s
    | some given =>
      let m := clampMasters given
      reply 0x10 tag (okOr (decide (m ≠ given))) (masterBytes m)
        (changeLevels (fun s => s.setMasters m) s)) s

/-- A microphone level as a reply carries it: a gain is a number (R217, 00_scope 4.2); OFF, and UNKNOWN for `none`,
have none and are asked of the free numbering. -/
def micByte : Option MicLevel → List Byte
  | none => [Config.unnumbered .micGain 86]
  | some .off => [Config.unnumbered .micGain 85]
  | some (.gain n) => put1 n

/-- A loudspeaker level as a reply carries it: a code is a number (R217, 00_scope 4.2); MUTE, and UNKNOWN for
`none`, have none and are asked of the free numbering. -/
def speakerByte : Option SpeakerLevel → List Byte
  | none => [Config.unnumbered .loudspeaker 122]
  | some .mute => [Config.unnumbered .loudspeaker 121]
  | some (.code n) => put1 n

/-- A signed quantity brought into a range from −b to b (R55). -/
def clampTrim (b : Nat) (t : Int) : Int := max (-(b : Int)) (min b t)

/-- SET_TRIM (R55). -/
def reqSetTrim (tag : Byte) (p : List Byte) (s : State) : State :=
  fixedForm 0x11 tag 3 p (fun s =>
    match seatOf (byteAt p 0) with
    | none => reply 0x11 tag .badValue [] s
    | some i =>
      let t := clampTrim 24 (signedAt p 1)
      let u := clampTrim 12 (signedAt p 2)
      let s1 := changeLevels (fun s => s.modSeat i fun r =>
        { r with micTrim := t, speakerTrim := u }) s
      reply 0x11 tag (okOr (t != signedAt p 1 || u != signedAt p 2))
        (putSigned t ++ putSigned u ++ micByte (some (s1.seat i).targetMic)
          ++ speakerByte (some (s1.seat i).targetSpeaker)) s1) s

/-- What GET_LEVELS reports of a seat (R56). DESIGN CHOICE (log entry 53): the pending item is three yes/no bytes,
for MIC, for GAIN and for SPEAKER. -/
def levelsBody (i : SeatId) (s : State) : List Byte :=
  let r := s.seat i
  masterBytes s.masters ++ putSigned r.micTrim ++ putSigned r.speakerTrim ++ put1 (s.seatDef i).lift
    ++ putYesNo (s.live i) ++ put1 s.liveSeats.length ++ micByte (some r.targetMic)
    ++ speakerByte (some r.targetSpeaker) ++ micByte r.sentMic ++ speakerByte r.sentSpeaker
    ++ putYesNo r.frozen ++ putYesNo r.marks.mic ++ putYesNo r.marks.gain ++ putYesNo r.marks.speaker

/-- GET_LEVELS (R56). -/
def reqGetLevels (tag : Byte) (p : List Byte) (s : State) : State :=
  fixedForm 0x12 tag 1 p (fun s =>
    match seatOf (byteAt p 0) with
    | none => reply 0x12 tag .badValue [] s
    | some i => reply 0x12 tag .ok (levelsBody i s) s) s

end Sys2Proof.Machine
end

