-- ==== Sys2Proof/Machine/ReqRoles.lean ====
section
/-! DEFINITION. The requests of roles, filters, labels and displays (R72 to R75, R146, R154). -/

namespace Sys2Proof.Machine

/-! ## Roles (R72, R73) -/

/-- A role definition as a reply carries it (R71, R72). -/
def roleBytes (d : RoleDef) : List Byte :=
  putText 12 d.name ++ put1 d.band ++ putYesNo d.mayRequest ++ putYesNo d.maySpeak ++ putYesNo d.chairClass
    ++ put1 d.lift

/-- The definition a SET_ROLE carries, as given; `none` where a field is BAD_VALUE (R72). -/
def roleDefAt (p : List Byte) : Option RoleDef := do
  let mayRequest ← yesNo (byteAt p 15)
  let maySpeak ← yesNo (byteAt p 16)
  let chairClass ← yesNo (byteAt p 17)
  let name := textAt p 1 12
  if name = [] then none
  else return ⟨name, num1 p 14, mayRequest, maySpeak, chairClass, num1 p 18⟩

/-- A role definition brought into range (R72). -/
def clampRole (d : RoleDef) : RoleDef := { d with band := clampTo 0 3 d.band, lift := clampTo 0 12 d.lift }

/-- Replace a role definition (R72). -/
def setRoleDef (n : RoleId) (d : RoleDef) (s : State) : State :=
  s.setRoles { s.roles with defs := s.roles.defs.set n.val d }

/-- SET_ROLE (R72, R212). -/
def reqSetRole (tag : Byte) (p : List Byte) (s : State) : State :=
  fixedForm 0x18 tag 19 p (fun s =>
    match roleOf (byteAt p 0), roleDefAt p with
    | some n, some given =>
      if s.link.run then reply 0x18 tag .wrongState [] s
      else if s.link.startTag.isSome then reply 0x18 tag .busy [] s
      else
        let d := clampRole given
        reply 0x18 tag (okOr (decide (d ≠ given))) (roleBytes d) (changeLevels (setRoleDef n d) s)
    | _, _ => reply 0x18 tag .badValue [] s) s

/-- GET_ROLE (R72). -/
def reqGetRole (tag : Byte) (p : List Byte) (s : State) : State :=
  fixedForm 0x19 tag 1 p (fun s =>
    match roleOf (byteAt p 0) with
    | none => reply 0x19 tag .badValue [] s
    | some n => reply 0x19 tag .ok (roleBytes (s.roleDef n)) s) s

/-- Set a seat default role and its host-set mark (R73). -/
def setSeatRole (i : SeatId) (n : RoleId) (s : State) : State :=
  s.modSeat i fun r => { r with defaultRole := n, hostSet := true }

/-- SET_SEAT_ROLE (R73). -/
def reqSetSeatRole (tag : Byte) (p : List Byte) (s : State) : State :=
  fixedForm 0x1A tag 2 p (fun s =>
    match seatOf (byteAt p 0), roleOf (byteAt p 1) with
    | some i, some n =>
      let s1 := change (setSeatRole i n) s
      reply 0x1A tag .ok (put1 (s1.seat i).defaultRole.val ++ put1 (s1.effRole i).number.val
        ++ putYesNo (s1.effRole i).restricted) s1
    | _, _ => reply 0x1A tag .badValue [] s) s

/-! ## Filters (R74, R75) -/

/-- A filter entry. -/
def State.filter (s : State) (n : Fin 16) : FilterEntry := s.roles.filters[n]

/-- Write a filter entry. -/
def setFilterEntry (n : Fin 16) (f : FilterEntry) (s : State) : State :=
  s.setRoles { s.roles with filters := s.roles.filters.set n.val f }

/-- A filter entry as a reply carries it (R74). -/
def filterBytes (f : FilterEntry) : List Byte :=
  putYesNo f.enabled ++ f.value ++ f.mask ++ putOptional f.lengthRule ++ put1 f.role.val

/-- SET_FILTER (R74). -/
def reqSetFilter (tag : Byte) (p : List Byte) (s : State) : State :=
  fixedForm 0x1B tag 19 p (fun s =>
    match filterOf (byteAt p 0), roleOf (byteAt p 18), lengthRuleOf (byteAt p 17) with
    | some n, some role, some rule =>
      if (s.filter n).enabled then reply 0x1B tag .locked [] s
      else
        let f : FilterEntry := ⟨false, (p.drop 1).take 8, (p.drop 9).take 8, rule, role⟩
        reply 0x1B tag .ok (filterBytes f) (setFilterEntry n f s)
    | _, _, _ => reply 0x1B tag .badValue [] s) s

/-- GET_FILTER (R74). -/
def reqGetFilter (tag : Byte) (p : List Byte) (s : State) : State :=
  fixedForm 0x1C tag 1 p (fun s =>
    match filterOf (byteAt p 0) with
    | none => reply 0x1C tag .badValue [] s
    | some n => reply 0x1C tag .ok (filterBytes (s.filter n)) s) s

/-- ENABLE_FILTER (R75). -/
def reqEnableFilter (tag : Byte) (p : List Byte) (s : State) : State :=
  fixedForm 0x1D tag 1 p (fun s =>
    match filterOf (byteAt p 0) with
    | none => reply 0x1D tag .badValue [] s
    | some n => reply 0x1D tag .ok [] (setFilterEntry n { s.filter n with enabled := true } s)) s

/-- DISABLE_FILTER (R75). -/
def reqDisableFilter (tag : Byte) (p : List Byte) (s : State) : State :=
  fixedForm 0x1E tag 1 p (fun s =>
    match filterOf (byteAt p 0) with
    | none => reply 0x1E tag .badValue [] s
    | some n => reply 0x1E tag .ok [] (setFilterEntry n { s.filter n with enabled := false } s)) s

/-! ## Labels and displays (R146, R154) -/

/-- A label that may be absent or UNKNOWN, as a reply carries it. -/
def labelField : Option Text → List Byte
  | some t => putText 24 t
  | none => Config.absentField 25

/-- Set or remove the host label of a seat (R146). -/
def setHostLabel (i : SeatId) (t : Text) (s : State) : State :=
  s.modSeat i fun r => { r with hostLabel := if t = [] then none else some t }

/-- SET_LABEL (R146). -/
def reqSetLabel (tag : Byte) (p : List Byte) (s : State) : State :=
  fixedForm 0x38 tag 26 p (fun s =>
    match seatOf (byteAt p 0) with
    | none => reply 0x38 tag .badValue [] s
    | some i =>
      let s1 := remarkLabel i (change (setHostLabel i (textAt p 1 24)) s)
      reply 0x38 tag .ok (labelField (s1.seat i).hostLabel ++ putText 24 (s1.labelOf i).1
        ++ put1 (s1.labelOf i).2) s1) s

/-- What GET_DISPLAY reports (R154). DESIGN CHOICE (log entry 53): what is pending of a seat is two yes/no bytes, for
LABEL and for STATUS. -/
def displayBody (u : Station) (s : State) : List Byte :=
  match u with
  | .seat i =>
    let r := s.seat i
    putText 24 (s.labelOf i).1 ++ put1 (s.labelOf i).2 ++ labelField r.hostLabel ++ labelField r.labelSent
      ++ [Config.unnumbered .statusCode (statusIndex (s.status i).1)] ++ put2 (s.status i).2
      ++ putYesNo r.marks.label ++ putYesNo r.marks.status
  | .screen j =>
    let c := s.screen j
    put1 (presenceNumber c.presence) ++ (List.finRange 16).flatMap fun k : Fin 16 =>
      putYesNo c.itemMarks[k] ++ putYesNo (c.itemSent[k]).isNone

/-- GET_DISPLAY (R154). -/
def reqGetDisplay (tag : Byte) (p : List Byte) (s : State) : State :=
  fixedForm 0x39 tag 1 p (fun s =>
    match stationOf (byteAt p 0) with
    | none => reply 0x39 tag .badValue [] s
    | some u => reply 0x39 tag .ok (displayBody u s) s) s

end Sys2Proof.Machine
end

