-- ==== Sys2Proof/Machine/ReqMeetings.lean ====
section
/-! DEFINITION. The requests of the clock, the room, the bookings and the meeting (R89, R90, R94 to R101, R111 to
R113). -/

namespace Sys2Proof.Machine

/-- The start-up scan is running. -/
def State.scanning (s : State) : Bool := s.store.engine == .scanning

/-! ## Room and clock (R89, R90) -/

/-- The room settings as a reply carries them (R90). -/
def roomBytes (r : RoomSettings) : List Byte :=
  put1 r.gap ++ put1 r.lobbyLead ++ put1 r.endWarning ++ put1 r.idleTime ++ put1 r.cardRole.val

/-- The room settings brought into range (R90). -/
def clampRoom (r : RoomSettings) : RoomSettings :=
  { r with
    gap := clampTo 0 30 r.gap
    lobbyLead := clampTo 0 30 r.lobbyLead
    endWarning := clampTo 0 15 r.endWarning
    idleTime := clampTo 1 60 r.idleTime }

/-- Write the room settings. -/
def setRoom (r : RoomSettings) (s : State) : State := s.setSeq { s.seq with room := r }

/-- SET_ROOM (R90, R212). -/
def reqSetRoom (tag : Byte) (p : List Byte) (s : State) : State :=
  fixedForm 0x20 tag 5 p (fun s =>
    match roleOf (byteAt p 4) with
    | none => reply 0x20 tag .badValue [] s
    | some role =>
      if s.link.run then reply 0x20 tag .wrongState [] s
      else if s.link.startTag.isSome then reply 0x20 tag .busy [] s
      else
        let given : RoomSettings := ⟨num1 p 0, num1 p 1, num1 p 2, num1 p 3, role⟩
        let r := clampRoom given
        reply 0x20 tag (okOr (decide (r ≠ given))) (roomBytes r) (setRoom r s)) s

/-- SET_TIME (R89, R114): the clock takes the value, and the minute event follows. -/
def reqSetTime (tag : Byte) (p : List Byte) (s : State) : State :=
  fixedForm 0x21 tag 4 p (fun s =>
    let s1 := minuteEvent (s.setClock (some (num4 p 0)))
    reply 0x21 tag .ok (put4 (s1.clock.getD 0) ++ put4 (s1.now.getD 0)) s1) s

/-- GET_TIME (R89). -/
def reqGetTime (tag : Byte) (p : List Byte) (s : State) : State :=
  fixedForm 0x22 tag 0 p (fun s =>
    reply 0x22 tag .ok (match s.clock with
      | none => putYesNo false
      | some c => putYesNo true ++ put4 c ++ put4 (c / 60)) s) s

/-! ## LIST and OPEN_NOW (R101, R111) -/

/-- LIST (R101): summaries of the first entries whose end is after a minute, then the "more" flag. -/
def reqList (tag : Byte) (p : List Byte) (s : State) : State :=
  fixedForm 0x23 tag 5 p (fun s =>
    if s.scanning then reply 0x23 tag .notReady [] s
    else
      let given := num1 p 4
      let count := clampTo 1 16 given
      let found := (byStart s.seq.index).filter fun e => decide (num4 p 0 < e.endMin)
      reply 0x23 tag (okOr (count != given))
        ((found.take count).flatMap summaryBytes ++ putYesNo (decide (count < found.length))) s) s

/-- OPEN_NOW (R111). -/
def reqOpenNow (tag : Byte) (p : List Byte) (s : State) : State :=
  fixedForm 0x24 tag 0 p (fun s =>
    if s.scanning then reply 0x24 tag .notReady [] s
    else
      match s.seq.current with
      | some c =>
        if c.phase ≠ .lobby then reply 0x24 tag .wrongState [] s
        else if s.held c.number then reply 0x24 tag .busy [] s
        else reply 0x24 tag .ok [] (enterSession c s)
      | none => reply 0x24 tag .wrongState [] s) s

/-! ## Booking changes (R93 to R99, R112, R113) -/

/-- The first checks of every booking change: the scan has completed and no change is in flight (R93). -/
def changeCheck (s : State) : Option Result :=
  if s.scanning then some .notReady else if s.seq.change.isSome then some .busy else none

/-- The body of a CONFLICT (R220). -/
def conflictBody (e : IndexEntry) : List Byte := put2 e.number ++ put4 e.startMin ++ put4 e.endMin

/-- What checking a booking change comes to: a refusal with its body, or the go-ahead. -/
inductive Verdict (α : Type) where
  | refused (r : Result) (body : List Byte)
  | go (a : α)

/-- The length of a window is 5 to 720 minutes (R94). -/
def lengthOk (startMin endMin : Nat) : Bool := decide (startMin + 5 ≤ endMin ∧ endMin ≤ startMin + 720)

/-- Checks 3 to 6 of R94 on a window, a booking left out of the overlap test. -/
def windowVerdict (except : Option Nat) (d : BookingData) (s : State) : Verdict Unit :=
  match s.now with
  | none => .refused .noTime []
  | some now =>
    if !lengthOk d.startMin d.endMin then .refused .badValue []
    else if d.startMin < now + 1 then .refused .tooLate []
    else if now + 259200 < d.startMin then .refused .badValue []
    else
      match s.conflict except d.startMin d.endMin with
      | some e => .refused .conflict (conflictBody e)
      | none => .go ()

/-- A booking with its policy brought into range, and whether a field moved (R91). -/
def clampBooking (d : BookingData) : BookingData × Bool :=
  ({ d with policy := clampPolicy d.policy }, decide (clampPolicy d.policy ≠ d.policy))

/-- A new booking is admitted to programming: the change is in flight and its version-1 record is handed on (R93,
R94). -/
def startAdmission (kind : ChangeKind) (tag : Byte) (d : BookingData) (clamped : Bool)
    (evict : Option Nat) (s : State) : State :=
  let n := s.nextNumber
  handOn (bookingJob n 1 d) (setChange (some ⟨kind, tag, n, d, clamped, evict⟩) s)

/-- Checks 7 and 8 of R94, and the start of programming. -/
def admission (kind : ChangeKind) (kindByte tag : Byte) (d : BookingData) (clamped : Bool) (s : State) :
    State :=
  match s.roomForBooking with
  | none => reply kindByte tag .full [] s
  | some evict =>
    if s.store.latch then reply kindByte tag .storeHalted [] s
    else startAdmission kind tag d clamped evict s

/-- BOOK's payload fits its own attendee count (R221). -/
def bookForm (offset : Nat) (p : List Byte) : Bool :=
  decide (offset + 89 ≤ p.length ∧ p.length = offset + 89 + 44 * num1 p (offset + 88))

/-- BOOK (R94). DESIGN CHOICE (log entry 50): a booking change refused at its checks, this one and the others, is not
in flight (R93), so it completes nothing and no evaluation is made. -/
def reqBook (tag : Byte) (p : List Byte) (s : State) : State :=
  if !bookForm 0 p then reply 0x28 tag .badLength [] s
  else
    match changeCheck s with
    | some r => reply 0x28 tag r [] s
    | none =>
      match bookingAt p 0 with
      | none => reply 0x28 tag .badValue [] s
      | some given =>
        match windowVerdict none given s with
        | .refused r body => reply 0x28 tag r body s
        | .go () => admission .book 0x28 tag (clampBooking given).1 (clampBooking given).2 s

/-- The booking of a WALK_IN (R97): title "Walk-in". -/
def walkInData (now duration : Nat) : BookingData where
  startMin := now
  endMin := now + duration
  title := textOf [87, 97, 108, 107, 45, 105, 110]
  organiser := []
  policy := Policy.walkIn
  attendees := []

/-- The conflict of a walk-in: the current meeting, or a booking that fails the overlap test (R97). -/
def State.walkInConflict (s : State) (d : BookingData) : Option IndexEntry :=
  match s.seq.current.bind fun c => s.entry c.number with
  | some e => some e
  | none => s.conflict none d.startMin d.endMin

/-- WALK_IN (R97). -/
def reqWalkIn (tag : Byte) (p : List Byte) (s : State) : State :=
  fixedForm 0x29 tag 2 p (fun s =>
    match changeCheck s with
    | some r => reply 0x29 tag r [] s
    | none =>
      match s.now with
      | none => reply 0x29 tag .noTime [] s
      | some now =>
        let duration := num2 p 0
        if duration < 5 ∨ 720 < duration then reply 0x29 tag .badValue [] s
        else
          match s.walkInConflict (walkInData now duration) with
          | some e => reply 0x29 tag .conflict (conflictBody e) s
          | none => admission .walkIn 0x29 tag (walkInData now duration) false s) s

/-- The programming of a change to an existing booking starts: the booking is held (R93, R98). -/
def startAmend (tag : Byte) (e : IndexEntry) (d : BookingData) (clamped : Bool) (s : State) : State :=
  handOn (bookingJob e.number (e.version + 1) d)
    (setChange (some ⟨.amend, tag, e.number, d, clamped, none⟩) s)

/-- AMEND (R98). -/
def reqAmend (tag : Byte) (p : List Byte) (s : State) : State :=
  if !bookForm 2 p then reply 0x2A tag .badLength [] s
  else
    match changeCheck s with
    | some r => reply 0x2A tag r [] s
    | none =>
      match s.entry (num2 p 0) with
      | none => reply 0x2A tag .notFound [] s
      | some e =>
        if e.state ≠ .pending ∨ s.loading e.number then reply 0x2A tag .wrongState [] s
        else
          match bookingAt p 2 with
          | none => reply 0x2A tag .badValue [] s
          | some given =>
            match windowVerdict (some e.number) given s with
            | .refused r body => reply 0x2A tag r body s
            | .go () =>
              if 255 ≤ e.version then reply 0x2A tag .full [] s
              else if s.store.latch then reply 0x2A tag .storeHalted [] s
              else startAmend tag e (clampBooking given).1 (clampBooking given).2 s

/-- A change that programs a STATE record is in flight (R99, R113). -/
def startSettle (kind : ChangeKind) (tag : Byte) (e : IndexEntry) (b : BookingState) (s : State) : State :=
  handOn (stateJob .change e.number e.version b)
    (setChange (some ⟨kind, tag, e.number, walkInData 0 0, false, none⟩) s)

/-- CANCEL (R99). -/
def reqCancel (tag : Byte) (p : List Byte) (s : State) : State :=
  fixedForm 0x2B tag 2 p (fun s =>
    match changeCheck s with
    | some r => reply 0x2B tag r [] s
    | none =>
      match s.entry (num2 p 0) with
      | none => reply 0x2B tag .notFound [] s
      | some e =>
        if e.state = .inSession ∨ settled e.state then reply 0x2B tag .wrongState [] s
        else if s.store.latch then reply 0x2B tag .storeHalted [] s
        else startSettle .cancel tag e .cancelled s) s

/-- The index entry of the IN_SESSION booking. -/
def State.inSessionEntry (s : State) : Option IndexEntry :=
  match s.seq.current with
  | some c => if c.phase = .inSession then s.entry c.number else none
  | none => none

/-- The EXTEND is in flight: its read is asked (R112). -/
def startExtend (tag : Byte) (e : IndexEntry) (endMin : Nat) (clamped : Bool) (s : State) : State :=
  askRead (.extend e.number)
    (setChange (some ⟨.extend, tag, e.number, { walkInData 0 0 with endMin := endMin }, clamped, none⟩) s)

/-- EXTEND (R112). -/
def reqExtend (tag : Byte) (p : List Byte) (s : State) : State :=
  fixedForm 0x2C tag 1 p (fun s =>
    match changeCheck s with
    | some r => reply 0x2C tag r [] s
    | none =>
      match s.inSessionEntry with
      | none => reply 0x2C tag .wrongState [] s
      | some e =>
        let given := num1 p 0
        let minutes := clampTo 1 240 given
        let endMin := e.endMin + minutes
        if e.startMin + 720 < endMin then reply 0x2C tag .badValue [] s
        else
          match s.conflict (some e.number) e.startMin endMin with
          | some x => reply 0x2C tag .conflict (conflictBody x) s
          | none =>
            if 255 ≤ e.version then reply 0x2C tag .full [] s
            else if s.store.latch then reply 0x2C tag .storeHalted [] s
            else startExtend tag e endMin (minutes != given) s) s

/-- END_NOW (R113): the meeting ends at once; the STATE record is programmed, or dropped while the store is
HALTED. -/
def reqEndNow (tag : Byte) (p : List Byte) (s : State) : State :=
  fixedForm 0x2D tag 0 p (fun s =>
    match changeCheck s with
    | some r => reply 0x2D tag r [] s
    | none =>
      match s.inSessionEntry with
      | none => reply 0x2D tag .wrongState [] s
      | some e =>
        let s1 := endMeeting e.number s
        if s.store.latch then
          completeChange ⟨.endNow, tag, e.number, walkInData 0 0, false, none⟩ .storeHalted [] s1
        else startSettle .endNow tag e .done s1) s

/-- GET_BOOKING (R100): the reply is formed when the read completes. -/
def reqGetBooking (tag : Byte) (p : List Byte) (s : State) : State :=
  fixedForm 0x2E tag 2 p (fun s =>
    if s.scanning then reply 0x2E tag .notReady [] s
    else
      match s.entry (num2 p 0) with
      | none => reply 0x2E tag .notFound [] s
      | some e => askRead (.getBooking e.number tag) s) s

end Sys2Proof.Machine
end

