-- ==== Sys2Proof/Machine/ReqLines.lean ====
section
/-! DEFINITION. The requests of the store, the seat lines, the seat table and the part (R128, R133, R135, R156,
R176, R178, R180, R210, R212, R213, R215, R216). -/

namespace Sys2Proof.Machine

/-! ## The store (R128, R133, R135) -/

/-- A number for an engine state, asked of the free numbering (R120). -/
def engineIndex : EngineState → Nat
  | .scanning => 0 | .idle => 1 | .programming => 2 | .erasing => 3 | .suspended => 4

/-- The byte of the engine's state. -/
def engineByte (s : State) : List Byte := [Config.unnumbered .engineState (engineIndex s.store.engine)]

/-- What STORE_STATUS reports (R135). -/
def storeStatusBody (s : State) : List Byte :=
  let counts : List Byte :=
    if s.scanning then put1 0 ++ put1 0 ++ put1 0 ++ put1 0 ++ put2 0
    else put1 (s.sectorsIn .erased).length ++ put1 (s.sectorsIn .opened).length
      ++ put1 (s.sectorsIn .full).length ++ put1 (s.sectorsIn .retired).length ++ put2 s.freeUnits
  let damaged := if s.scanning then 0 else (s.seq.index.filter fun e => e.state == .damaged).length
  engineByte s ++ putYesNo s.store.latch ++ putYesNo s.store.pass.isSome ++ counts
    ++ put2 s.store.corrected ++ put1 damaged
    ++ put1 (resultNumber (storeOutcomeResult s.store.lastOutcome))

/-- STORE_STATUS (R135): the corrected-unit count is cleared after the reply has been formed. -/
def reqStoreStatus (tag : Byte) (p : List Byte) (s : State) : State :=
  fixedForm 0x30 tag 1 p (fun s =>
    match yesNo (byteAt p 0) with
    | none => reply 0x30 tag .badValue [] s
    | some clear =>
      let s1 := reply 0x30 tag .ok (storeStatusBody s) s
      if clear then modStore (fun t => { t with corrected := 0 }) s1 else s1) s

/-- STORE_CLEAR (R128). -/
def reqStoreClear (tag : Byte) (p : List Byte) (s : State) : State :=
  fixedForm 0x31 tag 0 p (fun s =>
    if s.scanning then reply 0x31 tag .notReady [] s
    else if !s.store.latch then reply 0x31 tag .ok [] s
    else if s.sectorsInService < 4 then reply 0x31 tag .storeFault [] s
    else passIfShort (reply 0x31 tag .ok []
      (markStore (modStore (fun t => { t with latch := false }) s)))) s

/-- COMPACT (R133): the reply is formed when the pass ends. -/
def reqCompact (tag : Byte) (p : List Byte) (s : State) : State :=
  fixedForm 0x32 tag 0 p (fun s =>
    if s.scanning then reply 0x32 tag .notReady [] s
    else if s.store.latch then reply 0x32 tag .storeHalted [] s
    else if s.store.pass.isSome then reply 0x32 tag .busy [] s
    else startPass (some tag) s) s

/-! ## The seat lines (R156, R176, R178) -/

/-- The settings of one line in a SET_LINES (R156). -/
structure LineSettings where
  enabled : Bool
  bitRate : Nat
  wakeDelimiter : Nat
deriving DecidableEq

/-- The settings of one line at an offset; `none` where a value is BAD_VALUE (R156). -/
def lineSettingsAt (p : List Byte) (i : Nat) : Option LineSettings :=
  match yesNo (byteAt p i) with
  | none => none
  | some e =>
    let rate := num4 p (i + 1)
    let delimiter := num1 p (i + 5)
    if (rate = 125000 ∨ rate = 250000)
        ∧ (delimiter = 2 ∨ delimiter = 4 ∨ delimiter = 8 ∨ delimiter = 16) then
      some ⟨e, rate, delimiter⟩
    else none

/-- The settings of a line as a reply carries them (R156). -/
def settingsBytes (x : Line) : List Byte := putYesNo x.enabled ++ put4 x.bitRate ++ put1 x.wakeDelimiter

/-- Write the settings of a line (R156). -/
def setSettings (c : LineSettings) (x : Line) : Line :=
  { x with enabled := c.enabled, bitRate := c.bitRate, wakeDelimiter := c.wakeDelimiter }

/-- SET_LINES (R156, R212). -/
def reqSetLines (tag : Byte) (p : List Byte) (s : State) : State :=
  fixedForm 0x40 tag 12 p (fun s =>
    match lineSettingsAt p 0, lineSettingsAt p 6 with
    | some a, some b =>
      if s.link.run then reply 0x40 tag .wrongState [] s
      else if s.link.startTag.isSome then reply 0x40 tag .busy [] s
      else
        let s1 := (s.modLine .a (setSettings a)).modLine .b (setSettings b)
        reply 0x40 tag .ok (settingsBytes s1.lineA ++ settingsBytes s1.lineB) s1
    | _, _ => reply 0x40 tag .badValue [] s) s

/-- What RESCAN comes to before it is taken: WRONG_STATE or BUSY (R176). DEDUCED (log entry 22): a line that wakes for
another cause is WAKING for a RESCAN from the taking of one. -/
def rescanCheck (l : LineId) (s : State) : Option Result :=
  let x := s.line l
  if !s.link.run then some .wrongState
  else if x.state = .off ∨ x.state = .fault then some .wrongState
  else if x.state = .enumerating ∨ (x.state = .waking ∧ x.rescans ≠ []) then some .busy
  else none

/-- A RESCAN is taken (R176): the line's units become LOST, and enumeration follows the exchange on the line, or a
wake. A RUNNING line takes another while one still waits for its exchange; one enumeration answers them all (log entry
22). -/
def takeRescan (l : LineId) (tag : Byte) (s : State) : State :=
  let s1 := (loseUnits (s.unitsInService l) s).modLine l fun x => { x with rescans := x.rescans ++ [tag] }
  match (s1.line l).state with
  | .asleep => wakeLine l s1
  | .running => if (s1.line l).activity = .none then nextExchange l s1 else s1
  | _ => s1

/-- RESCAN (R176): the reply is formed when enumeration ends. -/
def reqRescan (tag : Byte) (p : List Byte) (s : State) : State :=
  fixedForm 0x41 tag 1 p (fun s =>
    match lineOf (byteAt p 0) with
    | none => reply 0x41 tag .badValue [] s
    | some l =>
      match rescanCheck l s with
      | some r => reply 0x41 tag r [] s
      | none => takeRescan l tag s) s

/-- A fault cause, asked of the free numbering; an absent one is the absent byte (R155, R178, R217). -/
def causeByte : Option FaultCause → List Byte
  | none => [0xFF]
  | some .shorted => [Config.unnumbered .faultCause 0]
  | some .bitErrors => [Config.unnumbered .faultCause 1]

/-- The six failure counters (R155). -/
def counterBytes (c : LineCounters) : List Byte :=
  put2 c.noResponse ++ put2 c.incomplete ++ put2 c.badCheck ++ put2 c.orderMismatch ++ put2 c.bitError
    ++ put2 c.faults

/-- What LINE_STATUS reports (R178). -/
def lineStatusBody (x : Line) : List Byte :=
  settingsBytes x ++ [Config.unnumbered .lineState (lineStateIndex x.state)] ++ causeByte x.cause
    ++ putYesNo x.enumOwed ++ put1 x.seatsFound ++ screensByte x.screensFound ++ put1 x.consecutive
    ++ put1 x.idle ++ counterBytes x.counters

/-- LINE_STATUS (R178): the counters are cleared after the reply has been formed. -/
def reqLineStatus (tag : Byte) (p : List Byte) (s : State) : State :=
  fixedForm 0x42 tag 2 p (fun s =>
    match lineOf (byteAt p 0), yesNo (byteAt p 1) with
    | some l, some clear =>
      let s1 := reply 0x42 tag .ok (lineStatusBody (s.line l)) s
      if clear then s1.modLine l fun x => { x with counters := LineCounters.zero } else s1
    | _, _ => reply 0x42 tag .badValue [] s) s

/-! ## GET_SEAT (R180) -/

/-- The body of a SEAT notice (R180, R222). -/
def seatBody (u : Station) (s : State) : List Byte :=
  put1 (stationNumber u) ++ put1 (presenceNumber (s.presence u))
    ++ putOptional ((s.kind u).map kindNumber)
    ++ (match u with
        | .seat i =>
          put1 (cardNumber (s.seat i).card.state) ++ putOptional ((s.seat i).card.role.map (·.val))
            ++ putOptional (s.seat i).card.attendee ++ put1 (s.effRole i).number.val
            ++ putYesNo (s.effRole i).restricted
        | .screen _ => [0xFF, 0xFF, 0xFF, 0xFF, 0xFF])

/-- The order kinds in the pending set of a unit, by their code bytes (R190, R223). -/
def pendingCodes (u : Station) (s : State) : List Byte :=
  match u with
  | .seat i =>
    let m := (s.seat i).marks
    ([(m.confirm, 0x01), (m.speaker, 0x02), (m.mic, 0x03), (m.gain, 0x04), (m.status, 0x05),
      (m.label, 0x06)] : List (Bool × Byte)).filterMap fun p => if p.1 then some p.2 else none
  | .screen j =>
    (if (s.screen j).confirmMark then [0x01] else [])
      ++ (List.finRange 16).filterMap fun k : Fin 16 =>
          if (s.screen j).itemMarks[k] then some (BitVec.ofNat 8 (0x20 + k.val)) else none

/-- What GET_SEAT reports (R180). DESIGN CHOICE (log entry 64): a screen's record has no fetch mark (R179), and its
field reads 0xFF as absent. -/
def getSeatBody (u : Station) (s : State) : List Byte :=
  seatBody u s ++ put1 (s.missCount u) ++ putYesNo (s.confirmOutstanding u)
    ++ (match u with
        | .seat i => putYesNo (s.seat i).fetchMark
        | .screen _ => [0xFF])
    ++ Config.orderSetField (pendingCodes u s)
    ++ (match u with | .seat i => floorStateByte s i | .screen _ => [])

/-- GET_SEAT (R180). -/
def reqGetSeat (tag : Byte) (p : List Byte) (s : State) : State :=
  fixedForm 0x43 tag 1 p (fun s =>
    match stationOf (byteAt p 0) with
    | none => reply 0x43 tag .badValue [] s
    | some u => reply 0x43 tag .ok (getSeatBody u s) s) s

/-! ## START, RESTART, SET_NOTICES, IDENTIFY, PING (R210, R212, R213, R215, R216) -/

/-- An enabled line is woken by START and owes its report; a line that is not enabled reports at once (R166,
R212). -/
def startLine (l : LineId) (s : State) : State :=
  if (s.line l).enabled then (wakeLine l s).modLine l fun x => { x with reportOwed := true, reported := none }
  else s.modLine l fun x => { x with reported := some x.report }

/-- START (R212): the reply is formed when both lines have reported. -/
def reqStart (tag : Byte) (p : List Byte) (s : State) : State :=
  fixedForm 0x48 tag 0 p (fun s =>
    if s.link.run then reply 0x48 tag .wrongState [] s
    else if s.link.startTag.isSome then reply 0x48 tag .busy [] s
    else startReport (startLine .b (startLine .a (s.setLink { s.link with startTag := some tag })))) s

/-- RESTART (R213): its reply is placed, and the part awaits its reset. -/
def reqRestart (tag : Byte) (p : List Byte) (s : State) : State :=
  fixedForm 0x49 tag 0 p (fun s =>
    let s1 := placeFrame ⟨.restartReply, replyFrame 0x49 tag .ok []⟩ s
    s1.setLink { s1.link with awaitingReset := true }) s

/-- The seven enable flags a SET_NOTICES carries, in the order of R207. -/
def noticeFlagsAt (p : List Byte) : Option NoticeFlags := do
  let fault ← yesNo (byteAt p 0)
  let meeting ← yesNo (byteAt p 1)
  let floor ← yesNo (byteAt p 2)
  let seat ← yesNo (byteAt p 3)
  let speech ← yesNo (byteAt p 4)
  let store ← yesNo (byteAt p 5)
  let log ← yesNo (byteAt p 6)
  return ⟨fault, meeting, floor, seat, speech, store, log⟩

/-- The seven flags as a reply carries them (R210). -/
def noticeFlagBytes (f : NoticeFlags) : List Byte :=
  putYesNo f.fault ++ putYesNo f.meeting ++ putYesNo f.floor ++ putYesNo f.seat ++ putYesNo f.speech
    ++ putYesNo f.store ++ putYesNo f.log

/-- SET_NOTICES (R210). -/
def reqSetNotices (tag : Byte) (p : List Byte) (s : State) : State :=
  fixedForm 0x4A tag 7 p (fun s =>
    match noticeFlagsAt p with
    | none => reply 0x4A tag .badValue [] s
    | some f => reply 0x4A tag .ok (noticeFlagBytes f) (s.setLink { s.link with enables := f })) s

/-- The part state, CONFIG or RUN, asked of the free numbering (R211). -/
def partStateByte (s : State) : List Byte := [Config.unnumbered .partState (boolNumber s.link.run)]

/-- What IDENTIFY reports (R215): the part code "TCM-64" first. DESIGN CHOICE (log entry 64): it goes as a text of width
6, its own length, and the revision number as one byte (R217). -/
def identifyBody (s : State) : List Byte :=
  putText 6 (textOf [84, 67, 77, 45, 54, 52]) ++ [Config.revision] ++ put4 s.rate ++ partStateByte s
    ++ putYesNo s.link.startTag.isSome ++ putYesNo s.scanning
    ++ put1 s.lineA.seatsFound ++ screensByte s.lineA.screensFound
    ++ put1 s.lineB.seatsFound ++ screensByte s.lineB.screensFound

/-- IDENTIFY (R215). -/
def reqIdentify (tag : Byte) (p : List Byte) (s : State) : State :=
  fixedForm 0x4B tag 0 p (fun s => reply 0x4B tag .ok (identifyBody s) s) s

/-- PING (R216): the lost-REJECT count is set to 0 after the reply is formed. -/
def reqPing (tag : Byte) (p : List Byte) (s : State) : State :=
  if 64 < p.length then reply 0x4C tag .badLength [] s
  else
    let s1 := reply 0x4C tag .ok
      (p ++ partStateByte s ++ putYesNo s.scanning ++ put1 s.link.lostRejects) s
    s1.setLink { s1.link with lostRejects := 0 }

/-- A request of unknown kind (R203, R219): the reply has kind 0xFF and carries the kind received. -/
def reqUnknownKind (kind tag : Byte) (s : State) : State :=
  placeFrame ⟨.reply, ⟨0xFF, tag, put1 (resultNumber .unknownKind) ++ [kind]⟩⟩ s

end Sys2Proof.Machine
end

