-- ==== Sys2Proof/Machine/HostLink.lean ====
section
/-! DEFINITION. The host link: notices (R207 to R209), the transmitter's choice (R206), taking requests from the
input queue (R202, R203), the receiver (R200, R201), and the resets (R213, R214). -/

namespace Sys2Proof.Machine

/-- Change the host link. -/
def State.modLink (s : State) (f : HostLink → HostLink) : State := s.setLink (f s.link)

/-! ## Notices (R206 to R209) -/

/-- The bytes of a fault's kind and subject: the kind, the line and the cause are asked of the free numbering
(R209). -/
def faultBytes : Option FaultNote → List Byte
  | none => [0xFF]
  | some (.lineFault l c) =>
    [Config.unnumbered .faultKind 0] ++ put1 (match l with | .a => 0 | .b => 1) ++ causeByte (some c)
  | some (.storeRetire n) => [Config.unnumbered .faultKind 1] ++ put1 n
  | some (.storeHalted c) =>
    [Config.unnumbered .faultKind 2,
      Config.unnumbered .haltCause (match c with | .verify => 0 | .tooFewSectors => 1 | .counter => 2)]
  | some (.damagedBooking n) => [Config.unnumbered .faultKind 3] ++ put2 n

/-- The body of a FAULT notice (R209). -/
def faultNoticeBody (s : State) : List Byte := faultBytes s.link.faultNote ++ put1 s.link.faultCount

/-- The body of a MEETING notice (R115): its last settled booking goes with the state it has. DEDUCED (log entry 60):
one that has left the index goes with the state it left it in. -/
def meetingNoticeBody (s : State) : List Byte :=
  let c := s.seq.current
  let e := c.bind fun c => s.entry c.number
  put2 ((c.map (·.number)).getD 0) ++ [Config.unnumbered .phase (phaseIndex (c.map (·.phase)))]
    ++ put4 ((e.map (·.startMin)).getD 0) ++ put4 ((e.map (·.endMin)).getD 0)
    ++ putYesNo ((c.map (·.resumed)).getD false) ++ putYesNo ((c.map (·.warned)).getD false)
    ++ put2 ((s.seq.lastSettled.map (·.1)).getD 0)
    ++ putOptional (s.seq.lastSettled.map fun p => bookingNumber p.2)

/-- The body of a FLOOR notice (R208, R222). -/
def floorNoticeBody (s : State) : List Byte :=
  floorBody s.floor ++ put1 s.link.closeCount ++ putOptional (s.link.lastClose.map (·.1.val))
    ++ putOptional (s.link.lastClose.map fun p => closeNumber p.2)

/-- The body of a SPEECH notice (R47). -/
def speechNoticeBody (i : SeatId) (s : State) : List Byte :=
  let e := s.speaker i
  let a := s.boundAttendee i
  put1 i.val ++ putYesNo e.isSome ++ put2 ((e.map (·.elapsed)).getD 0)
    ++ putYesNo ((e.map (·.warned)).getD false) ++ putYesNo ((e.map (·.overran)).getD false)
    ++ putOptional a
    ++ (match a.bind s.rosterEntry with
        | some r => put2 r.total
        | none => Config.absentField 2)

/-- The body of a STORE notice (R134). -/
def storeNoticeBody (s : State) : List Byte :=
  engineByte s ++ put1 (resultNumber (storeOutcomeResult s.store.lastOutcome))

/-- The body of a LOG notice (R52). -/
def logNoticeBody (s : State) : List Byte := put1 s.log.records.length

/-- The unit of a number of the SEAT pending set (R207). -/
def unitOf (n : Nat) : Station := if n < 64 then .seat (Fin.ofNat 64 n) else .screen (Fin.ofNat 4 (n - 64))

/-- A notice that is due: its kind byte, its body, and the state once it is formed (R206, R207). -/
structure DueNotice where
  kind : Byte
  body : List Byte
  after : State

/-- The first notice that is enabled and marked, in the order of R206. -/
def dueNotice (s : State) : Option DueNotice :=
  let m := s.link.marks
  let on := s.link.enables
  if on.fault ∧ m.fault then
    some ⟨0x60, faultNoticeBody s, (s.modMarks fun m => { m with fault := false }).modLink
      fun k => { k with faultCount := 0 }⟩
  else if on.meeting ∧ m.meeting then
    some ⟨0x61, meetingNoticeBody s, s.modMarks fun m => { m with meeting := false }⟩
  else if on.floor ∧ m.floor then
    some ⟨0x62, floorNoticeBody s, (s.modMarks fun m => { m with floor := false }).modLink
      fun k => { k with closeCount := 0, lastClose := none }⟩
  else if on.seat ∧ m.seats ≠ [] then
    some ⟨0x63, seatBody (unitOf (m.seats.headD 0)) s, s.modMarks fun m => { m with seats := m.seats.drop 1 }⟩
  else if on.speech ∧ m.speeches ≠ [] then
    some ⟨0x64, speechNoticeBody (Fin.ofNat 64 (m.speeches.headD 0)) s,
      s.modMarks fun m => { m with speeches := m.speeches.drop 1 }⟩
  else if on.store ∧ m.store then
    some ⟨0x65, storeNoticeBody s, s.modMarks fun m => { m with store := false }⟩
  else if on.log ∧ m.log then
    some ⟨0x66, logNoticeBody s, s.modMarks fun m => { m with log := false }⟩
  else none

/-- An idle transmitter chooses the next frame (R206). -/
def chooseFrame (s : State) : State :=
  match s.link.onLine with
  | some _ => s
  | none =>
    match s.link.waiting with
    | f :: rest => s.modLink fun k => { k with onLine := some f, waiting := rest }
    | [] =>
      match dueNotice s with
      | some d => d.after.modLink fun k => { k with onLine := some ⟨.notice, ⟨d.kind, 0, d.body⟩⟩ }
      | none => s

/-! ## Taking requests (R202, R203, R218) -/

/-- Do a request by its kind byte (R203, R218). -/
def runRequest (f : Frame) (s : State) : State :=
  match f.kind.toNat with
  | 0x01 => reqGrant f.tag f.payload s
  | 0x02 => reqClose f.tag f.payload s
  | 0x03 => reqWithdraw f.tag f.payload s
  | 0x04 => reqClearFloor f.tag f.payload s
  | 0x05 => reqSetFloor f.tag f.payload s
  | 0x06 => reqFloorStatus f.tag f.payload s
  | 0x08 => reqReadLog f.tag f.payload s
  | 0x10 => reqSetLevels f.tag f.payload s
  | 0x11 => reqSetTrim f.tag f.payload s
  | 0x12 => reqGetLevels f.tag f.payload s
  | 0x18 => reqSetRole f.tag f.payload s
  | 0x19 => reqGetRole f.tag f.payload s
  | 0x1A => reqSetSeatRole f.tag f.payload s
  | 0x1B => reqSetFilter f.tag f.payload s
  | 0x1C => reqGetFilter f.tag f.payload s
  | 0x1D => reqEnableFilter f.tag f.payload s
  | 0x1E => reqDisableFilter f.tag f.payload s
  | 0x20 => reqSetRoom f.tag f.payload s
  | 0x21 => reqSetTime f.tag f.payload s
  | 0x22 => reqGetTime f.tag f.payload s
  | 0x23 => reqList f.tag f.payload s
  | 0x24 => reqOpenNow f.tag f.payload s
  | 0x28 => reqBook f.tag f.payload s
  | 0x29 => reqWalkIn f.tag f.payload s
  | 0x2A => reqAmend f.tag f.payload s
  | 0x2B => reqCancel f.tag f.payload s
  | 0x2C => reqExtend f.tag f.payload s
  | 0x2D => reqEndNow f.tag f.payload s
  | 0x2E => reqGetBooking f.tag f.payload s
  | 0x30 => reqStoreStatus f.tag f.payload s
  | 0x31 => reqStoreClear f.tag f.payload s
  | 0x32 => reqCompact f.tag f.payload s
  | 0x38 => reqSetLabel f.tag f.payload s
  | 0x39 => reqGetDisplay f.tag f.payload s
  | 0x40 => reqSetLines f.tag f.payload s
  | 0x41 => reqRescan f.tag f.payload s
  | 0x42 => reqLineStatus f.tag f.payload s
  | 0x43 => reqGetSeat f.tag f.payload s
  | 0x48 => reqStart f.tag f.payload s
  | 0x49 => reqRestart f.tag f.payload s
  | 0x4A => reqSetNotices f.tag f.payload s
  | 0x4B => reqIdentify f.tag f.payload s
  | 0x4C => reqPing f.tag f.payload s
  | _ => reqUnknownKind f.kind f.tag s

/-- A request may be taken: fewer than 4 are outstanding and no RESTART awaits its reset (R202). -/
def State.canTake (s : State) : Bool :=
  decide (s.link.outstanding < Config.maxOutstanding) && !s.link.awaitingReset

/-- A request is taken and its effects done, the store engine going on after them. -/
def takeRequest (f : State → State) (s : State) : State :=
  pump (f (s.modLink fun k => { k with outstanding := k.outstanding + 1 }))

/-- Frames are taken from the head of the queue as long as they may be (R202). -/
def takeFrames : Nat → State → State
  | 0, s => s
  | fuel + 1, s =>
    match s.link.queue with
    | [] => s
    | f :: rest =>
      if s.canTake then
        takeFrames fuel (takeRequest (runRequest f) (s.modLink fun k => { k with queue := rest }))
      else s

/-- What follows every command: the store engine goes on, an idle transmitter chooses, and waiting frames are
taken. -/
def settleLink (s : State) : State :=
  let s1 := pump s
  chooseFrame (takeFrames (s1.link.queue.length) (chooseFrame s1))

/-- A checked frame is offered to the input queue (R202). -/
def offerFrame (f : Frame) (s : State) : State :=
  if s.link.queue.length < Config.queueCapacity then s.modLink fun k => { k with queue := k.queue ++ [f] }
  else reject f.tag .full s

/-- A request arrives as a checked frame: it is taken at once where the queue is empty and it may be, and joins the
queue otherwise (R202). -/
def hostRequest (frame : Frame) (f : State → State) (s : State) : State :=
  if !s.powered then s
  else if s.link.queue = [] ∧ s.canTake then chooseFrame (takeRequest f s)
  else settleLink (offerFrame frame s)

/-! ## The receiver (R200, R201) -/

/-- Write the receiver. -/
def setReceiver (r : Receiver) (s : State) : State := s.modLink fun k => { k with receiver := r }

/-- The length a frame gives by its first two bytes (R199). -/
def frameLength (bytes : List Byte) : Nat := num2 bytes 0

/-- A complete frame, its bytes after the sync byte: it is checked, and discarded with a REJECT or offered to the
queue; the receiver is HUNTING again (R200 to R202). -/
def completeFrame (bytes : List Byte) (s0 : State) : State :=
  let s := setReceiver .hunting s0
  let n := frameLength bytes
  let body := bytes.take (n + 2)
  let frame : Frame := ⟨byteAt bytes 2, byteAt bytes 3, (body.drop 4)⟩
  if frameCheck body = (bytes.drop (n + 2)).take 2 then offerFrame frame s
  else reject (byteAt bytes 3) .badCheck s

/-- The length of a frame's bytes after the sync byte agrees with the length it gives, which is in its range
(R199). -/
def frameComplete (bytes : List Byte) : Bool :=
  decide (2 ≤ frameLength bytes ∧ frameLength bytes ≤ 1538 ∧ bytes.length = frameLength bytes + 4)

/-- The second length byte completes a length outside 2 to 1538: the frame is abandoned (R200). -/
def abandonBadLength (s : State) : State := reject 0 .badLength (setReceiver .hunting s)

/-- A byte is received (R198, R200): its stop bit plays no part. -/
def receiveByte (b : Byte) (s : State) : State :=
  match s.link.receiver with
  | .hunting => if b = 0xA5 then setReceiver (.receiving []) s else s
  | .receiving bytes =>
    let bytes1 := bytes ++ [b]
    if bytes1.length = 2 ∧ (frameLength bytes1 < 2 ∨ 1538 < frameLength bytes1) then abandonBadLength s
    else if frameComplete bytes1 then completeFrame bytes1 s
    else setReceiver (.receiving bytes1) s

/-! ## Resets (R198, R213, R214) -/

/-- The host-line rate that the straps choose (R198). -/
def strapRate (rate1 rate0 : Bool) : Nat :=
  match rate1, rate0 with
  | false, false => 19200
  | false, true => 38400
  | true, false => 115200
  | true, true => 230400

/-- Every block at its values after power-on, over a medium (R214). -/
def bootState (powered : Bool) (rate : Nat) (medium : Vector SectorMedium 16) (pending : List Instr) :
    State :=
  { State.reset with
    powered := powered, rate := rate, store := Store.initial medium, pending := pending }

/-- Power-on (R198, R214). -/
def powerOn (rate1 rate0 : Bool) (s : State) : State :=
  bootState true (strapRate rate1 rate0)
    (if s.powered then s.store.mediumAfterLoss 0 false else s.store.medium) s.pending

/-- A power loss (R140). -/
def losePower (unitsDone : Nat) (torn : Bool) (s : State) : State :=
  bootState false s.rate (s.store.mediumAfterLoss unitsDone torn) s.pending

/-- The reset of a RESTART (R140, R213): the room clock and the strap rate are kept. -/
def restartReset (s : State) : State :=
  { bootState true s.rate s.store.medium s.pending with
    clock := s.clock, store := s.store.restarted }

/-- The transmitter ends a frame (R202, R206, R213). -/
def endFrame (s : State) : State :=
  match s.link.onLine with
  | none => s
  | some f =>
    let s1 := s.modLink fun k => { k with onLine := none }
    match f.cls with
    | .restartReply => restartReset s1
    | .reply => s1.modLink fun k => { k with outstanding := k.outstanding - 1 }
    | _ => s1

/-- An event at a powered part, and what follows it. -/
def event (f : State → State) (s : State) : State := if s.powered then settleLink (f s) else s

end Sys2Proof.Machine
end

