-- ==== Sys2Proof/Machine/CmdEvents.lean ====
section
/-! DEFINITION. The meaning of each event row. An event acts where the state it arises in holds, and changes nothing
where it does not (log entries 1 and 2); every event but POWER_ON finds the part stopped after a power loss. -/

namespace Sys2Proof.Machine

/-! ## The host line and the resets -/

/-- POWER_ON (R214). -/
def execPowerOn (rate1 rate0 : Bool) (s : State) : Host.Outcome State Fault Refusal :=
  .next (settleLink (powerOn rate1 rate0 s))

/-- COMPLETE_FRAME (R201): the bytes of a frame after its sync byte, as many as its length gives. -/
def execCompleteFrame (bytes : List Byte) (s : State) : Host.Outcome State Fault Refusal :=
  .next (event (fun s => if frameComplete bytes then completeFrame bytes s else s) s)

/-- REJECT_TRUNCATED (R200): the gap timer runs out while RECEIVING. -/
def execRejectTruncated (s : State) : Host.Outcome State Fault Refusal :=
  .next (event (fun s =>
    match s.link.receiver with
    | .receiving _ => reject 0 .truncated (setReceiver .hunting s)
    | .hunting => s) s)

/-- REJECT_BAD_LENGTH (R200): the second length byte arrives after the first and completes a length outside 2 to
1538. -/
def execRejectBadLength (second : Byte) (s : State) : Host.Outcome State Fault Refusal :=
  .next (event (fun s =>
    match s.link.receiver with
    | .receiving [first] =>
      if frameLength [first, second] < 2 ∨ 1538 < frameLength [first, second] then abandonBadLength s else s
    | _ => s) s)

/-- HOST_BYTE_RECEIVED (R198, R200). -/
def execHostByteReceived (byte : Byte) (_stopBit : Bool) (s : State) : Host.Outcome State Fault Refusal :=
  .next (event (receiveByte byte) s)

/-- FRAME_SENT (R206): the frame on the line ends. -/
def execFrameSent (s : State) : Host.Outcome State Fault Refusal := .next (event endFrame s)

/-- The RESTART reply is the frame on the line (R213). -/
def State.restartReplyOnLine (s : State) : Bool :=
  match s.link.onLine with
  | some f => f.cls == .restartReply
  | none => false

/-- RESTART_RESET (R213): the last byte of the RESTART reply has been sent, so the reply is on the line and the part
awaits its reset. -/
def execRestartReset (s : State) : Host.Outcome State Fault Refusal :=
  .next (event (fun s => if s.link.awaitingReset && s.restartReplyOnLine then restartReset s else s) s)

/-- POWER_LOSS (R140). -/
def execPowerLoss (unitsDone : Nat) (torn : Bool) (s : State) : Host.Outcome State Fault Refusal :=
  .next (if s.powered then losePower unitsDone torn s else s)

/-! ## Time -/

/-- The clock advances by one second; a whole multiple of 60 is a minute event (R88). -/
def advanceClock (s : State) : State :=
  match s.clock with
  | none => s
  | some c =>
    if c < Config.clockMax then
      let s1 := s.setClock (some (c + 1))
      if (c + 1) % 60 = 0 then minuteEvent s1 else s1
    else s

/-- A second event (R35, R88, R171, R192): the floor, the clock, then the lines (log entry 23). -/
def secondEvent (s : State) : State :=
  secondAtLine .b (secondAtLine .a (advanceClock (change secondAtFloor s)))

/-- SECOND_EVENT (R35). -/
def execSecondEvent (s : State) : Host.Outcome State Fault Refusal := .next (event secondEvent s)

/-- SPEECH_WARNING (R39). -/
def execSpeechWarning (seat : SeatId) (s : State) : Host.Outcome State Fault Refusal :=
  .next (event (change (warningCheck seat)) s)

/-- SPEECH_LIMIT (R40). -/
def execSpeechLimit (seat : SeatId) (s : State) : Host.Outcome State Fault Refusal :=
  .next (event (change (limitCheck seat)) s)

/-- ALLOWANCE_REACHED (R42). -/
def execAllowanceReached (seat : SeatId) (s : State) : Host.Outcome State Fault Refusal :=
  .next (event (change (allowanceCheck seat)) s)

/-- MINUTE_EVENT (R88). -/
def execMinuteEvent (s : State) : Host.Outcome State Fault Refusal := .next (event minuteEvent s)

/-! ## The store -/

/-- STORE_PROGRAM_COMPLETE (R121, R122, R140). -/
def execStoreProgramComplete (wear : List WornUnit) (s : State) : Host.Outcome State Fault Refusal :=
  .next (event (fun s =>
    match s.store.orphan, s.store.active with
    | some p, _ => completeOrphan p wear s
    | none, some p => completeProgram p wear s
    | none, none => s) s)

/-- STORE_READ_COMPLETE (R125): a read for a GET_BOOKING or an EXTEND. -/
def execStoreReadComplete (wear : List WornUnit) (s : State) : Host.Outcome State Fault Refusal :=
  .next (event (fun s =>
    match s.readInProgress with
    | some (.getBooking n tag) => completeGetBooking n tag (takeRead wear s)
    | some (.extend n) => completeExtendRead n (takeRead wear s)
    | _ => s) s)

/-- ROSTER_LOAD_COMPLETE (R108). -/
def execRosterLoadComplete (wear : List WornUnit) (s : State) : Host.Outcome State Fault Refusal :=
  .next (event (fun s =>
    match s.readInProgress with
    | some (.roster n) => completeRosterRead n (takeRead wear s)
    | _ => s) s)

/-- ERASE_COMPLETE (R123, R124). -/
def execEraseComplete (outcome : EraseOutcome) (s : State) : Host.Outcome State Fault Refusal :=
  .next (event (fun s =>
    match s.store.engine, s.store.pass with
    | .erasing, some p => completeErase p outcome s
    | _, _ => s) s)

/-- SCAN_COMPLETE (R139), once a program that a RESTART found in progress has ended (R140). -/
def execScanComplete (wear : List WornUnit) (eraseFailures : List (Fin 16)) (s : State) :
    Host.Outcome State Fault Refusal :=
  .next (event (fun s =>
    if s.store.engine = .scanning ∧ s.store.orphan = none then completeScan wear eraseFailures s else s) s)

/-! ## The seat lines -/

/-- The exchange on a line. -/
def State.exchangeOn (s : State) (l : LineId) : Option Exchange :=
  match (s.line l).activity with
  | .exchange x => some x
  | _ => none

/-- POLL_ANSWER (R183): the poll on the line ends with a clean answer. -/
def execPollAnswer (l : LineId) (a : LineAnswer) (s : State) : Host.Outcome State Fault Refusal :=
  .next (event (fun s =>
    match s.exchangeOn l with
    | some (.poll addr probe) =>
      match judgePoll addr a with
      | .ok f => endPoll l addr probe f s
      | .error _ => s
    | _ => s) s)

/-- FETCH_ANSWER (R79): the FETCH on the line ends with a clean answer. -/
def execFetchAnswer (l : LineId) (a : LineAnswer) (s : State) : Host.Outcome State Fault Refusal :=
  .next (event (fun s =>
    match s.exchangeOn l with
    | some (.fetch i) =>
      match judgeFetch (positionOfSeat i) a with
      | .ok identity => endFetch l i identity s
      | .error _ => s
    | _ => s) s)

/-- ORDER_ACKNOWLEDGED (R162): the ORDER on the line ends with a clean echo. -/
def execOrderAcknowledged (l : LineId) (a : LineAnswer) (s : State) : Host.Outcome State Fault Refusal :=
  .next (event (fun s =>
    match s.exchangeOn l with
    | some (.order u c seg) =>
      match judgeOrder (orderCheck u c seg) a with
      | .ok () => endOrder l u c seg s
      | .error _ => s
    | _ => s) s)

/-- EXCHANGE_FAILURE (R162): the poll, FETCH or ORDER on the line ends with a failure. -/
def execExchangeFailure (l : LineId) (a : LineAnswer) (s : State) : Host.Outcome State Fault Refusal :=
  .next (event (fun s =>
    match s.exchangeOn l with
    | some (.poll addr probe) =>
      match judgePoll addr a with
      | .ok _ => s
      | .error k => failPoll l addr probe k s
    | some (.fetch i) =>
      match judgeFetch (positionOfSeat i) a with
      | .ok _ => s
      | .error k => failFetch l i k s
    | some (.order u c seg) =>
      match judgeOrder (orderCheck u c seg) a with
      | .ok _ => s
      | .error k => failOrder l u c k s
    | _ => s) s)

/-- BIT_ERROR (R163, R164): the exchange on the line is abandoned. -/
def execBitError (l : LineId) (s : State) : Host.Outcome State Fault Refusal :=
  .next (event (fun s =>
    match s.exchangeOn l with
    | some x => abandonExchange l x s
    | none => s) s)

/-- RESYNC_GAP_END (R163). -/
def execResyncGapEnd (l : LineId) (s : State) : Host.Outcome State Fault Refusal :=
  .next (event (fun s =>
    match (s.line l).activity with
    | .gap x => endGap l x s
    | _ => s) s)

/-- LINE_FAULT (R170): cause SHORTED where the engine waits for a low line or a wake pulse does not come back,
cause BIT_ERRORS where the count has reached 16. -/
def execLineFault (l : LineId) (cause : FaultCause) (s : State) : Host.Outcome State Fault Refusal :=
  .next (event (fun s =>
    match cause with
    | .shorted => if mayBeShorted (s.line l) then enterFault l .shorted s else s
    | .bitErrors =>
      if 16 ≤ (s.line l).consecutive ∧ (s.line l).state ≠ .fault then enterFault l .bitErrors s else s) s)

/-- LINE_GOES_HIGH (R165): the engine begins what it waited to drive. -/
def execLineGoesHigh (l : LineId) (s : State) : Host.Outcome State Fault Refusal :=
  .next (event (fun s => s.modLine l fun x =>
    if x.activity = .none then x else { x with begun := true }) s)

/-- WAKE_DELIMITER_END (R166). -/
def execWakeDelimiterEnd (l : LineId) (s : State) : Host.Outcome State Fault Refusal :=
  .next (event (fun s => if (s.line l).state = .waking then endDelimiter l s else s) s)

/-- WAKE_REQUEST (R167): a low of 150 µs to 5 ms on an ASLEEP line. -/
def execWakeRequest (l : LineId) (lowMicros : Nat) (s : State) : Host.Outcome State Fault Refusal :=
  .next (event (fun s =>
    if (s.line l).state = .asleep ∧ 150 ≤ lowMicros ∧ lowMicros ≤ 5000 then wakeLine l s else s) s)

/-- LINE_RETRY_END (R171). -/
def execLineRetryEnd (l : LineId) (result : RetryResult) (s : State) : Host.Outcome State Fault Refusal :=
  .next (event (fun s => if (s.line l).activity = .retry then endRetry l result s else s) s)

/-- LINE_SLEEP (R169): a RUNNING line whose idle count has reached the idle time goes to sleep. -/
def execLineSleep (l : LineId) (s : State) : Host.Outcome State Fault Refusal :=
  .next (event (sleepCheck l) s)

/-- SLEEP (R169): the broadcast SLEEP on the line ends clean. -/
def execSleep (l : LineId) (s : State) : Host.Outcome State Fault Refusal :=
  .next (event (fun s => if s.exchangeOn l = some .sleep then endSleep l s else s) s)

/-- UNASSIGN (R172): the broadcast UNASSIGN on the line ends clean. -/
def execUnassign (l : LineId) (s : State) : Host.Outcome State Fault Refusal :=
  .next (event (fun s => if s.exchangeOn l = some .unassign then endUnassign l s else s) s)

/-- ASSIGN_ANSWER (R173): the ASSIGN on the line ends. -/
def execAssignAnswer (l : LineId) (a : LineAnswer) (s : State) : Host.Outcome State Fault Refusal :=
  .next (event (fun s =>
    match s.exchangeOn l with
    | some (.assign k) => endAssign l k a s
    | _ => s) s)

/-- CONFIRMING_POLL (R173): the confirming poll on the line ends. -/
def execConfirmingPoll (l : LineId) (a : LineAnswer) (s : State) : Host.Outcome State Fault Refusal :=
  .next (event (fun s =>
    match s.exchangeOn l with
    | some (.confirmPoll k) => endConfirmPoll l k a s
    | _ => s) s)

/-- SCREEN_POLL (R174): the enumeration poll of a screen address ends. -/
def execScreenPoll (l : LineId) (a : LineAnswer) (s : State) : Host.Outcome State Fault Refusal :=
  .next (event (fun s =>
    match s.exchangeOn l with
    | some (.screenPoll addr) => endScreenPoll l addr a s
    | _ => s) s)

end Sys2Proof.Machine
end

