-- ==== Sys2Proof/Machine/CmdRequests.lean ====
section
/-! DEFINITION. The meaning of each request row: the request arrives as a checked frame and is taken under R202,
its own effects being those of the `req` definition of its name. -/

namespace Sys2Proof.Machine

/-- GRANT (R27). -/
def execGrant (tag : Byte) (p : List Byte) (s : State) : Host.Outcome State Fault Refusal :=
  .next (hostRequest ⟨0x01, tag, p⟩ (reqGrant tag p) s)

/-- CLOSE (R28). -/
def execClose (tag : Byte) (p : List Byte) (s : State) : Host.Outcome State Fault Refusal :=
  .next (hostRequest ⟨0x02, tag, p⟩ (reqClose tag p) s)

/-- WITHDRAW (R29). -/
def execWithdraw (tag : Byte) (p : List Byte) (s : State) : Host.Outcome State Fault Refusal :=
  .next (hostRequest ⟨0x03, tag, p⟩ (reqWithdraw tag p) s)

/-- CLEAR_FLOOR (R30). -/
def execClearFloor (tag : Byte) (p : List Byte) (s : State) : Host.Outcome State Fault Refusal :=
  .next (hostRequest ⟨0x04, tag, p⟩ (reqClearFloor tag p) s)

/-- SET_FLOOR (R31). -/
def execSetFloor (tag : Byte) (p : List Byte) (s : State) : Host.Outcome State Fault Refusal :=
  .next (hostRequest ⟨0x05, tag, p⟩ (reqSetFloor tag p) s)

/-- FLOOR_STATUS (R33). -/
def execFloorStatus (tag : Byte) (p : List Byte) (s : State) : Host.Outcome State Fault Refusal :=
  .next (hostRequest ⟨0x06, tag, p⟩ (reqFloorStatus tag p) s)

/-- READ_LOG (R51). -/
def execReadLog (tag : Byte) (p : List Byte) (s : State) : Host.Outcome State Fault Refusal :=
  .next (hostRequest ⟨0x08, tag, p⟩ (reqReadLog tag p) s)

/-- SET_LEVELS (R54). -/
def execSetLevels (tag : Byte) (p : List Byte) (s : State) : Host.Outcome State Fault Refusal :=
  .next (hostRequest ⟨0x10, tag, p⟩ (reqSetLevels tag p) s)

/-- SET_TRIM (R55). -/
def execSetTrim (tag : Byte) (p : List Byte) (s : State) : Host.Outcome State Fault Refusal :=
  .next (hostRequest ⟨0x11, tag, p⟩ (reqSetTrim tag p) s)

/-- GET_LEVELS (R56). -/
def execGetLevels (tag : Byte) (p : List Byte) (s : State) : Host.Outcome State Fault Refusal :=
  .next (hostRequest ⟨0x12, tag, p⟩ (reqGetLevels tag p) s)

/-- SET_ROLE (R72). -/
def execSetRole (tag : Byte) (p : List Byte) (s : State) : Host.Outcome State Fault Refusal :=
  .next (hostRequest ⟨0x18, tag, p⟩ (reqSetRole tag p) s)

/-- GET_ROLE (R72). -/
def execGetRole (tag : Byte) (p : List Byte) (s : State) : Host.Outcome State Fault Refusal :=
  .next (hostRequest ⟨0x19, tag, p⟩ (reqGetRole tag p) s)

/-- SET_SEAT_ROLE (R73). -/
def execSetSeatRole (tag : Byte) (p : List Byte) (s : State) : Host.Outcome State Fault Refusal :=
  .next (hostRequest ⟨0x1A, tag, p⟩ (reqSetSeatRole tag p) s)

/-- SET_FILTER (R74). -/
def execSetFilter (tag : Byte) (p : List Byte) (s : State) : Host.Outcome State Fault Refusal :=
  .next (hostRequest ⟨0x1B, tag, p⟩ (reqSetFilter tag p) s)

/-- GET_FILTER (R74). -/
def execGetFilter (tag : Byte) (p : List Byte) (s : State) : Host.Outcome State Fault Refusal :=
  .next (hostRequest ⟨0x1C, tag, p⟩ (reqGetFilter tag p) s)

/-- ENABLE_FILTER (R75). -/
def execEnableFilter (tag : Byte) (p : List Byte) (s : State) : Host.Outcome State Fault Refusal :=
  .next (hostRequest ⟨0x1D, tag, p⟩ (reqEnableFilter tag p) s)

/-- DISABLE_FILTER (R75). -/
def execDisableFilter (tag : Byte) (p : List Byte) (s : State) : Host.Outcome State Fault Refusal :=
  .next (hostRequest ⟨0x1E, tag, p⟩ (reqDisableFilter tag p) s)

/-- SET_ROOM (R90). -/
def execSetRoom (tag : Byte) (p : List Byte) (s : State) : Host.Outcome State Fault Refusal :=
  .next (hostRequest ⟨0x20, tag, p⟩ (reqSetRoom tag p) s)

/-- SET_TIME (R89). -/
def execSetTime (tag : Byte) (p : List Byte) (s : State) : Host.Outcome State Fault Refusal :=
  .next (hostRequest ⟨0x21, tag, p⟩ (reqSetTime tag p) s)

/-- GET_TIME (R89). -/
def execGetTime (tag : Byte) (p : List Byte) (s : State) : Host.Outcome State Fault Refusal :=
  .next (hostRequest ⟨0x22, tag, p⟩ (reqGetTime tag p) s)

/-- LIST (R101). -/
def execListBookings (tag : Byte) (p : List Byte) (s : State) : Host.Outcome State Fault Refusal :=
  .next (hostRequest ⟨0x23, tag, p⟩ (reqList tag p) s)

/-- OPEN_NOW (R111). -/
def execOpenNow (tag : Byte) (p : List Byte) (s : State) : Host.Outcome State Fault Refusal :=
  .next (hostRequest ⟨0x24, tag, p⟩ (reqOpenNow tag p) s)

/-- BOOK (R94). -/
def execBook (tag : Byte) (p : List Byte) (s : State) : Host.Outcome State Fault Refusal :=
  .next (hostRequest ⟨0x28, tag, p⟩ (reqBook tag p) s)

/-- WALK_IN (R97). -/
def execWalkIn (tag : Byte) (p : List Byte) (s : State) : Host.Outcome State Fault Refusal :=
  .next (hostRequest ⟨0x29, tag, p⟩ (reqWalkIn tag p) s)

/-- AMEND (R98). -/
def execAmend (tag : Byte) (p : List Byte) (s : State) : Host.Outcome State Fault Refusal :=
  .next (hostRequest ⟨0x2A, tag, p⟩ (reqAmend tag p) s)

/-- CANCEL (R99). -/
def execCancel (tag : Byte) (p : List Byte) (s : State) : Host.Outcome State Fault Refusal :=
  .next (hostRequest ⟨0x2B, tag, p⟩ (reqCancel tag p) s)

/-- EXTEND (R112). -/
def execExtend (tag : Byte) (p : List Byte) (s : State) : Host.Outcome State Fault Refusal :=
  .next (hostRequest ⟨0x2C, tag, p⟩ (reqExtend tag p) s)

/-- END_NOW (R113). -/
def execEndNow (tag : Byte) (p : List Byte) (s : State) : Host.Outcome State Fault Refusal :=
  .next (hostRequest ⟨0x2D, tag, p⟩ (reqEndNow tag p) s)

/-- GET_BOOKING (R100). -/
def execGetBooking (tag : Byte) (p : List Byte) (s : State) : Host.Outcome State Fault Refusal :=
  .next (hostRequest ⟨0x2E, tag, p⟩ (reqGetBooking tag p) s)

/-- STORE_STATUS (R135). -/
def execStoreStatus (tag : Byte) (p : List Byte) (s : State) : Host.Outcome State Fault Refusal :=
  .next (hostRequest ⟨0x30, tag, p⟩ (reqStoreStatus tag p) s)

/-- STORE_CLEAR (R128). -/
def execStoreClear (tag : Byte) (p : List Byte) (s : State) : Host.Outcome State Fault Refusal :=
  .next (hostRequest ⟨0x31, tag, p⟩ (reqStoreClear tag p) s)

/-- COMPACT (R133). -/
def execCompact (tag : Byte) (p : List Byte) (s : State) : Host.Outcome State Fault Refusal :=
  .next (hostRequest ⟨0x32, tag, p⟩ (reqCompact tag p) s)

/-- SET_LABEL (R146). -/
def execSetLabel (tag : Byte) (p : List Byte) (s : State) : Host.Outcome State Fault Refusal :=
  .next (hostRequest ⟨0x38, tag, p⟩ (reqSetLabel tag p) s)

/-- GET_DISPLAY (R154). -/
def execGetDisplay (tag : Byte) (p : List Byte) (s : State) : Host.Outcome State Fault Refusal :=
  .next (hostRequest ⟨0x39, tag, p⟩ (reqGetDisplay tag p) s)

/-- SET_LINES (R156). -/
def execSetLines (tag : Byte) (p : List Byte) (s : State) : Host.Outcome State Fault Refusal :=
  .next (hostRequest ⟨0x40, tag, p⟩ (reqSetLines tag p) s)

/-- RESCAN (R176). -/
def execRescan (tag : Byte) (p : List Byte) (s : State) : Host.Outcome State Fault Refusal :=
  .next (hostRequest ⟨0x41, tag, p⟩ (reqRescan tag p) s)

/-- LINE_STATUS (R178). -/
def execLineStatus (tag : Byte) (p : List Byte) (s : State) : Host.Outcome State Fault Refusal :=
  .next (hostRequest ⟨0x42, tag, p⟩ (reqLineStatus tag p) s)

/-- GET_SEAT (R180). -/
def execGetSeat (tag : Byte) (p : List Byte) (s : State) : Host.Outcome State Fault Refusal :=
  .next (hostRequest ⟨0x43, tag, p⟩ (reqGetSeat tag p) s)

/-- START (R212). -/
def execStart (tag : Byte) (p : List Byte) (s : State) : Host.Outcome State Fault Refusal :=
  .next (hostRequest ⟨0x48, tag, p⟩ (reqStart tag p) s)

/-- RESTART (R213). -/
def execRestart (tag : Byte) (p : List Byte) (s : State) : Host.Outcome State Fault Refusal :=
  .next (hostRequest ⟨0x49, tag, p⟩ (reqRestart tag p) s)

/-- SET_NOTICES (R210). -/
def execSetNotices (tag : Byte) (p : List Byte) (s : State) : Host.Outcome State Fault Refusal :=
  .next (hostRequest ⟨0x4A, tag, p⟩ (reqSetNotices tag p) s)

/-- IDENTIFY (R215). -/
def execIdentify (tag : Byte) (p : List Byte) (s : State) : Host.Outcome State Fault Refusal :=
  .next (hostRequest ⟨0x4B, tag, p⟩ (reqIdentify tag p) s)

/-- PING (R216). -/
def execPing (tag : Byte) (p : List Byte) (s : State) : Host.Outcome State Fault Refusal :=
  .next (hostRequest ⟨0x4C, tag, p⟩ (reqPing tag p) s)

/-- UNKNOWN_KIND (R203): a request whose kind byte is no request of the part. -/
def execUnknownKind (kind tag : Byte) (p : List Byte) (s : State) : Host.Outcome State Fault Refusal :=
  .next (hostRequest ⟨kind, tag, p⟩ (runRequest ⟨kind, tag, p⟩) s)

end Sys2Proof.Machine
end

