-- ==== Sys2Proof/Machine/Dispatch.lean ====
section
/-! DEFINITION. One arm for each command and event: a direct call of its meaning. -/

namespace Sys2Proof.Machine

/-- The effect of a command or event on everything but the queue of waiting commands. -/
def exec (i : Instr) (s : State) : Host.Outcome State Fault Refusal :=
  match i with
  | .powerOn rate1 rate0 => Sys2Proof.Machine.execPowerOn rate1 rate0 s
  | .completeFrame bytes => Sys2Proof.Machine.execCompleteFrame bytes s
  | .rejectTruncated => Sys2Proof.Machine.execRejectTruncated s
  | .rejectBadLength second => Sys2Proof.Machine.execRejectBadLength second s
  | .frameSent => Sys2Proof.Machine.execFrameSent s
  | .restartReset => Sys2Proof.Machine.execRestartReset s
  | .unknownKind kind tag payload => Sys2Proof.Machine.execUnknownKind kind tag payload s
  | .grant tag payload => Sys2Proof.Machine.execGrant tag payload s
  | .close tag payload => Sys2Proof.Machine.execClose tag payload s
  | .withdraw tag payload => Sys2Proof.Machine.execWithdraw tag payload s
  | .clearFloor tag payload => Sys2Proof.Machine.execClearFloor tag payload s
  | .setFloor tag payload => Sys2Proof.Machine.execSetFloor tag payload s
  | .floorStatus tag payload => Sys2Proof.Machine.execFloorStatus tag payload s
  | .readLog tag payload => Sys2Proof.Machine.execReadLog tag payload s
  | .setLevels tag payload => Sys2Proof.Machine.execSetLevels tag payload s
  | .setTrim tag payload => Sys2Proof.Machine.execSetTrim tag payload s
  | .getLevels tag payload => Sys2Proof.Machine.execGetLevels tag payload s
  | .setRole tag payload => Sys2Proof.Machine.execSetRole tag payload s
  | .getRole tag payload => Sys2Proof.Machine.execGetRole tag payload s
  | .setSeatRole tag payload => Sys2Proof.Machine.execSetSeatRole tag payload s
  | .setFilter tag payload => Sys2Proof.Machine.execSetFilter tag payload s
  | .getFilter tag payload => Sys2Proof.Machine.execGetFilter tag payload s
  | .enableFilter tag payload => Sys2Proof.Machine.execEnableFilter tag payload s
  | .disableFilter tag payload => Sys2Proof.Machine.execDisableFilter tag payload s
  | .setRoom tag payload => Sys2Proof.Machine.execSetRoom tag payload s
  | .setTime tag payload => Sys2Proof.Machine.execSetTime tag payload s
  | .getTime tag payload => Sys2Proof.Machine.execGetTime tag payload s
  | .listBookings tag payload => Sys2Proof.Machine.execListBookings tag payload s
  | .openNow tag payload => Sys2Proof.Machine.execOpenNow tag payload s
  | .book tag payload => Sys2Proof.Machine.execBook tag payload s
  | .walkIn tag payload => Sys2Proof.Machine.execWalkIn tag payload s
  | .amend tag payload => Sys2Proof.Machine.execAmend tag payload s
  | .cancel tag payload => Sys2Proof.Machine.execCancel tag payload s
  | .extend tag payload => Sys2Proof.Machine.execExtend tag payload s
  | .endNow tag payload => Sys2Proof.Machine.execEndNow tag payload s
  | .getBooking tag payload => Sys2Proof.Machine.execGetBooking tag payload s
  | .storeStatus tag payload => Sys2Proof.Machine.execStoreStatus tag payload s
  | .storeClear tag payload => Sys2Proof.Machine.execStoreClear tag payload s
  | .compact tag payload => Sys2Proof.Machine.execCompact tag payload s
  | .setLabel tag payload => Sys2Proof.Machine.execSetLabel tag payload s
  | .getDisplay tag payload => Sys2Proof.Machine.execGetDisplay tag payload s
  | .setLines tag payload => Sys2Proof.Machine.execSetLines tag payload s
  | .rescan tag payload => Sys2Proof.Machine.execRescan tag payload s
  | .lineStatus tag payload => Sys2Proof.Machine.execLineStatus tag payload s
  | .getSeat tag payload => Sys2Proof.Machine.execGetSeat tag payload s
  | .start tag payload => Sys2Proof.Machine.execStart tag payload s
  | .restart tag payload => Sys2Proof.Machine.execRestart tag payload s
  | .setNotices tag payload => Sys2Proof.Machine.execSetNotices tag payload s
  | .identify tag payload => Sys2Proof.Machine.execIdentify tag payload s
  | .ping tag payload => Sys2Proof.Machine.execPing tag payload s
  | .secondEvent => Sys2Proof.Machine.execSecondEvent s
  | .speechWarning seat => Sys2Proof.Machine.execSpeechWarning seat s
  | .speechLimit seat => Sys2Proof.Machine.execSpeechLimit seat s
  | .allowanceReached seat => Sys2Proof.Machine.execAllowanceReached seat s
  | .minuteEvent => Sys2Proof.Machine.execMinuteEvent s
  | .lineSleep line => Sys2Proof.Machine.execLineSleep line s
  | .storeProgramComplete wear => Sys2Proof.Machine.execStoreProgramComplete wear s
  | .storeReadComplete wear => Sys2Proof.Machine.execStoreReadComplete wear s
  | .rosterLoadComplete wear => Sys2Proof.Machine.execRosterLoadComplete wear s
  | .eraseComplete outcome => Sys2Proof.Machine.execEraseComplete outcome s
  | .scanComplete wear eraseFailures => Sys2Proof.Machine.execScanComplete wear eraseFailures s
  | .pollAnswer line answer => Sys2Proof.Machine.execPollAnswer line answer s
  | .fetchAnswer line answer => Sys2Proof.Machine.execFetchAnswer line answer s
  | .orderAcknowledged line answer => Sys2Proof.Machine.execOrderAcknowledged line answer s
  | .exchangeFailure line answer => Sys2Proof.Machine.execExchangeFailure line answer s
  | .bitError line => Sys2Proof.Machine.execBitError line s
  | .resyncGapEnd line => Sys2Proof.Machine.execResyncGapEnd line s
  | .lineFault line cause => Sys2Proof.Machine.execLineFault line cause s
  | .wakeDelimiterEnd line => Sys2Proof.Machine.execWakeDelimiterEnd line s
  | .wakeRequest line lowMicros => Sys2Proof.Machine.execWakeRequest line lowMicros s
  | .lineRetryEnd line result => Sys2Proof.Machine.execLineRetryEnd line result s
  | .assignAnswer line answer => Sys2Proof.Machine.execAssignAnswer line answer s
  | .confirmingPoll line answer => Sys2Proof.Machine.execConfirmingPoll line answer s
  | .screenPoll line answer => Sys2Proof.Machine.execScreenPoll line answer s
  | .unassign line => Sys2Proof.Machine.execUnassign line s
  | .sleep line => Sys2Proof.Machine.execSleep line s
  | .hostByteReceived byte stopBit => Sys2Proof.Machine.execHostByteReceived byte stopBit s
  | .lineGoesHigh line => Sys2Proof.Machine.execLineGoesHigh line s
  | .powerLoss unitsDone torn => Sys2Proof.Machine.execPowerLoss unitsDone torn s

end Sys2Proof.Machine
end

