-- ==== Sys2Proof/WellFormed.lean ====
section
/-! DEFINITION. What a command's operands must satisfy for it to arise: one named check for each kind of
operand. -/

namespace Sys2Proof

/-- A payload has at most 1536 bytes (R199). -/
def wfPayload (p : List Byte) : Bool := decide (p.length ≤ 1536)

/-- The kind bytes of the requests of the part (R218). -/
def requestKinds : List Nat :=
  [0x01, 0x02, 0x03, 0x04, 0x05, 0x06, 0x08, 0x10, 0x11, 0x12, 0x18, 0x19, 0x1A, 0x1B, 0x1C, 0x1D, 0x1E,
    0x20, 0x21, 0x22, 0x23, 0x24]
  ++ [0x28, 0x29, 0x2A, 0x2B, 0x2C, 0x2D, 0x2E, 0x30, 0x31, 0x32, 0x38, 0x39, 0x40, 0x41, 0x42, 0x43,
    0x48, 0x49, 0x4A, 0x4B, 0x4C]

/-- A kind byte is no request of the part (R203). -/
def wfUnknownKind (kind : Byte) : Bool := decide (kind.toNat ∉ requestKinds)

/-- The bytes of a frame after its sync byte: the length, 2 to 1538, then as many bytes as it gives, then the check
(R199). -/
def wfFrame (bytes : List Byte) : Bool :=
  let n := (bytes.getD 0 0).toNat + 256 * (bytes.getD 1 0).toNat
  decide (2 ≤ n ∧ n ≤ 1538 ∧ bytes.length = n + 4)

/-- A second length byte can complete a length outside 2 to 1538 (R200). -/
def wfSecondLength (second : Byte) : Bool := decide (second = 0 ∨ 6 ≤ second)

/-- A worn unit is one of the 256 units of its sector (R116). -/
def wfWear (wear : List WornUnit) : Bool := wear.all fun w => decide (w.unit < 256)

/-- The sectors that a scan fails to erase are listed once each (R136). -/
def wfFailures (l : List (Fin 16)) : Bool := decide l.Nodup

/-- Times that rise strictly. -/
def risingTimes : List Nat → Bool
  | a :: b :: rest => decide (a < b) && risingTimes (b :: rest)
  | _ => true

/-- An answer has characters only if one began, and its characters end one after another (R161). -/
def wfAnswer (a : LineAnswer) : Bool :=
  (a.startAt.isSome || a.chars.isEmpty) && risingTimes (a.chars.map (·.endsAt))

/-- The answer of a retry's probe (R171). -/
def wfRetry : RetryResult → Bool
  | .probed a => wfAnswer a
  | _ => true

/-- A program has at most 80 units: those of a record, or the one of a header (R118, R121). -/
def wfUnitsDone (n : Nat) : Bool := decide (n ≤ 80)

/-- A well-formed command. -/
def Instr.wellFormed : Instr → Bool
  | .powerOn _ _ => true
  | .completeFrame bytes => wfFrame bytes
  | .rejectTruncated => true
  | .rejectBadLength second => wfSecondLength second
  | .frameSent => true
  | .restartReset => true
  | .unknownKind kind _ p => wfUnknownKind kind && wfPayload p
  | .grant _ p => wfPayload p
  | .close _ p => wfPayload p
  | .withdraw _ p => wfPayload p
  | .clearFloor _ p => wfPayload p
  | .setFloor _ p => wfPayload p
  | .floorStatus _ p => wfPayload p
  | .readLog _ p => wfPayload p
  | .setLevels _ p => wfPayload p
  | .setTrim _ p => wfPayload p
  | .getLevels _ p => wfPayload p
  | .setRole _ p => wfPayload p
  | .getRole _ p => wfPayload p
  | .setSeatRole _ p => wfPayload p
  | .setFilter _ p => wfPayload p
  | .getFilter _ p => wfPayload p
  | .enableFilter _ p => wfPayload p
  | .disableFilter _ p => wfPayload p
  | .setRoom _ p => wfPayload p
  | .setTime _ p => wfPayload p
  | .getTime _ p => wfPayload p
  | .listBookings _ p => wfPayload p
  | .openNow _ p => wfPayload p
  | .book _ p => wfPayload p
  | .walkIn _ p => wfPayload p
  | .amend _ p => wfPayload p
  | .cancel _ p => wfPayload p
  | .extend _ p => wfPayload p
  | .endNow _ p => wfPayload p
  | .getBooking _ p => wfPayload p
  | .storeStatus _ p => wfPayload p
  | .storeClear _ p => wfPayload p
  | .compact _ p => wfPayload p
  | .setLabel _ p => wfPayload p
  | .getDisplay _ p => wfPayload p
  | .setLines _ p => wfPayload p
  | .rescan _ p => wfPayload p
  | .lineStatus _ p => wfPayload p
  | .getSeat _ p => wfPayload p
  | .start _ p => wfPayload p
  | .restart _ p => wfPayload p
  | .setNotices _ p => wfPayload p
  | .identify _ p => wfPayload p
  | .ping _ p => wfPayload p
  | .secondEvent => true
  | .speechWarning _ => true
  | .speechLimit _ => true
  | .allowanceReached _ => true
  | .minuteEvent => true
  | .lineSleep _ => true
  | .storeProgramComplete wear => wfWear wear
  | .storeReadComplete wear => wfWear wear
  | .rosterLoadComplete wear => wfWear wear
  | .eraseComplete _ => true
  | .scanComplete wear failures => wfWear wear && wfFailures failures
  | .pollAnswer _ a => wfAnswer a
  | .fetchAnswer _ a => wfAnswer a
  | .orderAcknowledged _ a => wfAnswer a
  | .exchangeFailure _ a => wfAnswer a
  | .bitError _ => true
  | .resyncGapEnd _ => true
  | .lineFault _ _ => true
  | .wakeDelimiterEnd _ => true
  | .wakeRequest _ _ => true
  | .lineRetryEnd _ r => wfRetry r
  | .assignAnswer _ a => wfAnswer a
  | .confirmingPoll _ a => wfAnswer a
  | .screenPoll _ a => wfAnswer a
  | .unassign _ => true
  | .sleep _ => true
  | .hostByteReceived _ _ => true
  | .lineGoesHigh _ => true
  | .powerLoss n _ => wfUnitsDone n

end Sys2Proof
end

