-- ==== Sys2Proof/Safety.lean ====
section
/-! DEFINITION. The terms in which the statements speak: the blocks of State and what a command leaves of them, a
part at rest, a frame handed to the transmitter, the frame that carries a request, and the invariants of the
floor, of the log and of the host link. -/

namespace Sys2Proof.Machine

/-! ## Blocks -/

/-- The blocks of State (00_scope 2.1). The host link is divided by what its fields serve: the receiver, the
input queue, the transmitter, the notice enables, the notice marks with their records, and CONFIG or RUN. -/
inductive Block where
  | power | clock | floor | log | masters | roles | seats | screens | sequencer | store | lineA | lineB
  | receiver | inputQueue | transmitter | enables | marks | runState | pending
deriving DecidableEq, Repr

/-- A block holds the same in two states. -/
def Block.Same (b : Block) (s t : State) : Prop :=
  match b with
  | .power => t.powered = s.powered ∧ t.rate = s.rate
  | .clock => t.clock = s.clock
  | .floor => t.floor = s.floor
  | .log => t.log = s.log
  | .masters => t.masters = s.masters
  | .roles => t.roles = s.roles
  | .seats => t.seats = s.seats
  | .screens => t.screens = s.screens
  | .sequencer => t.seq = s.seq
  | .store => t.store = s.store
  | .lineA => t.lineA = s.lineA
  | .lineB => t.lineB = s.lineB
  | .receiver => t.link.receiver = s.link.receiver
  | .inputQueue => t.link.queue = s.link.queue ∧ t.link.awaitingReset = s.link.awaitingReset
  | .transmitter => t.link.outstanding = s.link.outstanding ∧ t.link.waiting = s.link.waiting
      ∧ t.link.onLine = s.link.onLine ∧ t.link.lostRejects = s.link.lostRejects
  | .enables => t.link.enables = s.link.enables
  | .marks => t.link.marks = s.link.marks ∧ t.link.closeCount = s.link.closeCount
      ∧ t.link.lastClose = s.link.lastClose ∧ t.link.faultNote = s.link.faultNote
      ∧ t.link.faultCount = s.link.faultCount
  | .runState => t.link.run = s.link.run ∧ t.link.startTag = s.link.startTag
  | .pending => t.pending = s.pending

/-- Every block but those listed holds the same in two states: the frame of a command. -/
def KeptBut (changed : List Block) (s t : State) : Prop := ∀ b : Block, b ∉ changed → b.Same s t

/-- The block of a line. -/
def Block.ofLine : LineId → Block
  | .a => .lineA
  | .b => .lineB

/-! ## A part at rest -/

/-- The store engine has nothing to take up (R120, R123, R127). -/
abbrev Store.AtRest (t : Store) : Prop :=
  (t.engine = .suspended → t.reads ≠ [])
    ∧ (t.latch = true → t.programs = [])
    ∧ (t.engine = .idle → t.reads = [] → t.programs = [] ∧ t.pass = none)

/-- The transmitter has nothing to begin: a frame is on the line, or no frame waits and no notice is due
(R206). -/
abbrev State.TransmitterSettled (s : State) : Prop :=
  s.link.onLine = none → s.link.waiting = [] ∧ (dueNotice s).isNone = true

/-- A powered part that has finished what its last command started: its input queue is empty and its store engine
and its transmitter have nothing to take up. -/
abbrev State.Calm (s : State) : Prop :=
  s.powered = true ∧ s.link.queue = [] ∧ s.store.AtRest ∧ s.TransmitterSettled

/-- A calm part that can take a request at once (R202). -/
abbrev State.Ready (s : State) : Prop := s.Calm ∧ s.canTake = true

/-! ## Frames to the host -/

/-- A frame is handed to the transmitter: it goes on the line where that is idle, and waits behind the others where
it is not (R206). -/
def State.send (f : OutFrame) (s : State) : State :=
  match s.link.onLine with
  | none => s.modLink fun k => { k with onLine := some f }
  | some _ => s.modLink fun k => { k with waiting := k.waiting ++ [f] }

/-- A request has been taken: it is outstanding (R202). -/
def State.taken (s : State) : State := s.modLink fun k => { k with outstanding := k.outstanding + 1 }

/-- A request has been taken and answered, and nothing else has changed. -/
def State.answer (kind tag : Byte) (r : Result) (body : List Byte) (s : State) : State :=
  s.taken.send ⟨.reply, replyFrame kind tag r body⟩

/-- Between `s` and `t` the transmitter has got one frame to send, a reply to a request taken between them, and the
requests outstanding are one more (R202, R206, R219). -/
def Answered (kind tag : Byte) (r : Result) (body : List Byte) (s t : State) : Prop :=
  t.link.outstanding = s.link.outstanding + 1 ∧ t.link.lostRejects = s.link.lostRejects
    ∧ match s.link.onLine with
      | none => t.link.onLine = some ⟨.reply, replyFrame kind tag r body⟩ ∧ t.link.waiting = []
      | some f => t.link.onLine = some f
          ∧ t.link.waiting = s.link.waiting ++ [⟨.reply, replyFrame kind tag r body⟩]

/-- Between `s` and `t` a request has been taken whose reply is formed later (R203): the transmitter has got no reply,
and an idle line has taken a notice at most. -/
def Deferred (s t : State) : Prop :=
  t.link.outstanding = s.link.outstanding + 1 ∧ t.link.waiting = s.link.waiting
    ∧ t.link.lostRejects = s.link.lostRejects
    ∧ (∀ f, s.link.onLine = some f → t.link.onLine = some f)
    ∧ (s.link.onLine = none → ∀ f, t.link.onLine = some f → f.cls = .notice)

/-- The REJECTs that wait (R206). -/
def State.rejectsWaiting (s : State) : Nat :=
  (s.link.waiting.filter fun f => decide (f.cls = .reject)).length

/-- A REJECT is handed to the transmitter, or counted as lost where 4 of them wait (R206). -/
def State.sendReject (tag : Byte) (r : RejectReason) (s : State) : State :=
  if s.rejectsWaiting < 4 then s.send ⟨.reject, ⟨0x7F, tag, [BitVec.ofNat 8 (rejectNumber r)]⟩⟩
  else s.modLink fun k => { k with lostRejects := min 255 (k.lostRejects + 1) }

/-- The bytes that report an open or a closed floor: its state, the entries of both lists as R222 lays them out, the
holders and the muting mark (R33, R208, R222). -/
def floorFields (f : Floor) : List Byte :=
  putYesNo f.isOpen ++ put1 f.speakers.length
    ++ (f.speakers.flatMap fun e => put1 e.seat.val ++ put4 e.openStamp ++ put2 e.elapsed
        ++ put1 ((if e.muted then 1 else 0) + (if e.wasMuted then 2 else 0) + (if e.chairClass then 4 else 0)
          + (if e.warned then 8 else 0) + (if e.overran then 16 else 0)))
    ++ put1 f.requests.length
    ++ (f.requests.zipIdx.flatMap fun r => put1 r.1.seat.val ++ put1 r.1.band ++ put2 r.1.arrival
        ++ put1 (r.2 + 1))
    ++ holderBytes f.holders ++ putYesNo f.muting

/-- The bytes that report a seat: presence, kind, card state, card role, roster index and
effective role (R180, R222). -/
def State.seatFields (s : State) (i : SeatId) : List Byte :=
  put1 i.val ++ put1 (presenceNumber (s.seat i).presence) ++ putOptional ((s.seat i).kind.map kindNumber)
    ++ put1 (cardNumber (s.seat i).card.state) ++ putOptional ((s.seat i).card.role.map (·.val))
    ++ putOptional (s.seat i).card.attendee ++ put1 (s.effRole i).number.val
    ++ putYesNo (s.effRole i).restricted

/-- The bytes that report a screen: presence and kind, the fields of a card absent (R180, R217, R222). -/
def State.screenFields (s : State) (j : ScreenId) : List Byte :=
  put1 (64 + j.val) ++ put1 (presenceNumber (s.screen j).presence)
    ++ putOptional ((s.screen j).kind.map kindNumber) ++ [0xFF, 0xFF, 0xFF, 0xFF, 0xFF]

/-- The bytes of a FAULT notice's kind and subject (R209). -/
def faultFields : Option FaultNote → List Byte
  | some (.lineFault l c) => [Config.unnumbered .faultKind 0, match l with | .a => 0 | .b => 1] ++ causeByte (some c)
  | some (.storeRetire n) => [Config.unnumbered .faultKind 1] ++ put1 n
  | some (.storeHalted c) =>
    [Config.unnumbered .faultKind 2,
      Config.unnumbered .haltCause (match c with | .verify => 0 | .tooFewSectors => 1 | .counter => 2)]
  | some (.damagedBooking n) => [Config.unnumbered .faultKind 3] ++ put2 n
  | none => [0xFF]

/-- The frame that carries a request command (R199, R218). -/
def requestFrame : Instr → Option Frame
  | .unknownKind kind tag p => some ⟨kind, tag, p⟩
  | .grant tag p => some ⟨0x01, tag, p⟩
  | .close tag p => some ⟨0x02, tag, p⟩
  | .withdraw tag p => some ⟨0x03, tag, p⟩
  | .clearFloor tag p => some ⟨0x04, tag, p⟩
  | .setFloor tag p => some ⟨0x05, tag, p⟩
  | .floorStatus tag p => some ⟨0x06, tag, p⟩
  | .readLog tag p => some ⟨0x08, tag, p⟩
  | .setLevels tag p => some ⟨0x10, tag, p⟩
  | .setTrim tag p => some ⟨0x11, tag, p⟩
  | .getLevels tag p => some ⟨0x12, tag, p⟩
  | .setRole tag p => some ⟨0x18, tag, p⟩
  | .getRole tag p => some ⟨0x19, tag, p⟩
  | .setSeatRole tag p => some ⟨0x1A, tag, p⟩
  | .setFilter tag p => some ⟨0x1B, tag, p⟩
  | .getFilter tag p => some ⟨0x1C, tag, p⟩
  | .enableFilter tag p => some ⟨0x1D, tag, p⟩
  | .disableFilter tag p => some ⟨0x1E, tag, p⟩
  | .setRoom tag p => some ⟨0x20, tag, p⟩
  | .setTime tag p => some ⟨0x21, tag, p⟩
  | .getTime tag p => some ⟨0x22, tag, p⟩
  | .listBookings tag p => some ⟨0x23, tag, p⟩
  | .openNow tag p => some ⟨0x24, tag, p⟩
  | .book tag p => some ⟨0x28, tag, p⟩
  | .walkIn tag p => some ⟨0x29, tag, p⟩
  | .amend tag p => some ⟨0x2A, tag, p⟩
  | .cancel tag p => some ⟨0x2B, tag, p⟩
  | .extend tag p => some ⟨0x2C, tag, p⟩
  | .endNow tag p => some ⟨0x2D, tag, p⟩
  | .getBooking tag p => some ⟨0x2E, tag, p⟩
  | .storeStatus tag p => some ⟨0x30, tag, p⟩
  | .storeClear tag p => some ⟨0x31, tag, p⟩
  | .compact tag p => some ⟨0x32, tag, p⟩
  | .setLabel tag p => some ⟨0x38, tag, p⟩
  | .getDisplay tag p => some ⟨0x39, tag, p⟩
  | .setLines tag p => some ⟨0x40, tag, p⟩
  | .rescan tag p => some ⟨0x41, tag, p⟩
  | .lineStatus tag p => some ⟨0x42, tag, p⟩
  | .getSeat tag p => some ⟨0x43, tag, p⟩
  | .start tag p => some ⟨0x48, tag, p⟩
  | .restart tag p => some ⟨0x49, tag, p⟩
  | .setNotices tag p => some ⟨0x4A, tag, p⟩
  | .identify tag p => some ⟨0x4B, tag, p⟩
  | .ping tag p => some ⟨0x4C, tag, p⟩
  | .powerOn _ _ => none
  | .completeFrame _ => none
  | .rejectTruncated => none
  | .rejectBadLength _ => none
  | .frameSent => none
  | .restartReset => none
  | .secondEvent => none
  | .speechWarning _ => none
  | .speechLimit _ => none
  | .allowanceReached _ => none
  | .minuteEvent => none
  | .lineSleep _ => none
  | .storeProgramComplete _ => none
  | .storeReadComplete _ => none
  | .rosterLoadComplete _ => none
  | .eraseComplete _ => none
  | .scanComplete _ _ => none
  | .pollAnswer _ _ => none
  | .fetchAnswer _ _ => none
  | .orderAcknowledged _ _ => none
  | .exchangeFailure _ _ => none
  | .bitError _ => none
  | .resyncGapEnd _ => none
  | .lineFault _ _ => none
  | .wakeDelimiterEnd _ => none
  | .wakeRequest _ _ => none
  | .lineRetryEnd _ _ => none
  | .assignAnswer _ _ => none
  | .confirmingPoll _ _ => none
  | .screenPoll _ _ => none
  | .unassign _ => none
  | .sleep _ => none
  | .hostByteReceived _ _ => none
  | .lineGoesHigh _ => none
  | .powerLoss _ _ => none

/-! ## Bookings and the store -/

/-- A text as the part stores it, of at most a width (R204). -/
def Text.Fits (width : Nat) (t : Text) : Prop := t.length ≤ width ∧ ∀ c ∈ t, 0x20 ≤ c ∧ c ≤ 0x7E

/-- An attendee that a BOOK can carry (R91, R220). -/
structure Attendee.Carried (a : Attendee) : Prop where
  name : a.name ≠ [] ∧ Text.Fits 24 a.name
  card : ∀ c, a.card = some c → 4 ≤ c.length ∧ c.length ≤ 16

/-- A policy whose numbers fit the policy block (R220). -/
structure Policy.Carried (p : Policy) : Prop where
  smax : p.smax < 256
  speechLimit : p.speechLimit < 65536
  warningLead : p.warningLead < 256
  allowance : p.allowance < 65536

/-- A booking that a BOOK can carry and whose fields pass the checks of R91 (R91, R220). -/
structure BookingData.Carried (d : BookingData) : Prop where
  startMin : d.startMin < 4294967296
  endMin : d.endMin < 4294967296
  title : d.title ≠ [] ∧ Text.Fits 40 d.title
  organiser : Text.Fits 24 d.organiser
  policy : d.policy.Carried
  count : d.attendees.length ≤ 24
  attendees : ∀ a ∈ d.attendees, a.Carried
  cardsOnce : (d.attendees.filterMap (·.card)).Nodup
  seatsOnce : (d.attendees.filterMap (·.seat)).Nodup

/-- A record of some units can be taken up or waits: the engine is busy, or there is room at the write head, or a sector
can be opened beside the reserve (R120, R121, R126). -/
def State.CanProgram (units : Nat) (s : State) : Prop :=
  s.store.engine ≠ .idle ∨ s.store.reads ≠ []
    ∨ (s.store.nextWrite ≤ 4294967295
        ∧ ((∃ h, s.writeHead = some h ∧ s.store.nextFree + units ≤ 256)
          ∨ (2 ≤ (s.sectorsIn .erased).length ∧ s.nextSequence ≤ 65535)))

/-- Between `s` and `t` a program has been handed to the engine (R120, R121): it waits behind the others where the
engine is busy or a read waits; otherwise it is in progress with the next write count, at the write head where that has
room, and else at unit 1 of the first ERASED sector, whose header goes first. -/
def HandedOn (j : ProgramJob) (s t : State) : Prop :=
  ((s.store.engine ≠ .idle ∨ s.store.reads ≠ []) →
    t.store = { s.store with programs := s.store.programs ++ [j] })
  ∧ (s.store.engine = .idle → s.store.reads = [] →
      t.store.engine = .programming ∧ t.store.programs = [] ∧ t.store.medium = s.store.medium
      ∧ t.store.nextWrite = s.store.nextWrite + 1
      ∧ (∀ h, s.writeHead = some h → s.store.nextFree + recordUnits j.body ≤ 256 →
          t.store.active = some ⟨j, s.store.nextWrite, ⟨h, s.store.nextFree⟩, none⟩)
      ∧ ((∀ h, s.writeHead = some h → 256 < s.store.nextFree + recordUnits j.body) →
          ∀ i, (s.sectorsIn .erased).head? = some i →
          t.store.active = some ⟨j, s.store.nextWrite, ⟨i, 1⟩, some s.nextSequence⟩))

/-- Nothing of the meeting sequence is due: no meeting is current, no resume is owed, and no PENDING or LOBBY booking
starts within the lobby lead (R103 to R110). -/
abbrev State.NothingDue (s : State) : Prop :=
  s.seq.current = none ∧ s.seq.resumeMark = false
    ∧ ∀ now ∈ s.now, ∀ e ∈ s.seq.index, (e.state = .pending ∨ e.state = .lobby) →
      now + s.seq.room.lobbyLead < e.startMin ∧ e.startMin ≤ e.endMin

/-- A program is at its verify, of a header or of a record, at a powered part that has nothing else to take up but reads
and a pass; nothing lies where its record goes (R120, R121). -/
abbrev State.Verifying (p : Programming) (s : State) : Prop :=
  s.powered = true ∧ s.link.queue = [] ∧ s.TransmitterSettled ∧ s.store.engine = .programming
    ∧ s.store.orphan = none ∧ s.store.active = some p ∧ s.store.programs = [] ∧ s.store.latch = false
    ∧ ∀ r ∈ s.store.medium[p.place.sector].records, r.unit ≠ p.place.unit

/-- Between `s` and `t` a record's program has ended well: the record lies on the medium, its units clean but those that
a copy writes poisoned, the engine is IDLE with outcome OK, and the next free unit is behind the record (R121,
R131). -/
def Landed (p : Programming) (s t : State) : Prop :=
  t.store.engine = .idle ∧ t.store.active = none ∧ t.store.lastOutcome = .ok ∧ t.store.latch = false
    ∧ t.store.nextFree = p.place.unit + recordUnits p.job.body
    ∧ t.store.medium[p.place.sector].records = s.store.medium[p.place.sector].records
        ++ [⟨p.place.unit, p.job.number, p.job.version, p.writeCount, p.job.poison, true, p.job.body,
            (List.range (recordUnits p.job.body)).map fun k =>
              if k ∈ p.job.badUnits then UnitHealth.uncorrectable else .clean⟩]
    ∧ ∀ i : Fin 16, i ≠ p.place.sector → t.store.medium[i] = s.store.medium[i]

/-- The entry of a booking number changed, every other entry as it was (R92). -/
def State.indexWith (s : State) (n : Nat) (f : IndexEntry → IndexEntry) : List IndexEntry :=
  s.seq.index.map fun x => if x.number = n then f x else x

/-- A frame handed to the transmitter between two states, first among what it sends next (R206). -/
def Placed (f : OutFrame) (s t : State) : Prop :=
  t.link.outstanding = s.link.outstanding
    ∧ match s.link.onLine with
      | none => t.link.onLine = some f ∧ t.link.waiting = []
      | some g => t.link.onLine = some g ∧ t.link.waiting = s.link.waiting ++ [f]

/-! ## The seat lines -/

/-- An answer carries some bytes within a bound: it began within 24 bit times, and its first characters have these
data bits, marker 0 and no framing error, each ended within the bound (R157, R161, R162). -/
def Carries (bytes : List Byte) (bound : Nat) (a : LineAnswer) : Prop :=
  (∃ t, a.startAt = some t ∧ t ≤ 24) ∧ (a.chars.take bytes.length).map (·.data) = bytes
    ∧ ∀ c ∈ a.chars.take bytes.length, c.framingError = false ∧ c.marker = false ∧ c.endsAt ≤ bound

/-- The five bytes of a poll answer from an address: four fields and the check over the header and them (R158, R159,
R224). -/
def pollReply (addr : Nat) (b0 b1 b2 b3 : Byte) : List Byte :=
  [b0, b1, b2, b3, ~~~(BitVec.ofNat 8 addr + b0 + b1 + b2 + b3)]

/-- A RUNNING line has an exchange on it. -/
abbrev OnLine (l : LineId) (x : Exchange) (s : State) : Prop :=
  (s.line l).state = .running ∧ (s.line l).activity = .exchange x

/-- The mark of an order kind in a unit's pending set (R190). -/
def State.marked (s : State) (u : Station) (k : OrderKind) : Bool :=
  match u, k with
  | .seat i, .confirm => (s.seat i).marks.confirm
  | .seat i, .speaker => (s.seat i).marks.speaker
  | .seat i, .mic => (s.seat i).marks.mic
  | .seat i, .gain => (s.seat i).marks.gain
  | .seat i, .status => (s.seat i).marks.status
  | .seat i, .label => (s.seat i).marks.label
  | .screen j, .confirm => (s.screen j).confirmMark
  | .screen j, .item n => (s.screen j).itemMarks[n]
  | _, _ => false

/-- An order that is for a kind of unit: an item for a screen, a CONFIRM for either, any other for a seat (R190). -/
def orderFor : Station → OrderContent → Bool
  | _, .confirm => true
  | .seat _, .item _ _ _ => false
  | .seat _, _ => true
  | .screen _, .item _ _ _ => true
  | .screen _, _ => false

/-- The place of a unit in the turns of a line from a pointer on: the units at addresses after the pointer come
first, in address order, and then the others (R194). -/
def turnOf (pointer : Option Nat) (u : Station) : Nat :=
  match pointer with
  | none => addressOf u
  | some p => if p < addressOf u then addressOf u else addressOf u + 64

/-- A unit of a line in service is the next in turn among those with a claim (R194). -/
def State.NextInTurn (s : State) (l : LineId) (pointer : Option Nat) (claim : Station → Bool) (u : Station) : Prop :=
  let claims := fun v : Station => lineOfStation v = l ∧ inService (s.presence v) = true ∧ claim v = true
  claims u ∧ ∀ v : Station, claims v → turnOf pointer u ≤ turnOf pointer v

/-- No unit of a line in service has a claim (R193). -/
def State.NoClaim (s : State) (l : LineId) (claim : Station → Bool) : Prop :=
  ∀ v : Station, lineOfStation v = l → inService (s.presence v) = true → claim v = false

/-- An urgent order is pending at a unit (R190, R194). -/
def State.urgentClaim (s : State) (u : Station) : Bool :=
  s.marked u .confirm || s.marked u .speaker || s.marked u .mic || s.marked u .gain

/-- A bulk order is pending at a unit (R190, R194). -/
def State.bulkClaim (s : State) (u : Station) : Bool :=
  s.marked u .status || s.marked u .label || (List.finRange 16).any fun n => s.marked u (.item n)

/-- A seat has left the floor and its card with the unit: it is in no list, its card part is empty, its fetch mark and
confirm outstanding are off, and its levels are frozen (R68, R83, R185). -/
structure State.Dropped (s : State) (i : SeatId) : Prop where
  floor : s.speaking i = false ∧ s.requesting i = false
  card : (s.seat i).card = ⟨.none, none, none, none, false⟩
  marks : (s.seat i).fetchMark = false ∧ (s.seat i).confirmOutstanding = false
  frozen : (s.seat i).frozen = true

/-- A counter that stops at 65535 has gone one further. -/
def oneMore (n : Nat) : Nat := min 65535 (n + 1)

/-- The failure counters after one failure (R155, R162). -/
def LineCounters.after (c : LineCounters) : FailureKind → LineCounters
  | .noResponse => { c with noResponse := oneMore c.noResponse }
  | .incomplete => { c with incomplete := oneMore c.incomplete }
  | .badCheck => { c with badCheck := oneMore c.badCheck }
  | .orderMismatch => { c with orderMismatch := oneMore c.orderMismatch }

/-! ## Invariants -/

/-- One request entry may stand before another: it is of a higher band, or of the same band with an arrival number
that is no higher (R3). -/
def requestBefore (x y : RequestEntry) : Prop :=
  y.band < x.band ∨ (x.band = y.band ∧ x.arrival ≤ y.arrival)

/-- The floor's lists and its chair priority keep their rules (R1 to R4, R25): at most 2 chair-class entries and at
most Smax others (one where Smax is 0, which no request sets), at most 24 requests in order, no seat twice,
a muting mark only while a seat holds, every holder a chair-class speaker, and an entry muted exactly while
the mark is set and it is not chair-class. A CLOSED floor holds nothing. -/
structure Floor.Sound (f : Floor) : Prop where
  chairs : classCount true f.speakers ≤ 2
  others : classCount false f.speakers ≤ max 1 f.policy.smax
  requestCount : f.requests.length ≤ 24
  once : (f.speakers.map (·.seat) ++ f.requests.map (·.seat)).Nodup
  ordered : f.requests.Pairwise requestBefore
  holdersOnce : f.holders.Nodup
  holdersSpeak : ∀ i ∈ f.holders, ∃ e ∈ f.speakers, e.seat = i ∧ e.chairClass = true
  mutingHeld : f.muting = true → f.holders ≠ []
  muted : ∀ e ∈ f.speakers, e.muted = (f.muting && !e.chairClass)
  closed : f.isOpen = false → f.speakers = [] ∧ f.requests = [] ∧ f.holders = []

/-- The floor keeps its rules, and each entry is treated by the class of its seat's effective role (R2, R86, R87). -/
structure State.FloorSound (s : State) : Prop where
  floor : s.floor.Sound
  classes : ∀ e ∈ s.floor.speakers, e.chairClass = s.roles.defs[(s.effRole e.seat).number].chairClass

/-- The log holds at most 48 records, and its dropped count stops at 255 (R48, R50). -/
structure SpeechLog.Sound (l : SpeechLog) : Prop where
  records : l.records.length ≤ 48
  dropped : l.dropped ≤ 255

/-- The host link keeps its capacities (R202, R206), and no frame waits while the line is idle. -/
structure HostLink.Sound (k : HostLink) : Prop where
  queue : k.queue.length ≤ 4
  rejects : (k.waiting.filter fun f => decide (f.cls = .reject)).length ≤ 4
  lostRejects : k.lostRejects ≤ 255
  outstanding : k.outstanding ≤ 4
  busy : k.onLine = none → k.waiting = []

/-! ## Closes and role changes on the floor -/

/-- The floor when a seat holds no longer: the last release unmutes every entry (R25). -/
def Floor.released (i : SeatId) (f : Floor) : Floor :=
  let last := decide (i ∈ f.holders ∧ f.holders.filter (fun j => decide (j ≠ i)) = [])
  { f with
    holders := f.holders.filter fun j => decide (j ≠ i)
    muting := f.muting && !last
    speakers := f.speakers.map fun x => if last then { x with muted := false } else x }

/-- Between `s` and `t` one entry has been closed with a reason: its record is in the log, it holds no longer, and where
it was chair-class, or nobody waits or is advanced, that is all; else the eligible head opens where there is room for
its class (R9, R12, R13, R25). -/
structure Closed (e : SpeakerEntry) (reason : CloseReason) (s t : State) : Prop where
  log : t.log = s.log.push (s.logRecord e reason)
  gone : t.speaking e.seat = false
  quiet : (e.chairClass = true ∨ s.floor.requests = []
      ∨ (s.floor.policy.mode = .requestMode ∧ s.floor.policy.autoAdvance = false)) →
    t.floor = { s.floor.released e.seat with
      speakers := (s.floor.released e.seat).speakers.filter fun x => decide (x.seat ≠ e.seat) }
  advance : ∀ (r : RequestEntry) (others : List RequestEntry), e.chairClass = false →
    s.floor.requests = r :: others → s.eligibleToSpeak r.seat = true →
    (s.floor.policy.mode = .openMode ∨ s.floor.policy.autoAdvance = true) →
    (if s.roles.defs[(s.effRole r.seat).number].chairClass then classCount true s.floor.speakers < 2
      else classCount false s.floor.speakers ≤ s.floor.policy.smax) →
    t.floor.requests = others
    ∧ t.floor.speakers.map (·.seat)
        = (s.floor.speakers.map (·.seat)).filter (fun j => decide (j ≠ e.seat)) ++ [r.seat]

/-- Between `s` and `t` a seat's request has been withdrawn, the others keeping their order, and the seat has been given
a refusal code where one goes with it (R11). -/
def Withdrawn (i : SeatId) (code : Option RefusalCode) (s t : State) : Prop :=
  t.floor = { s.floor with requests := s.floor.requests.filter fun r => decide (r.seat ≠ i) }
    ∧ (t.seat i).refusal = code ∧ t.log = s.log

/-- Between `s` and `t` the effective role of one seat alone has changed, to the definition `d`, restricted or not, at a
seat that the allowance does not bar: what that makes of its entry on an OPEN floor (R45, R86, R87). `code` is the
refusal code that R7 then gives. -/
structure RoleActs (i : SeatId) (d : RoleDef) (restricted : Bool) (code : RefusalCode) (s t : State) : Prop where
  idle : s.speaking i = false → s.requesting i = false →
    t.floor = s.floor ∧ t.log = s.log ∧ (t.seat i).refusal = (s.seat i).refusal
  withdrawn : s.requesting i = true → (d.mayRequest = false ∨ restricted = true) → Withdrawn i (some code) s t
  placed : ∀ r ∈ s.floor.requests, r.seat = i → d.mayRequest = true → restricted = false →
    t.floor = { s.floor with requests := t.floor.requests } ∧ t.log = s.log
    ∧ t.floor.requests.Perm
        ({ r with band := d.band } :: s.floor.requests.filter fun x => decide (x.seat ≠ i))
    ∧ t.floor.requests.Pairwise requestBefore ∧ (d.band = r.band → t.floor = s.floor)
  closed : ∀ e ∈ s.floor.speakers, e.seat = i → (d.maySpeak = false ∨ restricted = true) → Closed e .role s t
  kept : ∀ e ∈ s.floor.speakers, e.seat = i → d.maySpeak = true → restricted = false →
    e.chairClass = d.chairClass → t.floor = s.floor ∧ t.log = s.log
  raised : ∀ e ∈ s.floor.speakers, e.seat = i → d.maySpeak = true → restricted = false → e.chairClass = false →
    d.chairClass = true →
    (2 ≤ classCount true s.floor.speakers → Closed e .limit s t)
    ∧ (classCount true s.floor.speakers < 2 → t.log = s.log ∧ t.floor = { s.floor with
        speakers := s.floor.speakers.map fun x =>
          if x.seat = i then { x with chairClass := true, muted := false, warned := false, overran := false }
          else x })
  lowered : ∀ e ∈ s.floor.speakers, e.seat = i → d.maySpeak = true → restricted = false → e.chairClass = true →
    d.chairClass = false → e.warned = false → e.overran = false →
    let p := s.floor.policy
    let f := s.floor.released i
    let after : SpeakerEntry := { e with chairClass := false, muted := f.muting, wasMuted := e.wasMuted || f.muting }
    let late := decide (0 < p.speechLimit ∧ p.speechLimit ≤ e.elapsed)
    (p.smax ≤ classCount false s.floor.speakers → Closed e .limit s t)
    ∧ (classCount false s.floor.speakers < p.smax → late = true → p.atLimit = .close →
        t.log = s.log.push (s.logRecord after .timeUp) ∧ t.speaking i = false)
    ∧ (classCount false s.floor.speakers < p.smax → ¬ (late = true ∧ p.atLimit = .close) →
        t.log = s.log ∧ t.floor = { f with speakers := f.speakers.map fun x =>
          if x.seat = i then
            { after with
              warned := decide (0 < p.speechLimit ∧ p.speechLimit ≤ e.elapsed + p.warningLead), overran := late }
          else x })

/-- Between `s` and `t` a seat that the allowance does not bar has been given an effective role, no other seat another
one: the floor is as it was where it is CLOSED or the role the same, and follows the role otherwise (R85, R86). -/
structure RoleGiven (i : SeatId) (r : EffectiveRole) (code : RefusalCode) (s t : State) : Prop where
  same : (s.effRole i = r ∨ s.floor.isOpen = false) → t.floor = s.floor ∧ t.log = s.log
  acts : s.effRole i ≠ r → s.floor.isOpen = true → RoleActs i s.roles.defs[r.number] r.restricted code s t

end Sys2Proof.Machine
end

