-- ==== Sys2Proof/Certificates/Slice0/Obligations.lean ====
section
/-! DEFINITION. The statements for the provers, family by family. -/

open Sys2Proof Sys2Proof.Machine

/-! ## The step, the resets and the host line -/

/-- A step takes the command at the front of the queue and is its meaning on the state with the rest of the queue;
with nothing waiting the part idles. That commands wait in a queue is the model's form (log entry 1). -/
def Obligations.StepRunsFrontCommand : Prop :=
  (∀ (s : State) (c : Instr) (rest : List Instr), s.pending = c :: rest →
    step s = exec c { s with pending := rest })
  ∧ ∀ s : State, s.pending = [] → step s = .next s

/-- After power-on: the clock is UNSET, the floor CLOSED under the walk-in defaults, the log empty; the masters, roles
with their names, filters, room settings, seats and screens with nothing held, sent or pending, resume mark, store
engine with an empty sector table and no write head or free unit, lines with their poll round at number 0 and no
arbiter pointer, and host link with its close summary and FAULT record are as their rules say (R1, R5, R48, R53, R71,
R74, R77, R88, R90, R92, R102, R110, R115, R119, R120, R134, R141, R155, R179, R186, R194, R207, R208, R209, R214).
That the supply is there and the queue of commands is empty is the model's form (log entries 1 and 44). -/
def Obligations.PowerOnValues : Prop :=
  let s := State.reset
  s.powered = true ∧ s.clock = none ∧ s.pending = []
  ∧ s.floor.isOpen = false ∧ s.floor.speakers = [] ∧ s.floor.requests = [] ∧ s.floor.holders = []
  ∧ s.floor.muting = false ∧ s.floor.arrivalCounter = 0
  ∧ s.floor.policy = ⟨.openMode, 4, .queue, false, true, 0, 30, .warn, 0, false, false, .mute⟩
  ∧ s.log.records = [] ∧ s.log.dropped = 0
  ∧ s.masters = ⟨36, true, 24, 24, 12, 6⟩
  ∧ (s.roles.defs.toList.map (·.name)) = [[0x44, 0x45, 0x4C, 0x45, 0x47, 0x41, 0x54, 0x45],
      [0x43, 0x48, 0x41, 0x49, 0x52], [0x47, 0x55, 0x45, 0x53, 0x54], [0x4C, 0x49, 0x53, 0x54, 0x45, 0x4E, 0x45, 0x52],
      [0x52, 0x4F, 0x4C, 0x45, 0x34], [0x52, 0x4F, 0x4C, 0x45, 0x35], [0x52, 0x4F, 0x4C, 0x45, 0x36],
      [0x52, 0x4F, 0x4C, 0x45, 0x37]]
  ∧ (s.roles.defs.toList.map fun d => (d.band, d.mayRequest, d.maySpeak, d.chairClass, d.lift))
      = [(1, true, true, false, 0), (3, true, true, true, 6), (0, true, true, false, 0)]
        ++ List.replicate 5 (0, false, false, false, 0)
  ∧ (∀ n : Fin 16, s.roles.filters[n] = ⟨false, List.replicate 8 0, List.replicate 8 0, none, 0⟩)
  ∧ (∀ i : SeatId, (s.seat i).presence = .absent ∧ (s.seat i).kind = none ∧ (s.seat i).frozen = true
      ∧ (s.seat i).card = ⟨.none, none, none, none, false⟩ ∧ (s.seat i).micTrim = 0
      ∧ (s.seat i).speakerTrim = 0 ∧ (s.seat i).targetMic = .off ∧ (s.seat i).targetSpeaker = .code 24
      ∧ (s.seat i).sentMic = none ∧ (s.seat i).sentSpeaker = none ∧ (s.seat i).defaultRole = 0
      ∧ (s.seat i).hostSet = false ∧ (s.seat i).hostLabel = none ∧ (s.seat i).refusal = none
      ∧ (s.seat i).missCount = 0 ∧ (s.seat i).heldMic = none ∧ (s.seat i).heldNext = none
      ∧ (s.seat i).heldCard = none ∧ (s.seat i).heldPriority = false ∧ (s.seat i).confirmOutstanding = false
      ∧ (s.seat i).fetchMark = false ∧ (s.seat i).marks = ⟨false, false, false, false, false, false⟩
      ∧ (s.seat i).labelSent = none ∧ (s.seat i).statusSent = none)
  ∧ (∀ j : ScreenId, (s.screen j).presence = .absent ∧ (s.screen j).kind = none ∧ (s.screen j).missCount = 0
      ∧ (s.screen j).confirmOutstanding = false ∧ (s.screen j).confirmMark = false
      ∧ ∀ k : ItemId, (s.screen j).itemMarks[k] = false ∧ (s.screen j).itemSent[k] = none)
  ∧ s.seq.room = ⟨5, 10, 5, 15, 2⟩ ∧ s.seq.index = [] ∧ s.seq.current = none ∧ s.seq.roster = none
  ∧ s.seq.change = none ∧ s.seq.resumeMark = true ∧ s.seq.lastSettled = none
  ∧ s.store.engine = .scanning ∧ s.store.latch = false ∧ s.store.corrected = 0 ∧ s.store.pass = none
  ∧ s.store.lastOutcome = .ok ∧ s.store.reads = [] ∧ s.store.programs = []
  ∧ s.store.table = [] ∧ s.writeHead = none ∧ s.freeUnits = 0 ∧ s.sectorsIn .erased = []
  ∧ (∀ l : LineId, (s.line l).state = .off ∧ (s.line l).enabled = true ∧ (s.line l).bitRate = 250000
      ∧ (s.line l).wakeDelimiter = 4 ∧ (s.line l).cause = none ∧ (s.line l).seatsFound = 0
      ∧ (s.line l).enumOwed = false ∧ (s.line l).screensFound = [] ∧ (s.line l).consecutive = 0
      ∧ (s.line l).idle = 0 ∧ (s.line l).minuteLast = none ∧ (s.line l).counters = ⟨0, 0, 0, 0, 0, 0⟩
      ∧ (s.line l).round.number = 0 ∧ (s.line l).urgentPtr = none ∧ (s.line l).fetchPtr = none
      ∧ (s.line l).bulkPtr = none ∧ (s.line l).rescans = [])
  ∧ s.link.receiver = .hunting ∧ s.link.queue = [] ∧ s.link.outstanding = 0 ∧ s.link.waiting = []
  ∧ s.link.onLine = none ∧ s.link.lostRejects = 0
  ∧ s.link.enables = ⟨true, true, true, true, true, true, true⟩
  ∧ s.link.marks = ⟨false, false, false, [], [], false, false⟩
  ∧ s.link.closeCount = 0 ∧ s.link.lastClose = none ∧ s.link.faultNote = none ∧ s.link.faultCount = 0
  ∧ s.link.run = false ∧ s.link.startTag = none ∧ s.link.awaitingReset = false

/-- POWER_ON at a part without power gives every block its values after power-on, the host-line rate that the two
straps choose, and the store's medium as it was; what waits in the queue of commands stays (R198, R214). POWER_LOSS
leaves a part without power with nothing of its RAM. The medium is as it was where the engine neither programs nor
erases; a program in progress touches its own sector alone and keeps the records that lay in it; an erase in progress
leaves its victim's header invalid and the rest as it was. A second loss changes nothing (R140, R214). That a second
loss changes nothing, and that an abandoned erase leaves the victim's records as they were, is the model's choice (log
entries 2 and 32). -/
def Obligations.PowerComesAndGoes : Prop :=
  (∀ (s : State) (rate1 rate0 : Bool), s.powered = false →
    exec (.powerOn rate1 rate0) s = .next { State.reset with
      rate := match rate1, rate0 with
        | false, false => 19200 | false, true => 38400 | true, false => 115200 | true, true => 230400
      store := { State.reset.store with medium := s.store.medium }
      pending := s.pending })
  ∧ ((∀ (s : State) (unitsDone : Nat) (torn : Bool), s.powered = true → ∃ m : Vector SectorMedium 16,
    exec (.powerLoss unitsDone torn) s = .next { State.reset with
      powered := false, rate := s.rate, store := { State.reset.store with medium := m }, pending := s.pending }
    ∧ (s.store.active = none → s.store.orphan = none →
        s.store.engine ≠ .erasing → s.store.engine ≠ .suspended → m = s.store.medium)
    ∧ (∀ p : Programming, (s.store.active = some p ∨ (s.store.active = none ∧ s.store.orphan = some p)) →
        (∀ i : Fin 16, i ≠ p.place.sector → m[i] = s.store.medium[i])
        ∧ s.store.medium[p.place.sector].records <+: m[p.place.sector].records)
    ∧ (s.store.active = none → s.store.orphan = none →
        (s.store.engine = .erasing ∨ s.store.engine = .suspended) → ∀ p : Pass, s.store.pass = some p →
        (∀ i : Fin 16, i ≠ p.victim → m[i] = s.store.medium[i])
        ∧ m[p.victim] = ⟨.invalid, s.store.medium[p.victim].records⟩))
  ∧ ∀ (s : State) (unitsDone : Nat) (torn : Bool), s.powered = false →
      exec (.powerLoss unitsDone torn) s = .next s)

/-- The reset of a RESTART is one step: everything takes its values after power-on but the room clock, the strap rate
and the store's medium; a program in progress goes on as the engine's leftover, and an abandoned erase leaves its
victim's header invalid. It comes with the end of the RESTART reply's frame, and nothing is reset where no RESTART
awaits it or its reply is not the frame on the line (R140, R213). That an unasked reset changes nothing, and what an
abandoned erase leaves of its victim, is the model's choice (log entries 2 and 32). -/
def Obligations.RestartResetsAllButClock : Prop :=
  (∀ (s : State) (f : OutFrame), s.powered = true → s.link.awaitingReset = true → s.link.onLine = some f →
    f.cls = .restartReply → ∃ m : Vector SectorMedium 16,
    exec .restartReset s = .next { State.reset with
      rate := s.rate, clock := s.clock, pending := s.pending
      store := { State.reset.store with
        medium := m
        orphan := if s.store.active.isSome then s.store.active else s.store.orphan } }
    ∧ (s.store.engine ≠ .erasing → s.store.engine ≠ .suspended → m = s.store.medium)
    ∧ ((s.store.engine = .erasing ∨ s.store.engine = .suspended) → ∀ p : Pass, s.store.pass = some p →
        (∀ i : Fin 16, i ≠ p.victim → m[i] = s.store.medium[i])
        ∧ m[p.victim] = ⟨.invalid, s.store.medium[p.victim].records⟩))
  ∧ (∀ (s : State) (f : OutFrame), s.powered = true → s.link.awaitingReset = true →
      s.link.onLine = some f → f.cls = .restartReply → exec .frameSent s = exec .restartReset s)
  ∧ ∀ s : State, s.Calm →
      (s.link.awaitingReset = false ∨ ∀ f, s.link.onLine = some f → f.cls ≠ .restartReply) →
      exec .restartReset s = .next s

/-- A request that cannot be taken at once, 4 being outstanding or a RESTART awaiting its reset, joins the input queue
at the tail, and changes nothing else; where the queue holds 4 frames it is discarded and REJECT with reason FULL and
its tag goes to the transmitter, or is counted as lost where 4 REJECTs wait (R202, R206, R213). -/
def Obligations.RequestWaitsOrIsRejected : Prop :=
  ∀ (c : Instr) (f : Frame) (s : State), requestFrame c = some f → s.powered = true → s.store.AtRest →
    s.TransmitterSettled → (4 ≤ s.link.outstanding ∨ s.link.awaitingReset = true) →
    (s.link.queue.length < 4 →
      exec c s = .next { s with link := { s.link with queue := s.link.queue ++ [f] } })
    ∧ (4 ≤ s.link.queue.length → exec c s = .next (s.sendReject f.tag .full))

/-- A frame is what carries a request: at a ready part that is HUNTING, the complete frame whose kind, tag and payload
are a request's, with its length and its check, does what the request command does, of every kind, and of no kind of
the part (R199, R201, R203, R218). -/
def Obligations.FrameCarriesRequest : Prop :=
  ∀ (c : Instr) (f : Frame) (s : State), requestFrame c = some f → c.wellFormed = true → s.Ready →
    s.link.receiver = .hunting →
    ∃ t, exec c s = .next t ∧ exec (.completeFrame ((frameBytes f).drop 1)) s = .next t

/-- A byte received: while HUNTING, 0xA5 starts a frame and any other byte is discarded; while RECEIVING, a byte that
neither completes the frame nor gives a length outside its range is kept. The stop bit plays no part (R198, R200).
What ends a frame early or spoils it is answered by one REJECT and leaves the receiver HUNTING: a check that differs
by BAD_CHECK with the tag as received, a gap while RECEIVING by TRUNCATED, a length outside 2 to 1538 by BAD_LENGTH,
both with tag 0. Nothing else changes (R200, R201, R206). -/
def Obligations.BytesAndBadFrames : Prop :=
  ((∀ (s : State) (b : Byte) (stop : Bool), s.Calm → s.link.receiver = .hunting →
    exec (.hostByteReceived b stop) s =
      .next (if b = 0xA5 then { s with link := { s.link with receiver := .receiving [] } } else s))
  ∧ ∀ (s : State) (l : List Byte) (b : Byte) (stop : Bool), s.Calm → s.link.receiver = .receiving l →
      frameComplete (l ++ [b]) = false →
      ¬ (l.length = 1 ∧ (frameLength (l ++ [b]) < 2 ∨ 1538 < frameLength (l ++ [b]))) →
      exec (.hostByteReceived b stop) s =
        .next { s with link := { s.link with receiver := .receiving (l ++ [b]) } })
  ∧ ((∀ (s : State) (bytes : List Byte), s.Calm → frameComplete bytes = true →
    frameCheck (bytes.take (frameLength bytes + 2)) ≠ (bytes.drop (frameLength bytes + 2)).take 2 →
    exec (.completeFrame bytes) s = .next
      (State.sendReject (byteAt bytes 3) .badCheck { s with link := { s.link with receiver := .hunting } }))
  ∧ (∀ (s : State) (bytes : List Byte), s.Calm → s.link.receiver = .receiving bytes →
      exec .rejectTruncated s = .next
        (State.sendReject 0 .truncated { s with link := { s.link with receiver := .hunting } }))
  ∧ (∀ (s : State) (first second : Byte), s.Calm → s.link.receiver = .receiving [first] →
      (first.toNat + 256 * second.toNat < 2 ∨ 1538 < first.toNat + 256 * second.toNat) →
      exec (.rejectBadLength second) s = .next
          (State.sendReject 0 .badLength { s with link := { s.link with receiver := .hunting } })
      ∧ ∀ stop : Bool, exec (.hostByteReceived second stop) s = exec (.rejectBadLength second) s))

/-- The bytes of a frame as the part itself forms them, received one after another by a HUNTING receiver, are the
frame: it is offered to the input queue and the receiver is HUNTING again (R199, R200, R201). -/
def Obligations.FrameBytesReadBack : Prop :=
  ∀ (f : Frame) (s : State), f.payload.length ≤ 1536 → s.link.receiver = .hunting →
    (frameBytes f).foldl (fun s b => receiveByte b s) s = offerFrame f s

/-- FRAME_SENT: the frame on the line ends, a reply's request is no longer outstanding, and the transmitter begins the
oldest frame that waits; where none waits, the first notice that is enabled and marked in the order FAULT, MEETING,
FLOOR, SEAT, SPEECH, STORE, LOG, and where there is none it is idle. A notice has tag 0 and its mark is cleared; of
SEAT and of SPEECH the lowest unit leaves the set. Each notice carries its fields as they stand: FAULT the kind and
subject of the latest fault and the count, MEETING the current meeting and the last settled booking, FLOOR the lists
and the close summary, SEAT and SPEECH their seat or screen, STORE the engine state and outcome, LOG the records held.
The fault count returns to 0 with a FAULT notice and the close summary with a FLOOR notice, and neither otherwise
(R47, R52, R115, R134, R180, R202, R206, R207, R208, R209, R218). The numbers of phases, fault kinds and engine states
are the free values of log entry 3, and the order of the fields in payloads that chapter 11 does not lay out is the
model's reading (log entry 40). So are the line byte of a FAULT notice, 0 for A and 1 for B, and the form of its
subject (log entries 8 and 41), and that the state sent of a last settled booking is the one State keeps beside its
number, which outlives its index entry (log entry 60). -/
def Obligations.FrameSentBeginsNext : Prop :=
  ∀ (s : State) (f : OutFrame), s.powered = true → s.link.queue = [] → s.store.AtRest →
    s.link.onLine = some f → f.cls ≠ .restartReply →
    ∃ t, exec .frameSent s = .next t
      ∧ KeptBut [.transmitter, .marks] s t
      ∧ t.link.lostRejects = s.link.lostRejects
      ∧ t.link.outstanding = (if f.cls = .reply then s.link.outstanding - 1 else s.link.outstanding)
      ∧ (∀ (g : OutFrame) (rest : List OutFrame), s.link.waiting = g :: rest →
          t.link.onLine = some g ∧ t.link.waiting = rest ∧ t.link.marks = s.link.marks)
      ∧ (s.link.waiting = [] →
          let on := s.link.enables
          let m := s.link.marks
          t.link.waiting = []
          ∧ t.link.onLine.map (fun g => (g.cls, g.frame.kind, g.frame.tag)) =
              (if on.fault ∧ m.fault then some (.notice, 0x60, 0)
               else if on.meeting ∧ m.meeting then some (.notice, 0x61, 0)
               else if on.floor ∧ m.floor then some (.notice, 0x62, 0)
               else if on.seat ∧ m.seats ≠ [] then some (.notice, 0x63, 0)
               else if on.speech ∧ m.speeches ≠ [] then some (.notice, 0x64, 0)
               else if on.store ∧ m.store then some (.notice, 0x65, 0)
               else if on.log ∧ m.log then some (.notice, 0x66, 0)
               else none)
          ∧ t.link.marks =
              (if on.fault ∧ m.fault then { m with fault := false }
               else if on.meeting ∧ m.meeting then { m with meeting := false }
               else if on.floor ∧ m.floor then { m with floor := false }
               else if on.seat ∧ m.seats ≠ [] then { m with seats := m.seats.drop 1 }
               else if on.speech ∧ m.speeches ≠ [] then { m with speeches := m.speeches.drop 1 }
               else if on.store ∧ m.store then { m with store := false }
               else if on.log ∧ m.log then { m with log := false }
               else m))
      ∧ (∀ g : OutFrame, s.link.waiting = [] → t.link.onLine = some g →
          (g.frame.kind = 0x60 → g.frame.payload = faultFields s.link.faultNote ++ put1 s.link.faultCount)
          ∧ (g.frame.kind = 0x61 →
              let e := s.seq.current.bind fun c => s.entry c.number
              g.frame.payload = put2 ((s.seq.current.map (·.number)).getD 0)
                ++ [Config.unnumbered .phase (phaseIndex (s.seq.current.map (·.phase)))]
                ++ put4 ((e.map (·.startMin)).getD 0) ++ put4 ((e.map (·.endMin)).getD 0)
                ++ putYesNo ((s.seq.current.map (·.resumed)).getD false)
                ++ putYesNo ((s.seq.current.map (·.warned)).getD false)
                ++ put2 ((s.seq.lastSettled.map (·.1)).getD 0)
                ++ putOptional (s.seq.lastSettled.map fun x => bookingNumber x.2))
          ∧ (g.frame.kind = 0x62 → g.frame.payload = floorFields s.floor ++ put1 s.link.closeCount
              ++ putOptional (s.link.lastClose.map (·.1.val))
              ++ putOptional (s.link.lastClose.map fun x => closeNumber x.2))
          ∧ (g.frame.kind = 0x63 →
              (∀ i : SeatId, s.link.marks.seats.head? = some i.val → g.frame.payload = s.seatFields i)
              ∧ ∀ j : ScreenId, s.link.marks.seats.head? = some (64 + j.val) →
                  g.frame.payload = s.screenFields j)
          ∧ (g.frame.kind = 0x64 → ∀ i : SeatId, s.link.marks.speeches.head? = some i.val →
              (∀ e ∈ s.floor.speakers.find? (fun e => decide (e.seat = i)),
                g.frame.payload.take 6 = put1 i.val ++ [1] ++ put2 e.elapsed ++ putYesNo e.warned
                  ++ putYesNo e.overran)
              ∧ (s.speaking i = false → g.frame.payload.take 6 = put1 i.val ++ [0] ++ put2 0 ++ [0, 0])
              ∧ (∀ (a : Nat) (r : RosterEntry), s.boundAttendee i = some a → s.rosterEntry a = some r →
                  g.frame.payload.drop 6 = put1 a ++ put2 r.total)
              ∧ (s.boundAttendee i = none → (g.frame.payload.drop 6).take 1 = [0xFF]))
          ∧ (g.frame.kind = 0x65 → g.frame.payload = [Config.unnumbered .engineState (engineIndex s.store.engine)]
              ++ put1 (resultNumber (storeOutcomeResult s.store.lastOutcome)))
          ∧ (g.frame.kind = 0x66 → g.frame.payload = put1 s.log.records.length))
      ∧ (let begins := fun kind : Byte =>
          s.link.waiting = [] ∧ ∃ g : OutFrame, t.link.onLine = some g ∧ g.frame.kind = kind
        t.link.faultNote = s.link.faultNote
        ∧ (begins 0x60 → t.link.faultCount = 0) ∧ (¬ begins 0x60 → t.link.faultCount = s.link.faultCount)
        ∧ (begins 0x62 → t.link.closeCount = 0 ∧ t.link.lastClose = none)
        ∧ (¬ begins 0x62 → t.link.closeCount = s.link.closeCount ∧ t.link.lastClose = s.link.lastClose))

/-! ## The part's own requests -/

/-- PING returns its bytes with the part state, whether the scan runs and the lost-REJECT count, which is then 0; more
than 64 bytes are BAD_LENGTH. It changes no other state, in CONFIG and in RUN, while the scan runs and while a START
is in flight (R216). The number of the part state is a free value of the model (log entry 3). -/
def Obligations.PingReturnsBytes : Prop :=
  ∀ (s : State) (tag : Byte) (p : List Byte), s.Ready →
    (p.length ≤ 64 → ∃ t,
      exec (.ping tag p) s = .next t
      ∧ t = State.modLink (s.answer 0x4C tag .ok
          (p ++ [Config.unnumbered .partState (if s.link.run then 1 else 0)]
            ++ [if s.store.engine = .scanning then 1 else 0] ++ [BitVec.ofNat 8 s.link.lostRejects]))
          (fun k => { k with lostRejects := 0 }))
    ∧ (64 < p.length → exec (.ping tag p) s = .next (s.answer 0x4C tag .badLength []))

/-- IDENTIFY reports the part code "TCM-64", the revision, the host-line rate, CONFIG or RUN, whether a START is in
flight, whether the scan runs, and what was found on each line; it changes nothing, in either state. A payload is
BAD_LENGTH (R203, R215). A frame of a kind that the request table of chapter 11 does not list is answered with kind
0xFF, result UNKNOWN_KIND and the kind received, whatever the payload, and changes nothing (R203, R218, R219).
SET_NOTICES puts its seven flags in force together and returns them; a flag other than yes or no is BAD_VALUE and none
is applied; another length is BAD_LENGTH. No mark is cleared (R203, R210). RESTART is answered OK at once in any
state, and from then on the part awaits its reset; a payload is BAD_LENGTH (R203, R213). START in CONFIG with no START
in flight wakes each enabled line, which then owes its report, a line that is not reports at once, and its reply
waits; where neither line is enabled the part enters RUN, the evaluation is made where the clock is set and the scan
has completed, and the reply with both lines' reports is formed at once. That evaluation is given whole where the
index is empty, and where its one booking is PENDING, not held and in its window with the resume mark set, whose load
it then begins. In RUN START is WRONG_STATE and with a START in flight BUSY, and nothing changes (R103, R110, R166,
R203, R211, R212). The bytes of replies that chapter 11 does not lay out, and the free values in them, are the model's
reading (log entries 3 and 40); that the part code is a text of width 6 and the revision number one byte is its choice
(log entry 64). -/
def Obligations.PartRequestsAnswered : Prop :=
  (∀ (s : State) (tag : Byte) (p : List Byte), s.Ready →
    (p = [] → exec (.identify tag p) s = .next (s.answer 0x4B tag .ok
      ([6, 0x54, 0x43, 0x4D, 0x2D, 0x36, 0x34, Config.revision] ++ put4 s.rate
        ++ [Config.unnumbered .partState (if s.link.run then 1 else 0),
            if s.link.startTag = none then 0 else 1, if s.store.engine = .scanning then 1 else 0,
            BitVec.ofNat 8 s.lineA.seatsFound] ++ screensByte s.lineA.screensFound
        ++ [BitVec.ofNat 8 s.lineB.seatsFound] ++ screensByte s.lineB.screensFound)))
    ∧ (p ≠ [] → exec (.identify tag p) s = .next (s.answer 0x4B tag .badLength [])))
  ∧ (∀ (s : State) (kind tag : Byte) (p : List Byte), s.Ready → wfUnknownKind kind = true →
    exec (.unknownKind kind tag p) s = .next (s.taken.send ⟨.reply, ⟨0xFF, tag, [2, kind]⟩⟩))
  ∧ (∀ (s : State) (tag : Byte) (p : List Byte), s.Ready →
    (p.length = 7 → (∀ b ∈ p, b = 0 ∨ b = 1) →
      exec (.setNotices tag p) s = .next
        (State.answer 0x4A tag .ok p { s with link := { s.link with enables :=
          ⟨p[0]? == some 1, p[1]? == some 1, p[2]? == some 1, p[3]? == some 1, p[4]? == some 1,
            p[5]? == some 1, p[6]? == some 1⟩ } }))
    ∧ (p.length = 7 → (∃ b ∈ p, b ≠ 0 ∧ b ≠ 1) →
        exec (.setNotices tag p) s = .next (s.answer 0x4A tag .badValue []))
    ∧ (p.length ≠ 7 → exec (.setNotices tag p) s = .next (s.answer 0x4A tag .badLength [])))
  ∧ (∀ (s : State) (tag : Byte) (p : List Byte), s.Ready →
    (p = [] → exec (.restart tag p) s = .next
      (State.send ⟨.restartReply, ⟨0xC9, tag, [0]⟩⟩
        (State.modLink s.taken fun k => { k with awaitingReset := true })))
    ∧ (p ≠ [] → exec (.restart tag p) s = .next (s.answer 0x49 tag .badLength [])))
  ∧ (∀ (s : State) (tag : Byte) (p : List Byte), s.Ready →
    (p ≠ [] → exec (.start tag p) s = .next (s.answer 0x48 tag .badLength []))
    ∧ (p = [] → s.link.run = true → exec (.start tag p) s = .next (s.answer 0x48 tag .wrongState []))
    ∧ (p = [] → s.link.run = false → s.link.startTag ≠ none →
        exec (.start tag p) s = .next (s.answer 0x48 tag .busy []))
    ∧ (p = [] → s.link.run = false → s.link.startTag = none → s.lineA.reportOwed = false →
        s.lineB.reportOwed = false → (s.lineA.enabled = true ∨ s.lineB.enabled = true) →
        ∃ t, exec (.start tag p) s = .next t
          ∧ KeptBut [.transmitter, .lineA, .lineB, .runState] s t ∧ Deferred s t
          ∧ t.link.onLine = s.link.onLine ∧ t.link.run = false ∧ t.link.startTag = some tag
          ∧ ∀ l : LineId, t.line l =
              if (s.line l).enabled then
                { s.line l with
                  state := .waking, activity := .wake, begun := false, reportOwed := true, reported := none }
              else { s.line l with
                reported := some ⟨(s.line l).state, (s.line l).seatsFound, (s.line l).screensFound⟩ })
    ∧ (p = [] → s.link.run = false → s.link.startTag = none → s.lineA.reportOwed = false →
        s.lineB.reportOwed = false → s.lineA.enabled = false → s.lineB.enabled = false →
        let started : State := { s with
          lineA := { s.lineA with reported := some ⟨s.lineA.state, s.lineA.seatsFound, s.lineA.screensFound⟩ }
          lineB := { s.lineB with reported := some ⟨s.lineB.state, s.lineB.seatsFound, s.lineB.screensFound⟩ }
          link := { s.link with run := true } }
        let body := lineReport s.lineA ++ lineReport s.lineB
        ((s.clock = none ∨ s.store.engine = .scanning) →
          exec (.start tag p) s = .next (State.answer 0x48 tag .ok body started))
        ∧ (s.clock ≠ none → s.store.engine ≠ .scanning → s.seq.index = [] → s.seq.current = none →
            exec (.start tag p) s = .next
              (State.answer 0x48 tag .ok body { started with seq := { s.seq with resumeMark := false } }))
        ∧ (∀ (now : Nat) (e : IndexEntry), s.now = some now → s.store.engine = .idle → s.store.reads = [] →
            s.seq.index = [e] → e.state = .pending → s.seq.change = none → s.seq.current = none →
            s.seq.resumeMark = true → e.startMin ≤ now → now < e.endMin →
            ∃ t, exec (.start tag p) s = .next t ∧ Answered 0x48 tag .ok body s t
              ∧ t.link.run = true ∧ t.link.startTag = none ∧ t.seq.resumeMark = false
              ∧ t.seq.current = some ⟨e.number, .loading, true, false, Policy.walkIn⟩ ∧ t.seq.index = [e]
              ∧ t.store.reads = [.roster e.number] ∧ t.lineA = started.lineA ∧ t.lineB = started.lineB
              ∧ KeptBut [.seats, .screens, .sequencer, .store, .lineA, .lineB, .transmitter, .marks, .runState]
                  s t)))

/-! ## Requests that only report -/

/-- FLOOR_STATUS reports the floor and changes nothing, the close summary included: whether it is OPEN, the speaker
entries oldest first and the request entries head first as R222 lays them out, the holders, the muting mark, the
policy in force and the arrival counter; while the floor is CLOSED it is WRONG_STATE (R26, R33, R222). GET_LEVELS
reports the masters, the seat's trims and lift, its live flag and the live count, its targets and sent values, its
frozen mark and which level orders are pending, and changes nothing; a seat byte above 63 is BAD_VALUE (R56, R203).
GET_ROLE reports a definition and GET_FILTER a whole filter entry, in either state, and neither changes anything; a
number out of range is BAD_VALUE (R72, R74, R203). GET_DISPLAY reports a seat's label with its precedence, its host
label, the label last sent, its status and its pending LABEL and STATUS orders, or a screen's presence and its items'
pending and UNKNOWN marks. GET_SEAT reports the fields of the SEAT notice, the miss count, confirm outstanding, the
fetch mark, the pending order kinds by their code bytes, and a seat's floor state. Neither changes anything; a unit
byte above 67 is BAD_VALUE (R154, R180, R222). The bytes of replies that chapter 11 does not lay out are the model's
reading, and the numbers of OFF, MUTE, UNKNOWN, status codes, floor states and order sets are free values; ANY is 0xFF
(log entries 3, 8, 40, 49 and 53). That a screen's fetch mark is 0xFF is the model's choice (log entry 64). -/
def Obligations.RoomReported : Prop :=
  (∀ (s : State) (tag : Byte) (p : List Byte), s.Ready →
    (p = [] → s.floor.isOpen = true → exec (.floorStatus tag p) s = .next (s.answer 0x06 tag .ok
      (floorFields s.floor ++ putPolicy s.floor.policy ++ put2 s.floor.arrivalCounter)))
    ∧ (p = [] → s.floor.isOpen = false → exec (.floorStatus tag p) s = .next (s.answer 0x06 tag .wrongState []))
    ∧ (p ≠ [] → exec (.floorStatus tag p) s = .next (s.answer 0x06 tag .badLength [])))
  ∧ (∀ (s : State) (tag : Byte), s.Ready →
    (∀ i : SeatId, exec (.getLevels tag [BitVec.ofNat 8 i.val]) s = .next (s.answer 0x12 tag .ok
      (masterBytes s.masters ++ putSigned (s.seat i).micTrim ++ putSigned (s.seat i).speakerTrim
        ++ put1 (s.roles.defs[(s.effRole i).number]).lift
        ++ putYesNo (s.floor.speakers.any fun e => decide (e.seat = i) && !e.muted)
        ++ put1 (s.floor.speakers.filter fun e => !e.muted).length
        ++ micByte (some (s.seat i).targetMic) ++ speakerByte (some (s.seat i).targetSpeaker)
        ++ micByte (s.seat i).sentMic ++ speakerByte (s.seat i).sentSpeaker ++ putYesNo (s.seat i).frozen
        ++ putYesNo (s.seat i).marks.mic ++ putYesNo (s.seat i).marks.gain
        ++ putYesNo (s.seat i).marks.speaker)))
    ∧ (∀ b : Byte, 64 ≤ b.toNat → exec (.getLevels tag [b]) s = .next (s.answer 0x12 tag .badValue []))
    ∧ ∀ p : List Byte, p.length ≠ 1 → exec (.getLevels tag p) s = .next (s.answer 0x12 tag .badLength []))
  ∧ (∀ (s : State) (tag : Byte), s.Ready →
    (∀ n : RoleId, exec (.getRole tag [BitVec.ofNat 8 n.val]) s = .next (s.answer 0x19 tag .ok
      (putText 12 s.roles.defs[n].name ++ put1 s.roles.defs[n].band ++ putYesNo s.roles.defs[n].mayRequest
        ++ putYesNo s.roles.defs[n].maySpeak ++ putYesNo s.roles.defs[n].chairClass
        ++ put1 s.roles.defs[n].lift)))
    ∧ (∀ b : Byte, 8 ≤ b.toNat → exec (.getRole tag [b]) s = .next (s.answer 0x19 tag .badValue []))
    ∧ (∀ p : List Byte, p.length ≠ 1 → exec (.getRole tag p) s = .next (s.answer 0x19 tag .badLength []))
    ∧ (∀ n : Fin 16, exec (.getFilter tag [BitVec.ofNat 8 n.val]) s = .next (s.answer 0x1C tag .ok
      (putYesNo s.roles.filters[n].enabled ++ s.roles.filters[n].value ++ s.roles.filters[n].mask
        ++ putOptional s.roles.filters[n].lengthRule ++ put1 s.roles.filters[n].role.val)))
    ∧ (∀ b : Byte, 16 ≤ b.toNat → exec (.getFilter tag [b]) s = .next (s.answer 0x1C tag .badValue []))
    ∧ ∀ p : List Byte, p.length ≠ 1 → exec (.getFilter tag p) s = .next (s.answer 0x1C tag .badLength []))
  ∧ (∀ (s : State) (tag : Byte), s.Ready →
    (∀ i : SeatId, exec (.getDisplay tag [BitVec.ofNat 8 i.val]) s = .next (s.answer 0x39 tag .ok
      (putText 24 (s.labelOf i).1 ++ put1 (s.labelOf i).2 ++ labelField (s.seat i).hostLabel
        ++ labelField (s.seat i).labelSent ++ [Config.unnumbered .statusCode (statusIndex (s.status i).1)]
        ++ put2 (s.status i).2 ++ putYesNo (s.seat i).marks.label ++ putYesNo (s.seat i).marks.status)))
    ∧ (∀ j : ScreenId, exec (.getDisplay tag [BitVec.ofNat 8 (64 + j.val)]) s = .next (s.answer 0x39 tag .ok
      (put1 (presenceNumber (s.screen j).presence) ++ (List.finRange 16).flatMap fun k : Fin 16 =>
        putYesNo (s.screen j).itemMarks[k] ++ putYesNo (decide ((s.screen j).itemSent[k] = none)))))
    ∧ (∀ i : SeatId, exec (.getSeat tag [BitVec.ofNat 8 i.val]) s = .next (s.answer 0x43 tag .ok
      (s.seatFields i ++ put1 (s.seat i).missCount ++ putYesNo (s.seat i).confirmOutstanding
        ++ putYesNo (s.seat i).fetchMark
        ++ Config.orderSetField (pendingCodes (.seat i) s)
        ++ [Config.unnumbered .floorState (if s.speaking i then 2 else if s.requesting i then 1 else 0)])))
    ∧ (∀ j : ScreenId, exec (.getSeat tag [BitVec.ofNat 8 (64 + j.val)]) s = .next (s.answer 0x43 tag .ok
      (s.screenFields j ++ put1 (s.screen j).missCount ++ putYesNo (s.screen j).confirmOutstanding ++ [0xFF]
        ++ Config.orderSetField (pendingCodes (.screen j) s))))
    ∧ (∀ b : Byte, 68 ≤ b.toNat → exec (.getDisplay tag [b]) s = .next (s.answer 0x39 tag .badValue [])
        ∧ exec (.getSeat tag [b]) s = .next (s.answer 0x43 tag .badValue []))
    ∧ ∀ p : List Byte, p.length ≠ 1 → exec (.getDisplay tag p) s = .next (s.answer 0x39 tag .badLength [])
        ∧ exec (.getSeat tag p) s = .next (s.answer 0x43 tag .badLength []))

/-- GET_TIME reports whether the clock is set, and then the clock and the current minute, and changes nothing (R88,
R89). LIST reports, by start and then number, summaries of the first entries whose end is after the minute given, at
most 16, and whether there are more; its count is brought into 1 to 16; while the scan runs it is NOT_READY (R93,
R101). STORE_STATUS reports the engine state, the HALTED latch, whether a pass runs, the sectors ERASED, OPEN, FULL
and RETIRED, the free units, the corrected-unit count, the DAMAGED bookings and the last outcome, the counts as 0
while the scan runs; its clear flag then sets the corrected-unit count to 0. LINE_STATUS reports a line's settings,
state, fault cause, enumeration owed, findings, consecutive bit errors, idle count and failure counters; its clear
flag then sets the six counters to 0. Nothing else changes (R135, R155, R178). The bytes of replies that chapter 11
does not lay out, the line byte, the flag for more entries and the free numbers of engine states, line states and
causes are the model's reading (log entries 3, 8, 30 and 40). -/
def Obligations.TimeAndStatusReported : Prop :=
  (∀ (s : State) (tag : Byte), s.Ready →
    (exec (.getTime tag []) s = .next (s.answer 0x22 tag .ok
      (match s.clock with | none => [0] | some c => [1] ++ put4 c ++ put4 (c / 60))))
    ∧ (∀ p : List Byte, p ≠ [] → exec (.getTime tag p) s = .next (s.answer 0x22 tag .badLength []))
    ∧ (∀ (p : List Byte) (count : Nat), p.length = 5 → s.store.engine ≠ .scanning →
        count = (if num1 p 4 = 0 then 1 else if 16 < num1 p 4 then 16 else num1 p 4) →
        ∃ l : List IndexEntry,
          l.Perm (s.seq.index.filter fun e => decide (num4 p 0 < e.endMin))
          ∧ l.Pairwise (fun a b => a.startMin < b.startMin ∨ (a.startMin = b.startMin ∧ a.number ≤ b.number))
          ∧ exec (.listBookings tag p) s = .next (s.answer 0x23 tag (if count = num1 p 4 then .ok else .okClamped)
              (((l.take count).flatMap fun e => put2 e.number ++ put1 e.version ++ put1 (bookingNumber e.state)
                  ++ put4 e.startMin ++ put4 e.endMin ++ putText 40 e.title ++ put1 e.attendeeCount)
                ++ [if count < l.length then 1 else 0])))
    ∧ (∀ p : List Byte, p.length = 5 → s.store.engine = .scanning →
        exec (.listBookings tag p) s = .next (s.answer 0x23 tag .notReady []))
    ∧ ∀ p : List Byte, p.length ≠ 5 → exec (.listBookings tag p) s = .next (s.answer 0x23 tag .badLength []))
  ∧ (∀ (s : State) (tag : Byte), s.Ready →
    (∀ clear : Bool, exec (.storeStatus tag [if clear then 1 else 0]) s = .next
      (let t := s.answer 0x30 tag .ok
        ([Config.unnumbered .engineState (engineIndex s.store.engine)] ++ putYesNo s.store.latch
          ++ putYesNo (decide (s.store.pass ≠ none))
          ++ (if s.store.engine = .scanning then [0, 0, 0, 0, 0, 0]
              else put1 (s.sectorsIn .erased).length ++ put1 (s.sectorsIn .opened).length
                ++ put1 (s.sectorsIn .full).length ++ put1 (s.sectorsIn .retired).length ++ put2 s.freeUnits)
          ++ put2 s.store.corrected
          ++ put1 (if s.store.engine = .scanning then 0
              else (s.seq.index.filter fun e => decide (e.state = .damaged)).length)
          ++ put1 (resultNumber (storeOutcomeResult s.store.lastOutcome)))
      if clear then { t with store := { t.store with corrected := 0 } } else t))
    ∧ (∀ b : Byte, b ≠ 0 → b ≠ 1 → exec (.storeStatus tag [b]) s = .next (s.answer 0x30 tag .badValue []))
    ∧ (∀ p : List Byte, p.length ≠ 1 → exec (.storeStatus tag p) s = .next (s.answer 0x30 tag .badLength []))
    ∧ (∀ (l : LineId) (clear : Bool),
        exec (.lineStatus tag [match l with | .a => 0 | .b => 1, if clear then 1 else 0]) s = .next
      (let x := s.line l
        let t := s.answer 0x42 tag .ok
          (putYesNo x.enabled ++ put4 x.bitRate ++ put1 x.wakeDelimiter
            ++ [Config.unnumbered .lineState (lineStateIndex x.state)] ++ causeByte x.cause ++ putYesNo x.enumOwed
            ++ put1 x.seatsFound ++ screensByte x.screensFound ++ put1 x.consecutive ++ put1 x.idle
            ++ put2 x.counters.noResponse ++ put2 x.counters.incomplete ++ put2 x.counters.badCheck
            ++ put2 x.counters.orderMismatch ++ put2 x.counters.bitError ++ put2 x.counters.faults)
        if clear then t.setLine l { x with counters := ⟨0, 0, 0, 0, 0, 0⟩ } else t))
    ∧ (∀ a b : Byte, ((a ≠ 0 ∧ a ≠ 1) ∨ (b ≠ 0 ∧ b ≠ 1)) →
        exec (.lineStatus tag [a, b]) s = .next (s.answer 0x42 tag .badValue []))
    ∧ ∀ p : List Byte, p.length ≠ 2 → exec (.lineStatus tag p) s = .next (s.answer 0x42 tag .badLength []))

/-! ## Requests that set -/

/-- SET_ROOM in CONFIG with no START in flight puts the five settings in force, each of four brought into its range,
and returns them, OK_CLAMPED where one moved; SET_LINES there puts both lines' settings in force and returns them. In
RUN both are WRONG_STATE and with a START in flight BUSY; a role above 7, or a line value outside its list, is
BAD_VALUE before that, and a refusal changes nothing (R90, R156, R203, R212). The bytes of replies that chapter 11
does not lay out are the model's reading (log entry 40). -/
def Obligations.RoomAndLinesSetInConfig : Prop :=
  ∀ (s : State) (tag : Byte), s.Ready →
    (∀ (g lb w idle : Byte) (n : RoleId),
      let cut := fun (hi : Nat) (b : Byte) => min hi b.toNat
      let r : RoomSettings := ⟨cut 30 g, cut 30 lb, cut 15 w, max 1 (cut 60 idle), n⟩
      let p : List Byte := [g, lb, w, idle, BitVec.ofNat 8 n.val]
      exec (.setRoom tag p) s = .next
        (if s.link.run then s.answer 0x20 tag .wrongState []
         else if s.link.startTag ≠ none then s.answer 0x20 tag .busy []
         else State.answer 0x20 tag
          (if r = ⟨g.toNat, lb.toNat, w.toNat, idle.toNat, n⟩ then .ok else .okClamped)
          (put1 r.gap ++ put1 r.lobbyLead ++ put1 r.endWarning ++ put1 r.idleTime ++ put1 n.val)
          { s with seq := { s.seq with room := r } }))
    ∧ (∀ g lb w idle b : Byte, 8 ≤ b.toNat →
        exec (.setRoom tag [g, lb, w, idle, b]) s = .next (s.answer 0x20 tag .badValue []))
    ∧ (∀ p : List Byte, p.length ≠ 5 → exec (.setRoom tag p) s = .next (s.answer 0x20 tag .badLength []))
    ∧ (∀ (ea eb : Bool) (ra rb da db : Nat), (ra = 125000 ∨ ra = 250000) → (rb = 125000 ∨ rb = 250000) →
        (da = 2 ∨ da = 4 ∨ da = 8 ∨ da = 16) → (db = 2 ∨ db = 4 ∨ db = 8 ∨ db = 16) →
        let p := putYesNo ea ++ put4 ra ++ put1 da ++ putYesNo eb ++ put4 rb ++ put1 db
        exec (.setLines tag p) s = .next
          (if s.link.run then s.answer 0x40 tag .wrongState []
           else if s.link.startTag ≠ none then s.answer 0x40 tag .busy []
           else State.answer 0x40 tag .ok p { s with
             lineA := { s.lineA with enabled := ea, bitRate := ra, wakeDelimiter := da },
             lineB := { s.lineB with enabled := eb, bitRate := rb, wakeDelimiter := db } }))
    ∧ (∀ (p : List Byte) (at0 : Nat), p.length = 12 → (at0 = 0 ∨ at0 = 6) →
        ((byteAt p at0 ≠ 0 ∧ byteAt p at0 ≠ 1) ∨ (num4 p (at0 + 1) ≠ 125000 ∧ num4 p (at0 + 1) ≠ 250000)
          ∨ (num1 p (at0 + 5) ≠ 2 ∧ num1 p (at0 + 5) ≠ 4 ∧ num1 p (at0 + 5) ≠ 8 ∧ num1 p (at0 + 5) ≠ 16)) →
        exec (.setLines tag p) s = .next (s.answer 0x40 tag .badValue []))
    ∧ ∀ p : List Byte, p.length ≠ 12 → exec (.setLines tag p) s = .next (s.answer 0x40 tag .badLength [])

/-- ENABLE_FILTER sets an entry's enabled flag to yes and DISABLE_FILTER to no, in CONFIG and in RUN, each answering
OK also where the flag had that value, and BAD_VALUE for an entry number above 15; nothing else changes, so no card
role and no effective role does (R75). -/
def Obligations.FilterFlagSet : Prop :=
  ∀ (s : State) (tag : Byte), s.Ready →
    (∀ n : Fin 16,
      exec (.enableFilter tag [BitVec.ofNat 8 n.val]) s = .next (State.answer 0x1D tag .ok []
        { s with roles := { s.roles with
          filters := s.roles.filters.set n.val { s.roles.filters[n] with enabled := true } } })
      ∧ exec (.disableFilter tag [BitVec.ofNat 8 n.val]) s = .next (State.answer 0x1E tag .ok []
        { s with roles := { s.roles with
          filters := s.roles.filters.set n.val { s.roles.filters[n] with enabled := false } } }))
    ∧ (∀ b : Byte, 16 ≤ b.toNat →
        exec (.enableFilter tag [b]) s = .next (s.answer 0x1D tag .badValue [])
        ∧ exec (.disableFilter tag [b]) s = .next (s.answer 0x1E tag .badValue []))
    ∧ ∀ (r : RoleUnit) (i : SeatId), r.defs = s.roles.defs →
        ({ s with roles := r } : State).effRole i = s.effRole i
          ∧ ({ s with roles := r } : State).roleKey i = s.roleKey i

/-- SET_FILTER on a disabled entry stores its value, mask, length rule and role as given, leaves it disabled and
returns it; on an enabled entry it is LOCKED, and an entry number, role or length rule out of range is BAD_VALUE
before that. Nothing else changes. That ANY is read as 0xFF is the model's reading (log entry 8) (R74, R203). SET_ROLE
in CONFIG with no START in flight puts the definition in force, its band and lift brought into range, and returns it,
OK_CLAMPED where one moved; every unfrozen seat then has the targets of its rules under the new definitions. In RUN it
is WRONG_STATE and with a START in flight BUSY; a role above 7, a flag that is not yes or no, or an empty name is
BAD_VALUE before that (R61, R72, R203, R212). The bytes of replies that chapter 11 does not lay out are the model's
reading (log entry 40). -/
def Obligations.FilterAndRoleSet : Prop :=
  (∀ (s : State) (tag : Byte), s.Ready →
    (∀ (n : Fin 16) (value mask : List Byte) (rule : Option Nat) (role : RoleId), value.length = 8 →
      mask.length = 8 → (∀ k, rule = some k → 4 ≤ k ∧ k ≤ 16) →
      let f : FilterEntry := ⟨false, value, mask, rule, role⟩
      exec (.setFilter tag (put1 n.val ++ value ++ mask ++ putOptional rule ++ put1 role.val)) s = .next
        (if s.roles.filters[n].enabled then s.answer 0x1B tag .locked []
         else State.answer 0x1B tag .ok ([0] ++ value ++ mask ++ putOptional rule ++ put1 role.val)
          { s with roles := { s.roles with filters := s.roles.filters.set n.val f } }))
    ∧ (∀ p : List Byte, p.length = 19 →
        (16 ≤ num1 p 0 ∨ 8 ≤ num1 p 18 ∨ (byteAt p 17 ≠ 0xFF ∧ (num1 p 17 < 4 ∨ 16 < num1 p 17))) →
        exec (.setFilter tag p) s = .next (s.answer 0x1B tag .badValue []))
    ∧ ∀ p : List Byte, p.length ≠ 19 → exec (.setFilter tag p) s = .next (s.answer 0x1B tag .badLength []))
  ∧ (∀ (s : State) (tag : Byte), s.Ready →
    (∀ (n : RoleId) (name : Text) (band lift : Byte) (req speak chair : Bool) (pad : List Byte),
      name ≠ [] → name.length + pad.length = 12 → (∀ c ∈ name, 0x20 ≤ c ∧ c ≤ 0x7E) →
      let d : RoleDef := ⟨name, min 3 band.toNat, req, speak, chair, min 12 lift.toNat⟩
      let p := put1 n.val ++ put1 name.length ++ name ++ pad ++ [band] ++ putYesNo req ++ putYesNo speak
        ++ putYesNo chair ++ [lift]
      (s.link.run = true → exec (.setRole tag p) s = .next (s.answer 0x18 tag .wrongState []))
      ∧ (s.link.run = false → s.link.startTag ≠ none →
          exec (.setRole tag p) s = .next (s.answer 0x18 tag .busy []))
      ∧ (s.link.run = false → s.link.startTag = none → s.floor.isOpen = false → ∃ t,
          exec (.setRole tag p) s = .next t
          ∧ t.roles = { s.roles with defs := s.roles.defs.set n.val d }
          ∧ KeptBut [.roles, .seats, .screens, .transmitter, .marks] s t
          ∧ Answered 0x18 tag (if 3 < band.toNat ∨ 12 < lift.toNat then .okClamped else .ok)
              (putText 12 name ++ put1 d.band ++ putYesNo req ++ putYesNo speak ++ putYesNo chair
                ++ put1 d.lift) s t
          ∧ ∀ i : SeatId, (t.seat i).frozen = (s.seat i).frozen ∧ ((t.seat i).frozen = false →
              (t.seat i).targetMic = t.micTarget t.liveSeats i
              ∧ (t.seat i).targetSpeaker = t.speakerTarget t.liveSeats i)))
    ∧ (∀ p : List Byte, p.length = 19 →
        (8 ≤ num1 p 0 ∨ 2 ≤ num1 p 15 ∨ 2 ≤ num1 p 16 ∨ 2 ≤ num1 p 17 ∨ num1 p 1 = 0) →
        exec (.setRole tag p) s = .next (s.answer 0x18 tag .badValue []))
    ∧ ∀ p : List Byte, p.length ≠ 19 → exec (.setRole tag p) s = .next (s.answer 0x18 tag .badLength []))

/-- SET_SEAT_ROLE sets a seat's default role and its host-set mark, in either state, and returns the default with the
effective role that results; a seat above 63 or a role above 7 is BAD_VALUE and changes nothing (R73, R203). At a seat
whose card is HELD, or with no card and no roster loaded, the role set is the effective role, restricted where it has
no card and cards are required. While the floor is OPEN that acts on the seat's entry (R84, R85, R86, R87): a request
that may no longer stand is withdrawn with its refusal code, and one of another band placed again by it with its
arrival number; a speaker that may no longer speak is closed ROLE; one that becomes chair-class is unmuted with its
timing flags cleared, or closed LIMIT where two are; one that ceases to be stops holding and is closed LIMIT where
Smax others speak, and else is muted under the muting mark and checked against the speech limit (R45). SET_LABEL
stores a text as a seat's host label, the bytes outside 0x20 to 0x7E as 0x3F, or removes it where the text is empty,
and returns it with the label and its precedence; the floor and the levels are as they were, and a LABEL order is
pending where the seat is PRESENT or SILENT and its label differs from the one last sent. A seat above 63 is BAD_VALUE
(R142, R144, R146, R203, R204). The bytes of replies that chapter 11 does not lay out are the model's reading (log
entry 40). -/
def Obligations.SeatRoleAndLabelSet : Prop :=
  (∀ (s : State) (tag : Byte), s.Ready →
    (∀ (i : SeatId) (n : RoleId), ∃ t,
      exec (.setSeatRole tag [BitVec.ofNat 8 i.val, BitVec.ofNat 8 n.val]) s = .next t
      ∧ (t.seat i).defaultRole = n ∧ (t.seat i).hostSet = true
      ∧ (∀ j : SeatId, j ≠ i →
          (t.seat j).defaultRole = (s.seat j).defaultRole ∧ (t.seat j).hostSet = (s.seat j).hostSet)
      ∧ KeptBut [.floor, .log, .seats, .screens, .transmitter, .marks] s t
      ∧ Answered 0x1A tag .ok (put1 n.val ++ put1 (t.effRole i).number.val ++ putYesNo (t.effRole i).restricted) s t
      ∧ (s.floor.Sound → (s.seat i).card.state = .held → RoleGiven i ⟨n, false⟩ .notPermitted s t)
      ∧ (s.floor.Sound → ((s.seat i).card.state = .none ∨ (s.seat i).card.state = .reading) → s.seq.roster = none →
          let needed := s.floor.policy.cardsRequired
          RoleGiven i ⟨n, needed⟩ (if needed then .cardNeeded else .notPermitted) s t))
    ∧ (∀ a b : Byte, (64 ≤ a.toNat ∨ 8 ≤ b.toNat) →
        exec (.setSeatRole tag [a, b]) s = .next (s.answer 0x1A tag .badValue []))
    ∧ ∀ p : List Byte, p.length ≠ 2 → exec (.setSeatRole tag p) s = .next (s.answer 0x1A tag .badLength []))
  ∧ (∀ (s : State) (tag : Byte), s.Ready →
    (∀ (i : SeatId) (text pad : List Byte), text.length + pad.length = 24 → ∃ t,
      let stored : Text := text.map fun b => if 0x20 ≤ b ∧ b ≤ 0x7E then b else 0x3F
      exec (.setLabel tag (put1 i.val ++ put1 text.length ++ text ++ pad)) s = .next t
      ∧ (t.seat i).hostLabel = (if text = [] then none else some stored)
      ∧ (∀ j : SeatId, j ≠ i → (t.seat j).hostLabel = (s.seat j).hostLabel)
      ∧ (inService (s.seat i).presence = true → (t.seat i).labelSent ≠ some (t.labelOf i).1 →
          (t.seat i).marks.label = true)
      ∧ (∀ j : SeatId, (t.seat j).targetMic = (s.seat j).targetMic
          ∧ (t.seat j).targetSpeaker = (s.seat j).targetSpeaker)
      ∧ KeptBut [.seats, .screens, .transmitter] s t
      ∧ Answered 0x38 tag .ok (labelField (if text = [] then none else some stored)
          ++ putText 24 (t.labelOf i).1 ++ put1 (t.labelOf i).2) s t)
    ∧ (∀ p : List Byte, p.length = 26 → 64 ≤ num1 p 0 →
        exec (.setLabel tag p) s = .next (s.answer 0x38 tag .badValue []))
    ∧ ∀ p : List Byte, p.length ≠ 26 → exec (.setLabel tag p) s = .next (s.answer 0x38 tag .badLength []))

/-! ## Floor, log and level requests -/

/-- READ_LOG takes the oldest records out of the log, as many as asked for within 1 to 8, and returns them with the
number left and the dropped count, which is then 0; the LOG mark is cleared where the log becomes empty. A count out
of range gives OK_CLAMPED. Nothing else changes (R51, R52, R222). A record that joins the log goes to the tail; where
48 stand, the oldest is removed and the dropped count advances, to no more than 255, so that the log holds 48 again
(R50). -/
def Obligations.LogKeepsNewest : Prop :=
  (∀ (s : State) (tag : Byte), s.Ready →
    (∀ (b : Byte) (n : Nat), n = (if b.toNat = 0 then 1 else if 8 < b.toNat then 8 else b.toNat) →
      exec (.readLog tag [b]) s = .next (State.answer 0x08 tag (if n = b.toNat then .ok else .okClamped)
        (put1 (min n s.log.records.length) ++ put1 (s.log.records.length - n) ++ put1 s.log.dropped
          ++ (s.log.records.take n).flatMap fun r =>
            put2 r.booking ++ put1 r.seat.val ++ putOptional r.attendee ++ put4 r.openStamp ++ put2 r.duration
              ++ put1 (closeNumber r.reason) ++ put1 ((if r.overran then 1 else 0) + (if r.wasMuted then 2 else 0)))
        { s with
          log := ⟨s.log.records.drop n, 0⟩
          link := { s.link with marks := { s.link.marks with
            log := if s.log.records.length ≤ n then false else s.link.marks.log } } }))
    ∧ ∀ p : List Byte, p.length ≠ 1 → exec (.readLog tag p) s = .next (s.answer 0x08 tag .badLength []))
  ∧ (∀ (l : SpeechLog) (r : LogRecord),
    (l.records.length < 48 → l.push r = ⟨l.records ++ [r], l.dropped⟩)
    ∧ (∀ (old : LogRecord) (rest : List LogRecord), l.records = old :: rest → 48 ≤ l.records.length →
        l.push r = ⟨rest ++ [r], min 255 (l.dropped + 1)⟩))

/-- SET_LEVELS puts the six masters in force, each number brought into its range, and returns them, OK_CLAMPED where
one moved, in either state; every seat that is not frozen then has the targets of its rules under them. A value other
than on and off is BAD_VALUE and applies nothing (R54, R61, R203). SET_TRIM sets both trims of a seat, brought into
−24 to 24 and −12 to 12, whatever its presence, and returns them with the seat's targets after the recompute, those of
a frozen seat being as they were; OK_CLAMPED where one moved. A seat byte above 63 is BAD_VALUE (R55, R61, R68, R203).
The bytes of replies that chapter 11 does not lay out are the model's reading; the bytes of OFF and MUTE are free
values, and attenuation on is 1 (log entries 3, 40 and 49). -/
def Obligations.LevelsAndTrimSet : Prop :=
  (∀ (s : State) (tag : Byte), s.Ready →
    (∀ (mic base k1 k2 slew : Byte) (att : Bool),
      let m : Masters := ⟨min 48 mic.toNat, att, min 120 base.toNat, min 40 k1.toNat, min 40 k2.toNat,
        max 2 (min 24 slew.toNat)⟩
      ∃ t, exec (.setLevels tag [mic, if att then 1 else 0, base, k1, k2, slew]) s = .next t
        ∧ t.masters = m
        ∧ KeptBut [.masters, .seats, .transmitter] s t
        ∧ Answered 0x10 tag
            (if m = ⟨mic.toNat, att, base.toNat, k1.toNat, k2.toNat, slew.toNat⟩ then .ok else .okClamped)
            (put1 m.mic ++ putYesNo att ++ put1 m.base ++ put1 m.duck1 ++ put1 m.duck2 ++ put1 m.slew) s t
        ∧ ∀ i : SeatId, ((s.seat i).frozen = true → t.seat i = s.seat i)
          ∧ ((s.seat i).frozen = false → (t.seat i).targetMic = t.micTarget t.liveSeats i
              ∧ (t.seat i).targetSpeaker = t.speakerTarget t.liveSeats i
              ∧ (t.seat i).sentMic = (s.seat i).sentMic ∧ (t.seat i).sentSpeaker = (s.seat i).sentSpeaker
              ∧ (t.seat i).card = (s.seat i).card ∧ (t.seat i).presence = (s.seat i).presence))
    ∧ (∀ mic b base k1 k2 slew : Byte, b ≠ 0 → b ≠ 1 →
        exec (.setLevels tag [mic, b, base, k1, k2, slew]) s = .next (s.answer 0x10 tag .badValue []))
    ∧ ∀ p : List Byte, p.length ≠ 6 → exec (.setLevels tag p) s = .next (s.answer 0x10 tag .badLength []))
  ∧ (∀ (s : State) (tag : Byte), s.Ready →
    (∀ (i : SeatId) (a b : Byte),
      let t' : Int := max (-24) (min 24 a.toInt)
      let u' : Int := max (-12) (min 12 b.toInt)
      ∃ t, exec (.setTrim tag [BitVec.ofNat 8 i.val, a, b]) s = .next t
        ∧ (t.seat i).micTrim = t' ∧ (t.seat i).speakerTrim = u'
        ∧ (∀ j : SeatId, j ≠ i →
            (t.seat j).micTrim = (s.seat j).micTrim ∧ (t.seat j).speakerTrim = (s.seat j).speakerTrim)
        ∧ KeptBut [.seats, .transmitter] s t
        ∧ (∀ j : SeatId, ((s.seat j).frozen = true → (t.seat j).targetMic = (s.seat j).targetMic
              ∧ (t.seat j).targetSpeaker = (s.seat j).targetSpeaker)
            ∧ ((s.seat j).frozen = false → (t.seat j).targetMic = t.micTarget t.liveSeats j
              ∧ (t.seat j).targetSpeaker = t.speakerTarget t.liveSeats j))
        ∧ Answered 0x11 tag (if t' = a.toInt ∧ u' = b.toInt then .ok else .okClamped)
            (putSigned t' ++ putSigned u' ++ micByte (some (t.seat i).targetMic)
              ++ speakerByte (some (t.seat i).targetSpeaker)) s t)
    ∧ (∀ a b c : Byte, 64 ≤ a.toNat → exec (.setTrim tag [a, b, c]) s = .next (s.answer 0x11 tag .badValue []))
    ∧ ∀ p : List Byte, p.length ≠ 3 → exec (.setTrim tag p) s = .next (s.answer 0x11 tag .badLength []))

/-- GRANT opens the seat named, at once or out of the request list: where there is room for its class the entry joins
the speaker list at the tail with an elapsed count of 0, muted while the muting mark is set unless it is chair-class;
without room, an ordinary seat under REPLACE_OLDEST replaces the oldest ordinary entry, which is closed REPLACED. A
SPEAKING seat is OK as it is; a seat not in service is ABSENT, one not eligible NOT_PERMITTED, one without room FULL,
and then the lists and the log are as they were. The reply carries the seat's floor state (R8, R26, R27). The bytes of
replies that chapter 11 does not lay out are the model's reading; the number of a floor state is a free value, and the
entry's speech number is the model's (log entries 3, 5 and 40). -/
def Obligations.GrantOpensSeat : Prop :=
  ∀ (s : State) (tag : Byte), s.Ready →
    (∀ i : SeatId, s.floor.isOpen = true → s.floor.Sound →
      let chair := s.roles.defs[(s.effRole i).number].chairClass
      let entry : SpeakerEntry := ⟨i, s.floor.speechCount, s.clock.getD 0, 0, !chair && s.floor.muting,
        !chair && s.floor.muting, chair,
        !chair && decide (0 < s.floor.policy.speechLimit ∧ s.floor.policy.speechLimit ≤ s.floor.policy.warningLead),
        false⟩
      let r : Result :=
        if s.speaking i then .ok
        else if (s.seat i).presence ≠ .present ∧ (s.seat i).presence ≠ .silent then .absent
        else if s.eligibleToSpeak i = false then .notPermitted
        else if s.roomFor chair then .ok
        else if chair = false ∧ s.floor.policy.fullAction = .replaceOldest then .ok
        else .full
      ∃ t, exec (.grant tag [BitVec.ofNat 8 i.val]) s = .next t
        ∧ KeptBut [.floor, .log, .seats, .screens, .transmitter, .marks] s t
        ∧ Answered 0x01 tag r
            [Config.unnumbered .floorState (if t.speaking i then 2 else if t.requesting i then 1 else 0)] s t
        ∧ ((s.speaking i = true ∨ r ≠ .ok) → t.floor = s.floor ∧ t.log = s.log)
        ∧ (s.speaking i = false → r = .ok →
            t.floor.requests = s.floor.requests.filter (fun q => decide (q.seat ≠ i))
            ∧ (t.seat i).refusal = none ∧ t.floor.holders = s.floor.holders ∧ t.floor.policy = s.floor.policy
            ∧ (s.roomFor chair = true → t.floor.speakers = s.floor.speakers ++ [entry] ∧ t.log = s.log)
            ∧ (∀ old : SpeakerEntry, s.roomFor chair = false →
                s.floor.speakers.find? (fun e => !e.chairClass) = some old →
                t.floor.speakers = s.floor.speakers.filter (fun e => decide (e.seat ≠ old.seat)) ++ [entry]
                ∧ t.log = s.log.push (s.logRecord old .replaced))))
    ∧ (∀ i : SeatId, s.floor.isOpen = false →
        exec (.grant tag [BitVec.ofNat 8 i.val]) s = .next (s.answer 0x01 tag .wrongState []))
    ∧ (∀ b : Byte, 64 ≤ b.toNat → exec (.grant tag [b]) s = .next (s.answer 0x01 tag .badValue []))
    ∧ ∀ p : List Byte, p.length ≠ 1 → exec (.grant tag p) s = .next (s.answer 0x01 tag .badLength [])

/-- CLOSE closes the seat named, muted or chair-class or not, with one log record of reason HOST; it stops holding,
and the last release unmutes. After a chair-class entry, or in mode REQUEST without auto advance, nobody is advanced;
else the eligible head of the request list opens where there is room for its class. A seat that is not SPEAKING is
NOT_FOUND and nothing changes (R9, R13, R25, R26, R28). That a chair-class head is opened where a chair-class place is
free is the model's choice (log entry 61). -/
def Obligations.CloseClosesSeat : Prop :=
  ∀ (s : State) (tag : Byte), s.Ready →
    (∀ (i : SeatId) (e : SpeakerEntry), s.floor.isOpen = true → s.floor.Sound → e ∈ s.floor.speakers → e.seat = i →
      let rest := s.floor.speakers.filter fun x => decide (x.seat ≠ i)
      let held := s.floor.holders.filter fun j => decide (j ≠ i)
      let unmuted := rest.map fun x => if held = [] ∧ i ∈ s.floor.holders then { x with muted := false } else x
      ∃ t, exec (.close tag [BitVec.ofNat 8 i.val]) s = .next t
        ∧ KeptBut [.floor, .log, .seats, .screens, .transmitter, .marks] s t
        ∧ Answered 0x02 tag .ok [] s t
        ∧ t.log = s.log.push (s.logRecord e .host) ∧ t.speaking i = false ∧ t.floor.holders = held
        ∧ t.link.closeCount = min 255 (s.link.closeCount + 1) ∧ t.link.lastClose = some (i, .host)
        ∧ ((e.chairClass = true ∨ s.floor.requests = []
              ∨ (s.floor.policy.mode = .requestMode ∧ s.floor.policy.autoAdvance = false)) →
            t.floor.speakers = unmuted ∧ t.floor.requests = s.floor.requests)
        ∧ (∀ (r : RequestEntry) (others : List RequestEntry), e.chairClass = false →
            s.floor.requests = r :: others → s.eligibleToSpeak r.seat = true →
            (s.floor.policy.mode = .openMode ∨ s.floor.policy.autoAdvance = true) →
            (if s.roles.defs[(s.effRole r.seat).number].chairClass then classCount true s.floor.speakers < 2
              else classCount false s.floor.speakers ≤ s.floor.policy.smax) →
            t.floor.speakers.map (·.seat) = rest.map (·.seat) ++ [r.seat] ∧ t.floor.requests = others))
    ∧ (∀ i : SeatId, s.floor.isOpen = true → s.speaking i = false →
        exec (.close tag [BitVec.ofNat 8 i.val]) s = .next (s.answer 0x02 tag .notFound []))
    ∧ (∀ i : SeatId, s.floor.isOpen = false →
        exec (.close tag [BitVec.ofNat 8 i.val]) s = .next (s.answer 0x02 tag .wrongState []))
    ∧ (∀ b : Byte, 64 ≤ b.toNat → exec (.close tag [b]) s = .next (s.answer 0x02 tag .badValue []))
    ∧ ∀ p : List Byte, p.length ≠ 1 → exec (.close tag p) s = .next (s.answer 0x02 tag .badLength [])

/-- WITHDRAW takes the seat's entry out of the request list, the others keeping their order, and answers OK; a seat
that is not REQUESTING, a SPEAKING one included, is NOT_FOUND and nothing changes. Nobody is advanced (R11, R26, R29).
-/
def Obligations.WithdrawRemovesRequest : Prop :=
  ∀ (s : State) (tag : Byte), s.Ready →
    (∀ i : SeatId, s.floor.isOpen = true → s.requesting i = true → ∃ t,
      exec (.withdraw tag [BitVec.ofNat 8 i.val]) s = .next t
      ∧ t.floor = { s.floor with requests := s.floor.requests.filter fun r => decide (r.seat ≠ i) }
      ∧ t.requesting i = false ∧ (t.seat i).refusal = none
      ∧ KeptBut [.floor, .seats, .screens, .transmitter, .marks] s t
      ∧ Answered 0x03 tag .ok [] s t)
    ∧ (∀ i : SeatId, s.floor.isOpen = true → s.requesting i = false →
        exec (.withdraw tag [BitVec.ofNat 8 i.val]) s = .next (s.answer 0x03 tag .notFound []))
    ∧ (∀ i : SeatId, s.floor.isOpen = false →
        exec (.withdraw tag [BitVec.ofNat 8 i.val]) s = .next (s.answer 0x03 tag .wrongState []))
    ∧ (∀ b : Byte, 64 ≤ b.toNat → exec (.withdraw tag [b]) s = .next (s.answer 0x03 tag .badValue []))
    ∧ ∀ p : List Byte, p.length ≠ 1 → exec (.withdraw tag p) s = .next (s.answer 0x03 tag .badLength [])

/-- CLEAR_FLOOR empties the request list and closes every entry that is not chair-class with reason CLEAR, oldest
first, one log record each; the chair-class entries and the chair-priority state stay, and nobody is advanced (R26,
R30). SET_FLOOR puts the policy in force with its four numbers brought into their ranges and returns it, OK_CLAMPED
where one moved; no more ordinary entries than Smax remain. In mode REQUEST, with the timing and the card fields as
they were, the newest ordinary entries beyond Smax are closed LIMIT, newest first, and the requests stay. Where the
policy newly requires cards or closes the list, in mode REQUEST without auto advance, with the timing as it was and
nobody holding PRIORITY, each seat so restricted loses its request with CARD_NEEDED or NOT_PERMITTED, and then each of
those still speaking is closed ROLE, oldest first (R7, R84, R86). A field outside its values is BAD_VALUE before the
floor's being CLOSED is WRONG_STATE (R26, R31, R32, R220). -/
def Obligations.FloorClearedAndSet : Prop :=
  (∀ (s : State) (tag : Byte), s.Ready →
    (s.floor.isOpen = true → s.floor.Sound → ∃ t,
      exec (.clearFloor tag []) s = .next t
      ∧ t.floor = { s.floor with
          speakers := s.floor.speakers.filter fun e => e.chairClass
          requests := [] }
      ∧ t.log = (s.floor.speakers.filter fun e => !e.chairClass).foldl
          (fun l e => l.push (s.logRecord e .clear)) s.log
      ∧ KeptBut [.floor, .log, .seats, .screens, .transmitter, .marks] s t
      ∧ Answered 0x04 tag .ok [] s t)
    ∧ (s.floor.isOpen = false → exec (.clearFloor tag []) s = .next (s.answer 0x04 tag .wrongState []))
    ∧ ∀ p : List Byte, p ≠ [] → exec (.clearFloor tag p) s = .next (s.answer 0x04 tag .badLength []))
  ∧ (∀ (s : State) (tag : Byte), s.Ready →
    (∀ given : Policy, given.smax < 256 → given.speechLimit < 65536 → given.warningLead < 256 →
      given.allowance < 65536 →
      let inRange := fun lo hi n : Nat => max lo (min hi n)
      let p : Policy := { given with
        smax := inRange 1 6 given.smax
        speechLimit := if given.speechLimit = 0 then 0 else inRange 30 3600 given.speechLimit
        warningLead := min 120 given.warningLead
        allowance := if given.allowance = 0 then 0 else inRange 60 7200 given.allowance }
      (s.floor.isOpen = false →
        exec (.setFloor tag (putPolicy given)) s = .next (s.answer 0x05 tag .wrongState []))
      ∧ (s.floor.isOpen = true → s.floor.Sound → ∃ t,
          exec (.setFloor tag (putPolicy given)) s = .next t
          ∧ t.floor.policy = p ∧ t.floor.isOpen = true ∧ classCount false t.floor.speakers ≤ p.smax
          ∧ KeptBut [.floor, .log, .seats, .screens, .transmitter, .marks] s t
          ∧ Answered 0x05 tag (if p = given then .ok else .okClamped) (putPolicy p) s t
          ∧ (p.mode = .requestMode → p.speechLimit = s.floor.policy.speechLimit →
              p.warningLead = s.floor.policy.warningLead → p.atLimit = s.floor.policy.atLimit →
              p.allowance = s.floor.policy.allowance → p.cardsRequired = s.floor.policy.cardsRequired →
              p.closedList = s.floor.policy.closedList →
              let excess := ((s.floor.speakers.filter fun e => !e.chairClass).drop p.smax).reverse
              t.floor = { s.floor with
                policy := p
                speakers := s.floor.speakers.filter fun e => decide (e ∉ excess) }
              ∧ t.log = excess.foldl (fun l e => l.push (s.logRecord e .limit)) s.log)
          ∧ (p.mode = .requestMode → p.autoAdvance = false → p.speechLimit = s.floor.policy.speechLimit →
              p.warningLead = s.floor.policy.warningLead → p.atLimit = s.floor.policy.atLimit →
              p.allowance = s.floor.policy.allowance → s.floor.holders = [] →
              (s.floor.policy.cardsRequired = true → p.cardsRequired = true) →
              (s.floor.policy.closedList = true → p.closedList = true) →
              let noCard := fun i : SeatId =>
                decide ((s.seat i).card.state = .none ∨ (s.seat i).card.state = .reading)
              let barred := fun i : SeatId =>
                (noCard i && p.cardsRequired && !s.floor.policy.cardsRequired)
                  || (decide ((s.seat i).card.state = .unlisted) && p.closedList && !s.floor.policy.closedList)
              let excess := ((s.floor.speakers.filter fun e => !e.chairClass).drop p.smax).reverse
              let left := s.floor.speakers.filter fun e => decide (e ∉ excess)
              t.floor = { s.floor with
                policy := p
                requests := s.floor.requests.filter fun r => !barred r.seat
                speakers := left.filter fun e => !barred e.seat }
              ∧ t.log = (left.filter fun e => barred e.seat).foldl (fun l e => l.push (s.logRecord e .role))
                  (excess.foldl (fun l e => l.push (s.logRecord e .limit)) s.log)
              ∧ ∀ r ∈ s.floor.requests, barred r.seat = true →
                  (t.seat r.seat).refusal = some (if noCard r.seat then .cardNeeded else .notPermitted))))
    ∧ (∀ q : List Byte, q.length = 14 →
        (2 ≤ num1 q 0 ∨ 3 ≤ num1 q 2 ∨ 2 ≤ num1 q 3 ∨ 2 ≤ num1 q 4 ∨ 2 ≤ num1 q 8 ∨ 2 ≤ num1 q 11 ∨ 2 ≤ num1 q 12
          ∨ 2 ≤ num1 q 13) →
        exec (.setFloor tag q) s = .next (s.answer 0x05 tag .badValue []))
    ∧ ∀ q : List Byte, q.length ≠ 14 → exec (.setFloor tag q) s = .next (s.answer 0x05 tag .badLength []))

/-! ## The rules behind the floor and the levels -/

/-- A MIC press at a seat while the floor is OPEN: a SPEAKING seat is closed OWN, or, without own close, gets
NO_OWN_CLOSE; a REQUESTING seat is withdrawn; an IDLE seat in mode REQUEST is queued where it is eligible to request;
in mode OPEN an eligible IDLE seat opens where there is room for its class, and without room it gets FULL under
REFUSE, is queued under QUEUE, and under REPLACE_OLDEST replaces the oldest ordinary entry, which is closed REPLACED,
or gets FULL where it is chair-class. While the floor is CLOSED nothing happens (R17, R19, R20, R21). PRIORITY held by
a chair-class CHAIR unit that may speak and has room makes it a holder and opens it where it was not SPEAKING. Under
MUTE every ordinary entry is muted and stays, with its was-muted flag; under CANCEL the requests are emptied and the
ordinary entries closed. The last release unmutes every entry and leaves the was-muted flags (R23, R24, R25). NEXT at
a CHAIR unit gets NOT_PERMITTED unless its role is chair-class, and NONE_WAITING where nobody waits; else the eligible
head opens where there is room, or replaces the oldest ordinary entry, closed CHAIR, under REPLACE_OLDEST where the
head is ordinary, or the pressing seat gets FULL; an ineligible head is withdrawn with NOT_PERMITTED (R12, R22). A
change that alters the lists, the holders, the muting mark or the floor's state marks FLOOR (R14). That the timing
flags and elapsed counts are no such change is the model's reading (log entry 24). That a chair-class seat refused for
its role gets NOT_PERMITTED also where its attendee's allowance is used is the model's choice (log entry 54). -/
def Obligations.SeatKeysAct : Prop :=
  (∀ (s : State) (i : SeatId),
    (s.floor.isOpen = false → micPress i s = s)
    ∧ (s.floor.isOpen = true → s.floor.Sound → ∀ t, t = micPress i s →
      let chair := s.roles.defs[(s.effRole i).number].chairClass
      let idle : Prop := s.speaking i = false ∧ s.requesting i = false
      (s.speaking i = true → s.floor.policy.ownClose = true →
        t.speaking i = false ∧ t.requesting i = false ∧ ∃ e ∈ s.floor.speakers, e.seat = i
          ∧ t.log = s.log.push (s.logRecord e .own))
      ∧ (s.speaking i = true → s.floor.policy.ownClose = false →
          t.floor = s.floor ∧ t.log = s.log ∧ (t.seat i).refusal = some .noOwnClose)
      ∧ (s.requesting i = true →
          t.floor = { s.floor with requests := s.floor.requests.filter fun r => decide (r.seat ≠ i) }
          ∧ t.log = s.log ∧ (t.seat i).refusal = none)
      ∧ (idle → s.floor.policy.mode = .requestMode → s.eligibleToRequest i = true →
          s.floor.requests.length < 24 →
          t.requesting i = true ∧ t.position i ≠ none ∧ t.floor.speakers = s.floor.speakers
          ∧ t.floor.arrivalCounter = (s.floor.arrivalCounter + 1) % 65536 ∧ (t.seat i).refusal = none)
      ∧ (idle → s.floor.policy.mode = .requestMode → s.eligibleToRequest i = true →
          24 ≤ s.floor.requests.length →
          t.floor = s.floor ∧ (t.seat i).refusal = some .queueFull)
      ∧ (idle → s.floor.policy.mode = .openMode → s.eligibleToSpeak i = true → s.roomFor chair = true →
          t.speaking i = true ∧ t.floor.requests = s.floor.requests ∧ (t.seat i).refusal = none
          ∧ ∃ e : SpeakerEntry, e.seat = i ∧ e.elapsed = 0 ∧ e.chairClass = chair
            ∧ t.floor.speakers = s.floor.speakers ++ [e])
      ∧ (idle → s.floor.policy.mode = .openMode → s.eligibleToSpeak i = true → s.roomFor chair = false →
          s.floor.policy.fullAction = .refuse →
          t.floor = s.floor ∧ (t.seat i).refusal = some .full)
      ∧ (idle → s.floor.policy.mode = .openMode → s.eligibleToSpeak i = true → s.roomFor chair = false →
          s.floor.policy.fullAction = .queue → s.eligibleToRequest i = true → s.floor.requests.length < 24 →
          t.requesting i = true ∧ t.floor.speakers = s.floor.speakers)
      ∧ (idle → s.floor.policy.mode = .openMode → s.eligibleToSpeak i = true → s.roomFor chair = false →
          s.floor.policy.fullAction = .replaceOldest →
          (chair = true → t.floor = s.floor ∧ t.log = s.log ∧ (t.seat i).refusal = some .full)
          ∧ ∀ old : SpeakerEntry, chair = false → s.floor.speakers.find? (fun e => !e.chairClass) = some old →
              t.speaking i = true ∧ t.floor.requests = s.floor.requests
              ∧ t.log = s.log.push (s.logRecord old .replaced)
              ∧ ∃ e : SpeakerEntry, e.seat = i ∧ e.elapsed = 0 ∧ e.chairClass = false
                ∧ t.floor.speakers = s.floor.speakers.filter (fun x => decide (x.seat ≠ old.seat)) ++ [e])
      ∧ (idle → s.eligibleToSpeak i = false → s.floor.policy.mode = .openMode →
          t.floor = s.floor ∧ (t.seat i).refusal = some (s.refusalFor i))))
  ∧ ((∀ (s : State) (i : SeatId), s.floor.isOpen = true → s.floor.Sound → (s.seat i).kind = some .chair →
    s.roles.defs[(s.effRole i).number].chairClass = true → s.eligibleToSpeak i = true →
    (s.speaking i = true ∨ s.roomFor true = true) →
    (∀ e ∈ s.floor.speakers, e.seat = i → e.chairClass = true) →
    let t := priorityHeld i s
    i ∈ t.floor.holders ∧ t.speaking i = true
    ∧ (s.floor.policy.priorityAction = .mute →
        t.floor.muting = true ∧ t.log = s.log
        ∧ (∀ e ∈ t.floor.speakers, e.chairClass = false → e.muted = true ∧ e.wasMuted = true)
        ∧ (∀ e ∈ s.floor.speakers, ∃ e' ∈ t.floor.speakers, e'.seat = e.seat ∧ e'.elapsed = e.elapsed)
        ∧ t.floor.requests = s.floor.requests.filter fun r => decide (r.seat ≠ i))
    ∧ (s.floor.policy.priorityAction = .cancel →
        t.floor.requests = [] ∧ (∀ e ∈ t.floor.speakers, e.chairClass = true)
        ∧ t.floor.muting = s.floor.muting))
  ∧ (∀ (s : State) (i : SeatId), s.floor.isOpen = true → s.floor.Sound → (s.seat i).kind = some .chair →
      s.floor.holders = [i] →
      (priorityReleased i s).floor = { s.floor with
        holders := [], muting := false, speakers := s.floor.speakers.map fun e => { e with muted := false } })
  ∧ ∀ (s : State) (i : SeatId), (s.seat i).kind ≠ some .chair →
      priorityHeld i s = s ∧ priorityReleased i s = s ∧ nextPress i s = s)
  ∧ (∀ (s : State) (i : SeatId), s.floor.isOpen = true → s.floor.Sound → (s.seat i).kind = some .chair →
    ∀ t, t = nextPress i s →
    let kept : Prop := t.floor = s.floor ∧ t.log = s.log
    let classOf := fun j : SeatId => s.roles.defs[(s.effRole j).number].chairClass
    (classOf i = false → kept ∧ (t.seat i).refusal = some .notPermitted)
    ∧ (classOf i = true → s.floor.requests = [] → kept ∧ (t.seat i).refusal = some .noneWaiting)
    ∧ (∀ r : RequestEntry, classOf i = true → s.floor.requests = [r] → s.eligibleToSpeak r.seat = false →
        t.floor = { s.floor with requests := [] } ∧ t.log = s.log ∧ (t.seat i).refusal = some .noneWaiting
        ∧ (r.seat ≠ i → (t.seat r.seat).refusal = some .notPermitted))
    ∧ ∀ (r : RequestEntry) (rest : List RequestEntry), classOf i = true → s.floor.requests = r :: rest →
        s.eligibleToSpeak r.seat = true →
        let opened := fun before : List SpeakerEntry => t.floor.requests = rest ∧ (t.seat i).refusal = none
          ∧ ∃ e : SpeakerEntry, e.seat = r.seat ∧ e.elapsed = 0 ∧ e.chairClass = classOf r.seat
            ∧ t.floor.speakers = before ++ [e]
        (s.roomFor (classOf r.seat) = true → opened s.floor.speakers ∧ t.log = s.log)
        ∧ (s.roomFor (classOf r.seat) = false →
            (s.floor.policy.fullAction ≠ .replaceOldest ∨ classOf r.seat = true) →
            kept ∧ (t.seat i).refusal = some .full)
        ∧ (∀ old : SpeakerEntry, s.roomFor (classOf r.seat) = false → classOf r.seat = false →
            s.floor.policy.fullAction = .replaceOldest →
            s.floor.speakers.find? (fun e => !e.chairClass) = some old →
            opened (s.floor.speakers.filter fun x => decide (x.seat ≠ old.seat))
              ∧ t.log = s.log.push (s.logRecord old .chair)))
  ∧ ∀ (s t : State) (f : State → State), t = change f s →
      (t.floor.isOpen ≠ s.floor.isOpen ∨ t.floor.requests ≠ s.floor.requests
        ∨ t.floor.holders ≠ s.floor.holders ∨ t.floor.muting ≠ s.floor.muting
        ∨ t.floor.speakers.map (fun e => (e.seat, e.speech, e.muted, e.chairClass))
          ≠ s.floor.speakers.map (fun e => (e.seat, e.speech, e.muted, e.chairClass))) →
      t.link.marks.floor = true

/-- A recompute gives every seat that is not frozen its targets: a live seat the gain M + t + lift − A(N), a seat that
is not live OFF; and the code B − u, raised by K1 at distance 1 from the nearest live seat and by K2 at distance 2, or
MUTE exactly where the seat is live. Sums are clamped once, to 0 to 84 and to 0 to 120. A frozen seat and all but the
seats stay as they were (R57, R58, R60, R61, R68). The distance of two seats is the difference of their positions, and
one more across the table; a seat is at distance 0 from itself, and one facing it at distance 1 (R59). A GAIN order
carries the target where the gain sent is no further from it than the slew step, and otherwise the gain sent moved
toward it by exactly the slew step: repeated from any gain, the steps reach the target and never pass it (R64). -/
def Obligations.LevelsFollowRules : Prop :=
  (∀ (s : State) (i : SeatId),
    let t := recompute s
    let live := (s.floor.speakers.filter fun e => !e.muted).map (·.seat)
    let a : Nat := if s.masters.attenuation then ([0, 0, 6, 10, 12, 14, 16, 17, 18].getD live.length 18) else 0
    let clamp := fun (hi : Int) (x : Int) => (max 0 (min hi x)).toNat
    KeptBut [.seats] s t
    ∧ ((s.seat i).frozen = true → t.seat i = s.seat i)
    ∧ ((s.seat i).frozen = false →
        (i ∈ live → (t.seat i).targetSpeaker = .mute
          ∧ (t.seat i).targetMic = .gain (clamp 84 ((s.masters.mic : Int) + (s.seat i).micTrim
              + s.roles.defs[(s.effRole i).number].lift - a)))
        ∧ (i ∉ live → (t.seat i).targetMic = .off
          ∧ ∀ d : Nat, (∀ j ∈ live, d ≤ seatDistance i j) → (d < 3 → ∃ j ∈ live, seatDistance i j = d) →
            d ≤ 3 → (t.seat i).targetSpeaker = .code (clamp 120 ((s.masters.base : Int) - (s.seat i).speakerTrim
              + (if d = 1 then s.masters.duck1 else if d = 2 then s.masters.duck2 else 0))))))
  ∧ ((∀ (x y : LineId) (i j : Nat), 1 ≤ i → i ≤ 32 → 1 ≤ j → j ≤ 32 →
    (seatDistance (seatAtPosition x i) (seatAtPosition y j) : Int)
      = |(i : Int) - (j : Int)| + (if x = y then 0 else 1))
  ∧ (∀ i : SeatId, seatDistance i i = 0)
  ∧ (∀ i j k : SeatId, seatDistance i k ≤ seatDistance i j + seatDistance j k))
  ∧ (∀ slew sent target : Nat,
    (target ≤ sent + slew → sent ≤ target + slew → gainStep slew sent target = target)
    ∧ (sent + slew < target → gainStep slew sent target = sent + slew)
    ∧ (target + slew < sent → gainStep slew sent target = sent - slew))
  ∧ (∀ slew sent target : Nat, 0 < slew →
    (min sent target ≤ gainStep slew sent target ∧ gainStep slew sent target ≤ max sent target)
    ∧ ((gainStep slew sent target : Int) - sent ≤ slew ∧ (sent : Int) - gainStep slew sent target ≤ slew)
    ∧ ∃ n : Nat, (fun g => gainStep slew g target)^[n] sent = target)

/-! ## Clock, bookings and meetings -/

/-- SET_TIME puts the clock at the value given, of any four bytes, in either state and while the scan runs. Where the
scan runs, or no booking is known and none current, it is answered OK with the clock and the minute in force, and of
the rest only these change: the mark of a screen's clock item, which may become set; the mark that a resume is owed,
which the evaluation takes up in RUN; and on a RUNNING line the minute last counted, the idle count, which goes up by
the minutes since that minute and is 0 during a meeting, and a sleep that it makes due (R88, R89, R103, R110, R151,
R168, R169). The bytes of replies that chapter 11 does not lay out are the model's reading (log entry 40). -/
def Obligations.TimeSet : Prop :=
  ∀ (s : State) (tag : Byte), s.Ready →
    (∀ v : Nat, v < 4294967296 →
      ∃ t, exec (.setTime tag (put4 v)) s = .next t ∧ t.clock = some v
        ∧ ((s.store.engine = .scanning ∨ (s.seq.index = [] ∧ s.seq.current = none)) →
            KeptBut [.clock, .screens, .sequencer, .lineA, .lineB, .transmitter] s t
            ∧ t.seq = { s.seq with
                resumeMark := if s.store.engine ≠ .scanning ∧ s.link.run = true then false else s.seq.resumeMark }
            ∧ (∀ j : ScreenId, t.screen j = { s.screen j with itemMarks := (t.screen j).itemMarks }
                ∧ (∀ i : Fin 16, i ≠ 1 → (t.screen j).itemMarks[i] = (s.screen j).itemMarks[i])
                ∧ ((s.screen j).itemMarks[1] = true → (t.screen j).itemMarks[1] = true))
            ∧ (∀ l : LineId, let x := s.line l
                let idle := if ∃ m ∈ s.seq.current, m.phase ≠ .loading then 0 else match x.minuteLast with
                  | none => x.idle
                  | some m => if m < v / 60 then min 60 (x.idle + (v / 60 - m)) else x.idle
                (x.state ≠ .running → t.line l = x)
                ∧ (x.state = .running → idle < s.seq.room.idleTime →
                    t.line l = { x with idle := idle, minuteLast := some (v / 60) })
                ∧ (x.state = .running → s.seq.room.idleTime ≤ idle → x.activity ≠ .none →
                    t.line l = { x with idle := idle, minuteLast := some (v / 60), sleepDue := true })
                ∧ (x.state = .running → s.seq.room.idleTime ≤ idle → x.activity = .none →
                    t.line l = { x with
                      idle := idle, minuteLast := some (v / 60), sleepDue := true
                      activity := .exchange .sleep, begun := false }))
            ∧ Answered 0x21 tag .ok (put4 v ++ put4 (v / 60)) s t))
    ∧ ∀ p : List Byte, p.length ≠ 4 → exec (.setTime tag p) s = .next (s.answer 0x21 tag .badLength [])

/-- BOOK, its form right: the checks in order are the scan, a change in flight, the clock, the length, the start, the
conflict with the earliest start, room in the index and the HALTED latch, each with its result. When all pass, the
change is in flight under the next number with the policy brought into range, the version-1 record is handed to the
store, and the reply waits; nothing else changes (R91, R92, R93, R94, R95, R96, R220). That a change refused at its
checks makes no evaluation is the model's choice (log entry 50). -/
def Obligations.BookChecksThenPrograms : Prop :=
  ∀ (s : State) (tag : Byte) (d : BookingData), s.Ready → d.Carried →
    let refused := fun (r : Result) (body : List Byte) =>
      exec (.book tag (putBooking d)) s = .next (s.answer 0x28 tag r body)
    let d' : BookingData := { d with policy := clampPolicy d.policy }
    (s.store.engine = .scanning → refused .notReady [])
    ∧ (s.store.engine ≠ .scanning → s.seq.change ≠ none → refused .busy [])
    ∧ (s.store.engine ≠ .scanning → s.seq.change = none →
        (s.clock = none → refused .noTime [])
        ∧ ∀ c : Nat, s.clock = some c →
          ((d.endMin < d.startMin + 5 ∨ d.startMin + 720 < d.endMin) → refused .badValue [])
          ∧ (d.startMin + 5 ≤ d.endMin → d.endMin ≤ d.startMin + 720 →
              (d.startMin < c / 60 + 1 → refused .tooLate [])
              ∧ (c / 60 + 259200 < d.startMin → refused .badValue [])
              ∧ (c / 60 + 1 ≤ d.startMin → d.startMin ≤ c / 60 + 259200 →
                  (∀ e : IndexEntry, s.conflict none d.startMin d.endMin = some e →
                    refused .conflict (put2 e.number ++ put4 e.startMin ++ put4 e.endMin))
                  ∧ (s.conflict none d.startMin d.endMin = none →
                      (s.roomForBooking = none → refused .full [])
                      ∧ ∀ evict : Option Nat, s.roomForBooking = some evict →
                        (s.store.latch = true → refused .storeHalted [])
                        ∧ (s.store.latch = false → s.CanProgram (8 + 3 * d.attendees.length) →
                            ∃ t, exec (.book tag (putBooking d)) s = .next t
                              ∧ t.seq = { s.seq with change := some ⟨.book, tag, s.nextNumber, d',
                                  decide (d'.policy ≠ d.policy), evict⟩ }
                              ∧ HandedOn ⟨.change, s.nextNumber, 1, .booking d', none, [], false, false, false⟩ s t
                              ∧ KeptBut [.sequencer, .store, .transmitter] s t ∧ Deferred s t)))))

/-- BOOK and AMEND with a payload that is not 89, or 91, and 44 bytes for each attendee it counts are BAD_LENGTH; one
that fits its count but counts more than 24, or gives the title or any attendee no character, is BAD_VALUE once the
checks before it pass: the scan and a change in flight, and for AMEND the booking known, PENDING and not loading (R91,
R98, R203, R221). Two windows conflict under the gap g when each starts before the other ends with the gap; the
booking named by a CONFLICT holds its window, conflicts, is not the one left out, and no other such booking starts
earlier; without one, no booking of the index is such (R92, R95). That a change refused at its checks makes no
evaluation is the model's choice (log entry 50). -/
def Obligations.BookingJudged : Prop :=
  (∀ (s : State) (tag : Byte) (p : List Byte), s.Ready →
    ((p.length < 89 ∨ p.length ≠ 89 + 44 * num1 p 88) →
      exec (.book tag p) s = .next (s.answer 0x28 tag .badLength []))
    ∧ ((p.length < 91 ∨ p.length ≠ 91 + 44 * num1 p 90) →
        exec (.amend tag p) s = .next (s.answer 0x2A tag .badLength []))
    ∧ (p.length = 89 + 44 * num1 p 88 → s.store.engine ≠ .scanning → s.seq.change = none →
        (24 < num1 p 88 ∨ num1 p 8 = 0 ∨ ∃ k < num1 p 88, num1 p (89 + 44 * k) = 0) →
        exec (.book tag p) s = .next (s.answer 0x28 tag .badValue []))
    ∧ (∀ e : IndexEntry, p.length = 91 + 44 * num1 p 90 → s.store.engine ≠ .scanning → s.seq.change = none →
        s.entry (num2 p 0) = some e → e.state = .pending →
        (∀ m, s.seq.current = some m → m.number = num2 p 0 → m.phase ≠ .loading) →
        (24 < num1 p 90 ∨ num1 p 10 = 0 ∨ ∃ k < num1 p 90, num1 p (91 + 44 * k) = 0) →
        exec (.amend tag p) s = .next (s.answer 0x2A tag .badValue [])))
  ∧ (∀ (s : State) (except : Option Nat) (a b : Nat),
    let hit := fun e : IndexEntry => e.state ≠ .done ∧ e.state ≠ .missed ∧ e.state ≠ .cancelled
      ∧ except ≠ some e.number ∧ a < e.endMin + s.seq.room.gap ∧ e.startMin < b + s.seq.room.gap
    (∀ e, s.conflict except a b = some e →
      e ∈ s.seq.index ∧ hit e ∧ ∀ x ∈ s.seq.index, hit x → e.startMin ≤ x.startMin)
    ∧ (s.conflict except a b = none ↔ ∀ x ∈ s.seq.index, ¬ hit x))

/-- WALK_IN makes a booking titled "Walk-in" that starts now, of the duration given and under the walk-in defaults:
after the scan, the change in flight and the clock, a duration outside 5 to 720 is BAD_VALUE, a current meeting or an
overlap is CONFLICT, and otherwise the checks of room and latch follow and its record is handed to the store (R93,
R94, R97). That a change refused at its checks makes no evaluation is the model's choice (log entry 50). -/
def Obligations.WalkInStartsNow : Prop :=
  ∀ (s : State) (tag : Byte) (minutes : Nat), s.Ready → minutes < 65536 →
    let refused := fun (r : Result) (body : List Byte) =>
      exec (.walkIn tag (put2 minutes)) s = .next (s.answer 0x29 tag r body)
    (s.store.engine = .scanning → refused .notReady [])
    ∧ (s.store.engine ≠ .scanning → s.seq.change ≠ none → refused .busy [])
    ∧ (s.store.engine ≠ .scanning → s.seq.change = none → s.clock = none → refused .noTime [])
    ∧ (s.store.engine ≠ .scanning → s.seq.change = none → ∀ c : Nat, s.clock = some c →
        ((minutes < 5 ∨ 720 < minutes) → refused .badValue [])
        ∧ (5 ≤ minutes → minutes ≤ 720 →
            let d : BookingData := ⟨c / 60, c / 60 + minutes, [0x57, 0x61, 0x6C, 0x6B, 0x2D, 0x69, 0x6E], [],
              ⟨.openMode, 4, .queue, false, true, 0, 30, .warn, 0, false, false, .mute⟩, []⟩
            (∀ (m : Current) (e : IndexEntry), s.seq.current = some m → s.entry m.number = some e →
              refused .conflict (put2 e.number ++ put4 e.startMin ++ put4 e.endMin))
            ∧ (s.seq.current = none →
                (∀ e : IndexEntry, s.conflict none d.startMin d.endMin = some e →
                  refused .conflict (put2 e.number ++ put4 e.startMin ++ put4 e.endMin))
                ∧ (s.conflict none d.startMin d.endMin = none →
                    (s.roomForBooking = none → refused .full [])
                    ∧ ∀ evict : Option Nat, s.roomForBooking = some evict →
                      (s.store.latch = true → refused .storeHalted [])
                      ∧ (s.store.latch = false → s.CanProgram 8 → ∃ t,
                          exec (.walkIn tag (put2 minutes)) s = .next t
                          ∧ t.seq = { s.seq with change := some ⟨.walkIn, tag, s.nextNumber, d, false, evict⟩ }
                          ∧ HandedOn ⟨.change, s.nextNumber, 1, .booking d, none, [], false, false, false⟩ s t
                          ∧ KeptBut [.sequencer, .store, .transmitter] s t ∧ Deferred s t)))))
    ∧ ∀ p : List Byte, p.length ≠ 2 → exec (.walkIn tag p) s = .next (s.answer 0x29 tag .badLength [])

/-- AMEND of a PENDING booking, its form and its new window right, hands the record of the next version to the store
and holds the booking; an unknown number is NOT_FOUND, a booking in another state or loading WRONG_STATE, one at
version 255 FULL, and a HALTED store STORE_HALTED. The overlap test leaves out the booking itself (R93, R95, R98).
CANCEL of a PENDING, LOBBY or DAMAGED booking hands its STATE record CANCELLED to the store and holds the booking,
which keeps its state until the record is programmed; an IN_SESSION or settled booking is WRONG_STATE, an unknown
number NOT_FOUND (R93, R99). That a change refused at its checks makes no evaluation is the model's choice (log entry
50). -/
def Obligations.AmendAndCancelHold : Prop :=
  (∀ (s : State) (tag : Byte) (n : Nat) (d : BookingData), s.Ready → n < 65536 → d.Carried →
    s.store.engine ≠ .scanning →
    let refused := fun (r : Result) (body : List Byte) =>
      exec (.amend tag (put2 n ++ putBooking d)) s = .next (s.answer 0x2A tag r body)
    let d' : BookingData := { d with policy := clampPolicy d.policy }
    (s.seq.change ≠ none → refused .busy [])
    ∧ (s.seq.change = none → s.entry n = none → refused .notFound [])
    ∧ (s.seq.change = none → ∀ e : IndexEntry, s.entry n = some e →
        ((e.state ≠ .pending ∨ ∃ m, s.seq.current = some m ∧ m.number = n ∧ m.phase = .loading) →
          refused .wrongState [])
        ∧ (e.state = .pending → (∀ m, s.seq.current = some m → m.number ≠ n) →
            ∀ c : Nat, s.clock = some c → d.startMin + 5 ≤ d.endMin → d.endMin ≤ d.startMin + 720 →
            c / 60 + 1 ≤ d.startMin → d.startMin ≤ c / 60 + 259200 →
            (∀ x : IndexEntry, s.conflict (some n) d.startMin d.endMin = some x →
              refused .conflict (put2 x.number ++ put4 x.startMin ++ put4 x.endMin))
            ∧ (s.conflict (some n) d.startMin d.endMin = none →
                (255 ≤ e.version → refused .full [])
                ∧ (e.version < 255 → s.store.latch = true → refused .storeHalted [])
                ∧ (e.version < 255 → s.store.latch = false → s.CanProgram (8 + 3 * d.attendees.length) →
                    ∃ t, exec (.amend tag (put2 n ++ putBooking d)) s = .next t
                      ∧ t.seq = { s.seq with change := some ⟨.amend, tag, n, d',
                          decide (d'.policy ≠ d.policy), none⟩ }
                      ∧ HandedOn ⟨.change, n, e.version + 1, .booking d', none, [], false, false, false⟩ s t
                      ∧ KeptBut [.sequencer, .store, .transmitter] s t ∧ Deferred s t)))))
  ∧ (∀ (s : State) (tag : Byte), s.Ready →
    (∀ n : Nat, n < 65536 →
      let refused := fun r : Result => exec (.cancel tag (put2 n)) s = .next (s.answer 0x2B tag r [])
      (s.store.engine = .scanning → refused .notReady)
      ∧ (s.store.engine ≠ .scanning → s.seq.change ≠ none → refused .busy)
      ∧ (s.store.engine ≠ .scanning → s.seq.change = none → s.entry n = none → refused .notFound)
      ∧ (s.store.engine ≠ .scanning → s.seq.change = none → ∀ e : IndexEntry, s.entry n = some e →
          ((e.state = .inSession ∨ e.state = .done ∨ e.state = .missed ∨ e.state = .cancelled) →
            refused .wrongState)
          ∧ ((e.state = .pending ∨ e.state = .lobby ∨ e.state = .damaged) →
              (s.store.latch = true → refused .storeHalted)
              ∧ (s.store.latch = false → s.CanProgram 1 → ∃ t,
                  exec (.cancel tag (put2 n)) s = .next t
                  ∧ (∃ d, t.seq = { s.seq with change := some ⟨.cancel, tag, n, d, false, none⟩ })
                  ∧ HandedOn ⟨.change, n, e.version, .state .cancelled, none, [], false, false, false⟩ s t
                  ∧ KeptBut [.sequencer, .store, .transmitter] s t ∧ Deferred s t))))
    ∧ ∀ p : List Byte, p.length ≠ 2 → exec (.cancel tag p) s = .next (s.answer 0x2B tag .badLength []))

/-- EXTEND moves the end of the IN_SESSION booking by 1 to 240 minutes: without such a booking it is WRONG_STATE,
beyond 720 minutes of length BAD_VALUE, in the way of another booking CONFLICT, at version 255 FULL; otherwise the
record's read is asked, behind the reads before it and suspending an erase, and the change is in flight (R93, R95,
R112, R123, R125). GET_BOOKING of a known number asks the read of its record, behind the reads before it and
suspending an erase, and its reply waits; nothing else changes. An unknown number is NOT_FOUND, and while the scan
runs it is NOT_READY (R100, R123, R125). That a change refused at its checks makes no evaluation is the model's choice
(log entry 50). -/
def Obligations.RecordsAreRead : Prop :=
  (∀ (s : State) (tag : Byte), s.Ready →
    (∀ (b : Byte) (minutes : Nat), s.store.engine ≠ .scanning → s.seq.change = none →
      minutes = (if b.toNat = 0 then 1 else if 240 < b.toNat then 240 else b.toNat) →
      let refused := fun (r : Result) (body : List Byte) =>
        exec (.extend tag [b]) s = .next (s.answer 0x2C tag r body)
      ((∀ m, s.seq.current = some m → m.phase ≠ .inSession) → refused .wrongState [])
      ∧ ∀ (m : Current) (e : IndexEntry), s.seq.current = some m → m.phase = .inSession →
          s.entry m.number = some e →
          (e.startMin + 720 < e.endMin + minutes → refused .badValue [])
          ∧ (e.endMin + minutes ≤ e.startMin + 720 →
              (∀ x : IndexEntry, s.conflict (some e.number) e.startMin (e.endMin + minutes) = some x →
                refused .conflict (put2 x.number ++ put4 x.startMin ++ put4 x.endMin))
              ∧ (s.conflict (some e.number) e.startMin (e.endMin + minutes) = none →
                  (255 ≤ e.version → refused .full [])
                  ∧ (e.version < 255 → s.store.latch = true → refused .storeHalted [])
                  ∧ (e.version < 255 → s.store.latch = false → ∃ t, exec (.extend tag [b]) s = .next t
                      ∧ (∃ d : BookingData, d.endMin = e.endMin + minutes ∧ t.seq = { s.seq with
                          change := some ⟨.extend, tag, e.number, d, decide (minutes ≠ b.toNat), none⟩ })
                      ∧ t.store = { s.store with
                          reads := s.store.reads ++ [.extend e.number]
                          engine := if s.store.engine = .erasing then .suspended else s.store.engine }
                      ∧ KeptBut [.sequencer, .store, .transmitter] s t ∧ Deferred s t))))
    ∧ (∀ b : Byte, s.store.engine = .scanning →
        exec (.extend tag [b]) s = .next (s.answer 0x2C tag .notReady []))
    ∧ (∀ b : Byte, s.store.engine ≠ .scanning → s.seq.change ≠ none →
        exec (.extend tag [b]) s = .next (s.answer 0x2C tag .busy []))
    ∧ ∀ p : List Byte, p.length ≠ 1 → exec (.extend tag p) s = .next (s.answer 0x2C tag .badLength []))
  ∧ (∀ (s : State) (tag : Byte), s.Ready →
    (∀ n : Nat, n < 65536 →
      (s.store.engine = .scanning → exec (.getBooking tag (put2 n)) s = .next (s.answer 0x2E tag .notReady []))
      ∧ (s.store.engine ≠ .scanning → s.entry n = none →
          exec (.getBooking tag (put2 n)) s = .next (s.answer 0x2E tag .notFound []))
      ∧ (s.store.engine ≠ .scanning → ∀ e : IndexEntry, s.entry n = some e →
          exec (.getBooking tag (put2 n)) s = .next (State.taken { s with store := { s.store with
            reads := s.store.reads ++ [.getBooking n tag],
            engine := if s.store.engine = .erasing then .suspended else s.store.engine } })))
    ∧ ∀ p : List Byte, p.length ≠ 2 → exec (.getBooking tag p) s = .next (s.answer 0x2E tag .badLength []))

/-- OPEN_NOW opens the floor of the LOBBY booking under the booking's own policy: it is IN_SESSION, the floor is OPEN
and empty, ASLEEP lines wake, a RUNNING line has its idle count at 0 and no SLEEP due or on it, and the answer is OK.
Without a LOBBY booking it is WRONG_STATE; held by a CANCEL, BUSY; while the scan runs, NOT_READY (R15, R109, R111,
R166, R169). END_NOW ends the IN_SESSION meeting at once: the floor is CLOSED with every speaker closed MEETING_END,
the roster is dropped, no meeting is current and the booking is DONE; its STATE record is handed to the store and the
change is in flight. Without such a meeting it is WRONG_STATE (R16, R82, R93, R104, R113). That R166 wakes the lines
at this entry too is the model's reading (log entry 36), and what becomes of a SLEEP on the line its choice (log entry
21). That a change refused at its checks makes no evaluation is the model's choice (log entry 50). -/
def Obligations.MeetingOpenedAndEnded : Prop :=
  (∀ (s : State) (tag : Byte), s.Ready →
    (∀ m : Current, s.store.engine ≠ .scanning → s.seq.current = some m → m.phase = .lobby →
      (∀ c, s.seq.change = some c → c.number ≠ m.number) → ∃ t,
        exec (.openNow tag []) s = .next t
        ∧ (∃ m' : Current, t.seq.current = some m' ∧ m'.number = m.number ∧ m'.phase = .inSession)
        ∧ t.seq.index = s.seq.index.map (fun x => if x.number = m.number then { x with state := .inSession } else x)
        ∧ t.floor.isOpen = true ∧ t.floor.policy = m.policy ∧ t.floor.speakers = [] ∧ t.floor.requests = []
        ∧ t.floor.holders = [] ∧ t.floor.muting = false ∧ t.floor.arrivalCounter = 0
        ∧ (∀ i : SeatId, (t.seat i).refusal = none)
        ∧ (∀ l : LineId, let x := s.line l
            ((x.activity = .exchange .sleep → x.rescans = []) →
              (t.line l).state = (if x.state = .asleep then .waking else x.state))
            ∧ (x.state = .running → x.activity ≠ .exchange .sleep →
                t.line l = { x with idle := 0, sleepDue := false })
            ∧ (x.state = .running → (t.line l).idle = 0 ∧ (t.line l).sleepDue = false
                ∧ (t.line l).activity ≠ .exchange .sleep))
        ∧ KeptBut [.floor, .seats, .screens, .sequencer, .lineA, .lineB, .transmitter, .marks] s t
        ∧ Answered 0x24 tag .ok [] s t)
    ∧ (s.store.engine = .scanning → exec (.openNow tag []) s = .next (s.answer 0x24 tag .notReady []))
    ∧ (s.store.engine ≠ .scanning → (∀ m, s.seq.current = some m → m.phase ≠ .lobby) →
        exec (.openNow tag []) s = .next (s.answer 0x24 tag .wrongState []))
    ∧ (∀ (m : Current) (c : BookingChange), s.store.engine ≠ .scanning → s.seq.current = some m →
        m.phase = .lobby → s.seq.change = some c →
        c.kind = .cancel → c.number = m.number →
        exec (.openNow tag []) s = .next (s.answer 0x24 tag .busy []))
    ∧ ∀ p : List Byte, p ≠ [] → exec (.openNow tag p) s = .next (s.answer 0x24 tag .badLength []))
  ∧ (∀ (s : State) (tag : Byte), s.Ready →
    (∀ (m : Current) (e : IndexEntry), s.store.engine ≠ .scanning → s.seq.change = none →
      s.seq.current = some m → m.phase = .inSession → s.entry m.number = some e → s.store.latch = false →
      s.CanProgram 1 → s.floor.Sound → ∃ t,
        exec (.endNow tag []) s = .next t
        ∧ t.floor.isOpen = false ∧ t.floor.speakers = [] ∧ t.floor.requests = [] ∧ t.floor.holders = []
        ∧ t.log = s.floor.speakers.foldl (fun l x => l.push (s.logRecord x .meetingEnd)) s.log
        ∧ t.seq.current = none ∧ t.seq.roster = none
        ∧ t.seq.index = s.seq.index.map (fun x => if x.number = e.number then { x with state := .done } else x)
        ∧ t.seq.lastSettled = some (e.number, .done)
        ∧ (∃ d, t.seq.change = some ⟨.endNow, tag, e.number, d, false, none⟩)
        ∧ HandedOn ⟨.change, e.number, e.version, .state .done, none, [], false, false, false⟩ s t
        ∧ KeptBut [.floor, .log, .seats, .screens, .sequencer, .store, .transmitter, .marks] s t
        ∧ Deferred s t)
    ∧ (s.store.engine ≠ .scanning → s.seq.change = none → (∀ m, s.seq.current = some m → m.phase ≠ .inSession) →
        exec (.endNow tag []) s = .next (s.answer 0x2D tag .wrongState []))
    ∧ (s.store.engine = .scanning → exec (.endNow tag []) s = .next (s.answer 0x2D tag .notReady []))
    ∧ (s.store.engine ≠ .scanning → s.seq.change ≠ none →
        exec (.endNow tag []) s = .next (s.answer 0x2D tag .busy []))
    ∧ ∀ p : List Byte, p ≠ [] → exec (.endNow tag p) s = .next (s.answer 0x2D tag .badLength []))

/-- An evaluation with one booking in the index: an IN_SESSION booking whose end has come is DONE and the floor
CLOSED; one within the end warning of its end is warned once, with a MEETING mark and the clock item pending where
what it shows is not what was sent; a LOBBY booking whose start has come is IN_SESSION with the floor OPEN under its
policy, warned at once inside its last minutes; a LOBBY booking whose end has come is MISSED and the roster dropped; a
PENDING booking whose end has come unentered is MISSED; and in RUN with no meeting current, a PENDING booking within
the lobby lead of its start begins to load, its read being asked. The first evaluation in RUN clears the resume mark,
and takes up a PENDING booking in its window as resumed. With several bookings and none current, each PENDING one
whose end has come is MISSED, their records handed on in order of start, and then the earliest PENDING one that is
left is taken up if it is within the lobby lead. While the clock is UNSET or the scan runs nothing happens (R103,
R104, R105, R106, R107, R109, R110). -/
def Obligations.EvaluationMovesMeeting : Prop :=
  (∀ s : State, (s.clock = none ∨ s.store.engine = .scanning) → evaluate s = s)
  ∧ (∀ (s : State) (e : IndexEntry) (now : Nat), s.now = some now → s.store.engine ≠ .scanning →
      s.seq.index = [e] → s.seq.change = none → s.seq.resumeMark = false →
      let t := evaluate s
      (∀ m : Current, s.seq.current = some m → m.number = e.number → m.phase = .inSession → e.state = .inSession →
        e.endMin ≤ now →
        t.seq.current = none ∧ t.floor.isOpen = false ∧ t.floor.speakers = [] ∧ t.seq.roster = none
        ∧ t.seq.index = [{ e with state := .done }] ∧ t.seq.lastSettled = some (e.number, .done))
      ∧ (∀ m : Current, s.seq.current = some m → m.number = e.number → m.phase = .inSession → e.state = .inSession →
          now < e.endMin →
          t.floor = s.floor ∧ t.seq.index = [e]
          ∧ ((m.warned = true ∨ now + s.seq.room.endWarning < e.endMin) → t.seq.current = some m)
          ∧ (m.warned = false → e.endMin ≤ now + s.seq.room.endWarning →
              t.seq.current = some { m with warned := true } ∧ t.link.marks.meeting = true
              ∧ ∀ j : ScreenId, inService (s.screen j).presence = true →
                  (s.screen j).itemSent[(1 : ItemId)] ≠ some (t.itemKey 1) →
                  (t.screen j).itemMarks[(1 : ItemId)] = true))
      ∧ (∀ m : Current, s.seq.current = some m → m.number = e.number → m.phase = .lobby → e.state = .lobby →
          e.startMin ≤ now → now < e.endMin →
          t.floor.isOpen = true ∧ t.floor.policy = m.policy ∧ t.seq.index = [{ e with state := .inSession }]
          ∧ t.seq.current = some { m with
              phase := .inSession, warned := m.warned || decide (e.endMin ≤ now + s.seq.room.endWarning) })
      ∧ (∀ m : Current, s.seq.current = some m → m.number = e.number → m.phase = .lobby → e.state = .lobby →
          e.endMin ≤ now → s.floor.isOpen = false → s.store.latch = false →
          t.seq.current = none ∧ t.seq.roster = none ∧ t.seq.index = [{ e with state := .missed }]
          ∧ t.seq.lastSettled = some (e.number, .missed) ∧ t.link.marks.meeting = true ∧ t.floor = s.floor
          ∧ t.store.programs = s.store.programs
              ++ [⟨.settle, e.number, e.version, .state .missed, none, [], false, false, false⟩])
      ∧ (s.seq.current = none → e.state = .pending → e.endMin ≤ now →
          t.seq.index = [{ e with state := .missed }] ∧ t.seq.lastSettled = some (e.number, .missed)
          ∧ t.floor = s.floor)
      ∧ (s.seq.current = none → e.state = .pending → s.link.run = true →
          e.startMin ≤ now + s.seq.room.lobbyLead → now < e.endMin →
          (∃ m' : Current, t.seq.current = some m' ∧ m'.number = e.number ∧ m'.phase = .loading)
          ∧ t.store.reads = s.store.reads ++ [.roster e.number] ∧ t.seq.index = [e] ∧ t.floor = s.floor))
  ∧ (∀ (s : State) (e : IndexEntry) (now : Nat), s.now = some now → s.store.engine ≠ .scanning →
      s.seq.index = [e] → s.seq.change = none → s.seq.resumeMark = true → s.seq.current = none → e.state = .pending →
      now < e.endMin →
      let t := evaluate s
      let taken := fun resumed : Bool =>
        t.seq.current = some ⟨e.number, .loading, resumed, false, Policy.walkIn⟩
          ∧ t.store.reads = s.store.reads ++ [.roster e.number] ∧ t.link.marks.meeting = true
      t.seq.index = [e] ∧ t.floor = s.floor
      ∧ (s.link.run = false → t.seq.current = none ∧ t.seq.resumeMark = true ∧ t.store = s.store)
      ∧ (s.link.run = true → t.seq.resumeMark = false
          ∧ (e.startMin ≤ now → taken true)
          ∧ (now < e.startMin → e.startMin ≤ now + s.seq.room.lobbyLead → taken false)
          ∧ (now + s.seq.room.lobbyLead < e.startMin → t.seq.current = none ∧ t.store = s.store)))
  ∧ ∀ (s : State) (now : Nat), s.now = some now → s.store.engine ≠ .scanning → s.seq.current = none →
      s.seq.change = none → s.seq.resumeMark = false → s.store.latch = false →
      (s.seq.index.map (·.number)).Nodup → (∀ e ∈ s.seq.index, e.state ≠ .lobby) →
      let t := evaluate s
      let late := s.seq.index.filter fun e => decide (e.state = .pending ∧ e.endMin ≤ now)
      t.floor = s.floor
      ∧ t.seq.index = s.seq.index.map (fun e => if e ∈ late then { e with state := .missed } else e)
      ∧ (∃ order : List IndexEntry, order.Perm late ∧ order.Pairwise (fun x y => x.startMin ≤ y.startMin)
          ∧ t.store.programs = s.store.programs ++ order.map fun e =>
              ⟨.settle, e.number, e.version, .state .missed, none, [], false, false, false⟩)
      ∧ ∀ e ∈ s.seq.index, e.state = .pending → now < e.endMin → s.link.run = true →
          (∀ x ∈ s.seq.index, x.state = .pending → now < x.endMin → x ≠ e → e.startMin < x.startMin) →
          (e.startMin ≤ now + s.seq.room.lobbyLead →
            t.seq.current = some ⟨e.number, .loading, false, false, Policy.walkIn⟩
            ∧ t.store.reads = s.store.reads ++ [.roster e.number])
          ∧ (now + s.seq.room.lobbyLead < e.startMin → t.seq.current = none ∧ t.store.reads = s.store.reads)

/-! ## The booking store -/

/-- STORE_CLEAR releases the HALTED latch where 4 or more sectors are not RETIRED, with a STORE mark and OK, is
STORE_FAULT where fewer are, and is OK without change where the latch is clear; COMPACT asks for a pass, which is
begun where there is a victim, its reply waiting, and is NOT_FOUND where there is none. COMPACT is STORE_HALTED under
the latch and BUSY during a pass, and both are NOT_READY while the scan runs. That the pass without a victim ends with
outcome OK is the model's reading (log entry 16) (R128, R130, R132, R133, R134). The victim of a pass is FULL, does
not hold the current record of the current meeting, and has a dead unit; no other such sector has more, and none of a
lower number as many. Without a victim no sector is such (R129, R130). -/
def Obligations.StoreRequestsBegin : Prop :=
  (∀ (s : State) (tag : Byte), s.Ready →
    (s.store.engine = .scanning →
      exec (.storeClear tag []) s = .next (s.answer 0x31 tag .notReady [])
      ∧ exec (.compact tag []) s = .next (s.answer 0x32 tag .notReady []))
    ∧ (s.store.engine ≠ .scanning → s.store.latch = false →
        exec (.storeClear tag []) s = .next (s.answer 0x31 tag .ok []))
    ∧ (s.store.engine ≠ .scanning → s.store.latch = true → 12 < (s.sectorsIn .retired).length →
        exec (.storeClear tag []) s = .next (s.answer 0x31 tag .storeFault []))
    ∧ (s.store.engine ≠ .scanning → s.store.latch = true → (s.sectorsIn .retired).length ≤ 12 →
        (∃ t, exec (.storeClear tag []) s = .next t ∧ Answered 0x31 tag .ok [] s t)
        ∧ (3 ≤ (s.sectorsIn .erased).length →
            exec (.storeClear tag []) s = .next (State.answer 0x31 tag .ok [] { s with
              store := { s.store with latch := false },
              link := { s.link with marks := { s.link.marks with store := true } } })))
    ∧ (s.store.engine ≠ .scanning → s.store.latch = true →
        exec (.compact tag []) s = .next (s.answer 0x32 tag .storeHalted []))
    ∧ (s.store.engine ≠ .scanning → s.store.latch = false → s.store.pass ≠ none →
        exec (.compact tag []) s = .next (s.answer 0x32 tag .busy []))
    ∧ (s.store.engine ≠ .scanning → s.store.latch = false → s.store.pass = none → s.victim = none →
        exec (.compact tag []) s = .next (State.answer 0x32 tag .notFound [] { s with
          store := { s.store with lastOutcome := .ok },
          link := { s.link with marks := { s.link.marks with store := true } } }))
    ∧ (∀ v : Fin 16, s.store.engine ≠ .scanning → s.store.latch = false → s.store.pass = none →
        s.victim = some v →
        ((s.store.engine ≠ .idle ∨ s.store.reads ≠ []) →
          exec (.compact tag []) s = .next
            (State.taken { s with store := { s.store with pass := some ⟨v, 0, 0, some tag⟩ } }))
        ∧ (s.store.engine = .idle → s.store.reads = [] → s.liveRecords v = [] →
            exec (.compact tag []) s = .next (State.taken { s with store := { s.store with
              engine := .erasing, pass := some ⟨v, 0, 255, some tag⟩ } }))
        ∧ (∀ (r : MediumRecord) (h : Fin 16), s.store.engine = .idle → s.store.reads = [] →
            (s.liveRecords v).head? = some r → r.health.all unitReads = true → s.writeHead = some h →
            s.store.nextFree + recordUnits r.body ≤ 256 → ∃ (t : State) (p : Programming),
              exec (.compact tag []) s = .next t ∧ Deferred s t ∧ t.store.engine = .programming
              ∧ t.store.active = some p ∧ p.job.purpose = .copy ∧ p.job.number = r.number ∧ p.job.body = r.body
              ∧ p.place = ⟨h, s.store.nextFree⟩ ∧ p.header = none
              ∧ t.store.pass = some ⟨v, 0, 0, some tag⟩))
    ∧ ∀ p : List Byte, p ≠ [] → exec (.storeClear tag p) s = .next (s.answer 0x31 tag .badLength [])
        ∧ exec (.compact tag p) s = .next (s.answer 0x32 tag .badLength []))
  ∧ (∀ s : State,
    let fit := fun i : Fin 16 => i ∈ s.sectorsIn .full ∧ s.protectedSector ≠ some i ∧ 1 ≤ s.deadUnits i
    (∀ v, s.victim = some v → fit v ∧ ∀ i, fit i → s.deadUnits i ≤ s.deadUnits v
      ∧ (i < v → s.deadUnits i < s.deadUnits v))
    ∧ (s.victim = none ↔ ∀ i, ¬ fit i))

/-- STORE_PROGRAM_COMPLETE with a verify that passes. A header's makes its sector the write head with the next free
unit 1, and the record's own program follows. A record's ends with the record on the medium and the next free unit
behind it. BOOK and WALK_IN: the booking is PENDING in the index with its place and write count, an evicted one being
gone. AMEND: version and fields are the new ones, a DAMAGED booking is PENDING again, as last settled one too. CANCEL:
CANCELLED with its STATE record noted, and last settled. EXTEND: the new version and end, the end warning off.
END_NOW: the STATE record of the DONE booking is noted. Each ends the change with its reply, OK or OK_CLAMPED (R92,
R94, R96, R97, R98, R99, R112, R113). A STATE record of the meeting sequence is noted where version and state still
agree, and a copy moves the place of its record and counts in its pass (R121, R129, R131). That header and record are
two programs, each ended by a STORE_PROGRAM_COMPLETE of its own, is the model's form (log entry 28); that the state
kept of the last settled booking follows an AMEND is its reading (log entry 60). -/
def Obligations.ProgrammedBookingIsPending : Prop :=
  (∀ (s : State) (p : Programming) (q : Nat), s.Verifying p → p.header = some q → s.store.pass = none →
    s.store.table.length = 16 → 4 ≤ (s.sectorsIn .erased).length → (s.sector p.place.sector).state = .erased →
    ∃ t, exec (.storeProgramComplete []) s = .next t ∧ KeptBut [.store] s t
      ∧ t.store.engine = .programming ∧ t.store.active = some { p with header := none }
      ∧ t.sector p.place.sector = ⟨.opened, q⟩ ∧ t.store.nextFree = 1
      ∧ t.store.medium[p.place.sector] = { s.store.medium[p.place.sector] with header := .valid q false }
      ∧ t.store.programs = [] ∧ t.store.pass = none ∧ t.store.latch = false
      ∧ ∀ k : Fin 16, k ≠ p.place.sector → t.store.medium[k] = s.store.medium[k] ∧ t.sector k = s.sector k)
  ∧ (∀ (s : State) (p : Programming) (c : BookingChange), s.Verifying p → p.header = none →
    p.job.purpose = .change → s.store.reads = [] → s.store.pass = none → s.seq.change = some c →
    s.seq.heldLoad = none →
    let result : Byte := if c.clamped then 1 else 0
    let ends := fun (changed : List Block) (kind : Byte) (body : List Byte) (seq : Sequencer) => ∃ t,
      exec (.storeProgramComplete []) s = .next t ∧ t.seq = seq ∧ Placed ⟨.reply, ⟨kind, c.tag, body⟩⟩ s t
      ∧ Landed p s t ∧ KeptBut ([.sequencer, .store, .screens, .transmitter] ++ changed) s t
      ∧ (changed = [.marks] → t.link.marks.meeting = true)
    let starts : Prop := ∀ now, s.now = some now →
      (s.link.run = false ∨ now + s.seq.room.lobbyLead < c.data.startMin)
      ∧ now < c.data.endMin ∧ c.data.startMin ≤ c.data.endMin
    ((c.kind = .book ∨ c.kind = .walkIn) → s.NothingDue → starts →
      ends [] (if c.kind = .book then 0xA8 else 0xA9)
        ([result] ++ put2 c.number ++ [1] ++ put4 c.data.startMin ++ put4 c.data.endMin)
        { s.seq with
          change := none
          lastAssigned := c.number
          index := (match c.evict with
              | some n => s.seq.index.filter fun e => decide (e.number ≠ n)
              | none => s.seq.index)
            ++ [⟨c.number, 1, c.data.startMin, c.data.endMin, c.data.title, c.data.attendees.length, .pending,
                p.place, p.writeCount, none⟩] })
    ∧ (∀ e : IndexEntry, c.kind = .amend → s.entry c.number = some e → s.NothingDue → starts →
      ends [] 0xAA
        ([result] ++ put2 c.number ++ put1 (e.version + 1) ++ put4 c.data.startMin ++ put4 c.data.endMin)
        { s.seq with
          change := none
          lastSettled := if e.state = .damaged ∧ s.seq.lastSettled = some (c.number, .damaged)
            then some (c.number, .pending) else s.seq.lastSettled
          index := s.indexWith c.number fun x => { x with
            version := x.version + 1, startMin := c.data.startMin, endMin := c.data.endMin, title := c.data.title
            attendeeCount := c.data.attendees.length, state := if x.state = .damaged then .pending else x.state
            place := p.place, writeCount := p.writeCount, stateNote := none } })
    ∧ (c.kind = .cancel → s.NothingDue →
      ends [.marks] 0xAB [0] { s.seq with
        change := none
        lastSettled := some (c.number, .cancelled)
        index := s.indexWith c.number fun x => { x with
          state := .cancelled, stateNote := some ⟨p.writeCount, .cancelled, p.place⟩ } })
    ∧ (∀ (e : IndexEntry) (m : Current), c.kind = .extend → s.seq.index = [e] → e.number = c.number →
      s.seq.current = some m → m.number = c.number → m.phase = .inSession → s.seq.resumeMark = false →
      (∀ now, s.now = some now → now + s.seq.room.endWarning < c.data.endMin) →
      ends [.marks] 0xAC ([result] ++ put4 c.data.endMin) { s.seq with
        change := none
        current := some { m with warned := false }
        index := [{ e with
          version := e.version + 1, endMin := c.data.endMin, place := p.place, writeCount := p.writeCount }] })
    ∧ (c.kind = .endNow → s.NothingDue →
      ends [] 0xAD [0] { s.seq with
        change := none
        index := s.indexWith c.number fun x => { x with stateNote := some ⟨p.writeCount, .done, p.place⟩ } }))
  ∧ (∀ (s : State) (p : Programming) (b : BookingState), s.Verifying p → p.header = none →
    p.job.purpose = .settle → p.job.body = .state b → s.store.reads = [] → s.store.pass = none → ∃ t,
      exec (.storeProgramComplete []) s = .next t ∧ Landed p s t ∧ KeptBut [.sequencer, .store] s t
      ∧ t.seq = { s.seq with index := s.indexWith p.job.number fun x =>
          if x.version = p.job.version ∧ x.state = b then { x with stateNote := some ⟨p.writeCount, b, p.place⟩ }
          else x })
  ∧ ∀ (s : State) (p : Programming) (x : Pass), s.Verifying p → p.header = none → p.job.purpose = .copy →
      s.store.pass = some x → s.store.reads ≠ [] → ∃ t,
        exec (.storeProgramComplete []) s = .next t ∧ Landed p s t ∧ KeptBut [.sequencer, .store] s t
        ∧ t.store.pass = some { x with copied := x.copied + recordUnits p.job.body }
        ∧ t.seq = { s.seq with index := s.indexWith p.job.number fun e =>
            match p.job.body with
            | .booking _ => { e with place := p.place }
            | .state _ => { e with stateNote := e.stateNote.map fun n => { n with place := p.place } } }

/-- STORE_PROGRAM_COMPLETE with a unit of the record reading uncorrectable: the first time the write head becomes FULL
and the record is programmed once more at unit 1 of a newly opened sector, the change staying in flight; the second
time the HALTED latch is set with its FAULT and STORE marks, the change ends STORE_FAULT and the index is as it was.
Where no sector may be opened the retry waits for room, and where there is a victim a pass for it is in progress at
once, also while reads wait (R121, R122, R127, R130, R134). That the retry keeps its
write count, and that header and record are two programs ended by a STORE_PROGRAM_COMPLETE each, is the model's choice
(log entry 28). -/
def Obligations.FailedVerifyRetriesThenHalts : Prop :=
  ∀ (s : State) (p : Programming) (c : BookingChange) (w : Option Nat) (again waits : Bool),
    s.Verifying p → p.header = none → 1 ≤ p.place.unit →
    p.job = ⟨.change, c.number, 1, .booking c.data, w, [], false, again, waits⟩ → s.seq.change = some c →
    c.kind = .book → s.store.pass = none → s.store.table.length = 16 → s.seq.heldLoad = none → s.NothingDue →
    (∀ i : Fin 16, s.store.reads = [] → again = false → s.sectorsIn .opened = [p.place.sector] →
      2 ≤ (s.sectorsIn .erased).length → (s.sectorsIn .erased).head? = some i → s.nextSequence ≤ 65535 → ∃ t,
        exec (.storeProgramComplete [⟨p.place.sector, p.place.unit, true⟩]) s = .next t
        ∧ t.store.engine = .programming
        ∧ t.store.active = some ⟨{ p.job with retry := true, writeCount := some p.writeCount }, p.writeCount,
            ⟨i, 1⟩, some s.nextSequence⟩
        ∧ (t.sector p.place.sector).state = .full ∧ t.store.latch = false ∧ t.seq = s.seq
        ∧ KeptBut [.store] s t)
    ∧ (s.store.reads ≠ [] → again = false → s.sectorsIn .opened = [p.place.sector] →
        (s.sectorsIn .erased).length < 2 → ∃ t,
        exec (.storeProgramComplete [⟨p.place.sector, p.place.unit, true⟩]) s = .next t
        ∧ (t.sector p.place.sector).state = .full ∧ t.store.latch = false ∧ t.store.engine = .idle
        ∧ t.store.reads = s.store.reads
        ∧ ∀ v, t.victim = some v → t.store.pass = some ⟨v, 0, 0, none⟩ ∧ t.seq = s.seq
            ∧ t.store.programs = [{ p.job with retry := true, writeCount := some p.writeCount, waits := true }]
            ∧ KeptBut [.store] s t)
    ∧ (s.store.reads = [] → again = true → ∃ t,
        exec (.storeProgramComplete [⟨p.place.sector, p.place.unit, true⟩]) s = .next t
        ∧ t.store.latch = true ∧ t.store.engine = .idle ∧ t.store.active = none ∧ t.store.lastOutcome = .storeFault
        ∧ (t.sector p.place.sector).state = .full
        ∧ t.seq = { s.seq with change := none }
        ∧ Placed ⟨.reply, ⟨0xA8, c.tag, [17]⟩⟩ s t
        ∧ t.link.faultNote = some (.storeHalted .verify) ∧ t.link.marks.fault = true ∧ t.link.marks.store = true
        ∧ KeptBut [.sequencer, .store, .transmitter, .marks] s t)

/-- STORE_READ_COMPLETE: the read of a GET_BOOKING gives the reply with the booking's number, version, state and whole
record where every unit reads, and STORE_FAULT where a header unit fails, a PENDING booking then being DAMAGED with
its FAULT mark; a DAMAGED booking is answered STORE_FAULT also where every unit reads, with the fields of its index
entry; the read of the EXTEND in flight hands the next version with the new end to the store (R100, R112, R116, R125).
That the reply to a failed read gives the state after the booking became DAMAGED is the model's reading, and so are
the fields of a reply for a DAMAGED booking that reads (log entry 17). -/
def Obligations.ReadAnswersOrExtends : Prop :=
  ∀ (s : State) (n : Nat) (e : IndexEntry) (r : MediumRecord) (d : BookingData),
    s.powered = true → s.link.queue = [] → s.TransmitterSettled → s.store.engine = .idle →
    s.store.programs = [] → s.store.pass = none → s.store.latch = false → s.store.corrected ≤ 65535 →
    s.entry n = some e → s.recordAt e.place = some r → r.body = .booking d →
    (∀ tag : Byte, s.store.reads = [.getBooking n tag] → (∀ h ∈ r.health, h = .clean) → e.state ≠ .damaged →
      exec (.storeReadComplete []) s = .next (State.send
        ⟨.reply, ⟨0xAE, tag, [0] ++ put2 n ++ put1 e.version ++ put1 (bookingNumber e.state) ++ putBooking d⟩⟩
        { s with store := { s.store with reads := [] } }))
    ∧ (∀ tag : Byte, s.store.reads = [.getBooking n tag] → (∀ h ∈ r.health, h = .clean) → e.state = .damaged →
        exec (.storeReadComplete []) s = .next (State.send
          ⟨.reply, ⟨0xAE, tag, [17] ++ put2 n ++ put1 e.version ++ put1 6 ++ put4 e.startMin
            ++ put4 e.endMin ++ putText 40 e.title ++ put1 e.attendeeCount⟩⟩
          { s with store := { s.store with reads := [] } }))
    ∧ (∀ tag : Byte, s.store.reads = [.getBooking n tag] → (∃ h ∈ r.health.take 8, unitReads h = false) →
        e.state = .pending → ∃ t,
        exec (.storeReadComplete []) s = .next t
        ∧ t.seq.index = s.seq.index.map (fun x => if x.number = n then { x with state := .damaged } else x)
        ∧ t.seq.lastSettled = some (n, .damaged) ∧ t.link.faultNote = some (.damagedBooking n)
        ∧ t.link.marks.fault = true ∧ t.link.marks.meeting = true ∧ t.store.reads = []
        ∧ Placed ⟨.reply, ⟨0xAE, tag, [17] ++ put2 n ++ put1 e.version ++ put1 6 ++ put4 e.startMin
            ++ put4 e.endMin ++ putText 40 e.title ++ put1 e.attendeeCount⟩⟩ s t
        ∧ KeptBut [.sequencer, .store, .screens, .transmitter, .marks] s t)
    ∧ (∀ c : BookingChange, s.store.reads = [.extend n] → s.seq.change = some c → c.kind = .extend → c.number = n →
        (∀ h ∈ r.health, h = .clean) →
        let d' : BookingData := { d with endMin := c.data.endMin }
        let rest : State := { s with store := { s.store with reads := [] } }
        rest.CanProgram (8 + 3 * d.attendees.length) → ∃ t,
          exec (.storeReadComplete []) s = .next t
          ∧ t.seq = { s.seq with change := some { c with data := d' } }
          ∧ HandedOn ⟨.change, n, e.version + 1, .booking d', none, [], false, false, false⟩ rest t
          ∧ KeptBut [.sequencer, .store] s t)

/-- ROSTER_LOAD_COMPLETE for the booking that is LOADING: with the record read, the roster is its attendees with no
time spoken, and the booking is IN_SESSION with the floor OPEN under its policy where its start has come, LOBBY with
the floor as it was where it has not, the meeting keeping the booking's policy in both, and MISSED where its end has
come, every label being re-evaluated then too; with a unit that fails it is DAMAGED with its FAULT and MEETING marks
and no meeting is current (R15, R106, R108, R115, R145, R209). -/
def Obligations.RosterLoadEntersMeeting : Prop :=
  ∀ (s : State) (e : IndexEntry) (m : Current) (r : MediumRecord) (d : BookingData) (now : Nat),
    s.powered = true → s.link.queue = [] → s.store.engine = .idle → s.store.reads = [.roster e.number] →
    s.store.programs = [] → s.store.pass = none → s.seq.index = [e] → s.seq.change = none →
    s.seq.current = some m → m.number = e.number → m.phase = .loading → e.state = .pending → s.now = some now →
    s.recordAt e.place = some r → r.body = .booking d →
    ∃ t, exec (.rosterLoadComplete []) s = .next t ∧ t.store.reads = []
      ∧ ((∀ h ∈ r.health, unitReads h = true) → now < e.endMin →
          (t.seq.roster.map fun l => l.map fun x => (x.attendee, x.total)) = some (d.attendees.map fun a => (a, 0)))
      ∧ ((∀ h ∈ r.health, unitReads h = true) → now < e.endMin → e.startMin ≤ now →
          t.floor.isOpen = true ∧ t.floor.policy = d.policy ∧ t.floor.speakers = [] ∧ t.floor.requests = []
          ∧ t.seq.index = [{ e with state := .inSession }]
          ∧ ∃ m' : Current, t.seq.current = some m' ∧ m'.number = e.number ∧ m'.phase = .inSession
            ∧ m'.policy = d.policy)
      ∧ ((∀ h ∈ r.health, unitReads h = true) → now < e.endMin → now < e.startMin → s.floor.isOpen = false →
          t.floor = s.floor ∧ t.seq.index = [{ e with state := .lobby }]
          ∧ ∃ m' : Current, t.seq.current = some m' ∧ m'.number = e.number ∧ m'.phase = .lobby
            ∧ m'.policy = d.policy)
      ∧ ((∀ h ∈ r.health, unitReads h = true) → e.endMin ≤ now →
          (s.store.latch = true ∨ State.CanProgram 1 { s with store := { s.store with reads := [] } }) →
          t.seq.current = none ∧ t.seq.roster = none ∧ t.seq.index = [{ e with state := .missed }]
          ∧ ∀ i : SeatId, inService (t.seat i).presence = true → (t.seat i).labelSent ≠ some (t.labelOf i).1 →
              (t.seat i).marks.label = true)
      ∧ ((∃ h ∈ r.health, unitReads h = false) →
          t.seq.current = none ∧ t.seq.index = [{ e with state := .damaged }]
          ∧ t.link.faultNote = some (.damagedBooking e.number)
          ∧ ((∃ g, s.link.onLine = some g) → t.link.marks.fault = true ∧ t.link.marks.meeting = true))

/-- ERASE_COMPLETE of the victim with 3 or more sectors ERASED already, and 5 or more in service where it fails:
erased, the sector is blank and ERASED; failed, it is RETIRED with its FAULT mark. The settled bookings whose record
lay in it leave the index, the pass ends with a STORE mark and outcome OK, and a COMPACT that asked for it is answered
OK with the sector and the units reclaimed (R123, R124, R132, R133, R134). -/
def Obligations.EraseEndsPass : Prop :=
  ∀ (s : State) (p : Pass) (o : EraseOutcome), s.powered = true → s.link.queue = [] → s.TransmitterSettled →
    s.store.engine = .erasing → s.store.pass = some p → s.store.programs = [] → s.store.reads = [] →
    s.store.latch = false → s.store.table.length = 16 → 3 ≤ (s.sectorsIn .erased).length →
    p.victim ∈ s.sectorsIn .full → (o ≠ .erased → (s.sectorsIn .retired).length ≤ 11) →
    ∃ t, exec (.eraseComplete o) s = .next t
      ∧ t.store.engine = .idle ∧ t.store.pass = none ∧ t.store.latch = false ∧ t.store.lastOutcome = .ok
      ∧ (∀ i : Fin 16, i ≠ p.victim → t.store.medium[i] = s.store.medium[i] ∧ t.sector i = s.sector i)
      ∧ (o = .erased → t.store.medium[p.victim] = ⟨.erased, []⟩ ∧ (t.sector p.victim).state = .erased
          ∧ t.link.faultNote = s.link.faultNote)
      ∧ (o ≠ .erased → (t.sector p.victim).state = .retired
          ∧ t.link.faultNote = some (.storeRetire p.victim.val))
      ∧ ((∃ g, s.link.onLine = some g) →
          t.link.marks.store = true ∧ (o ≠ .erased → t.link.marks.fault = true))
      ∧ t.seq = { s.seq with index := s.seq.index.filter fun e =>
          !((e.state == .done || e.state == .missed || e.state == .cancelled) && e.place.sector == p.victim) }
      ∧ (∀ tag : Byte, p.tag = some tag →
          Placed ⟨.reply, ⟨0xB2, tag, [0] ++ put1 p.victim.val ++ put1 p.reclaimed⟩⟩ s t)
      ∧ KeptBut [.sequencer, .store, .screens, .transmitter, .marks] s t

/-- SCAN_COMPLETE, for any wear and any failing erases, ends the scan. Over a store whose every unit is erased makes
every sector ERASED and the index empty, the engine IDLE, the title being re-evaluated; over a store that holds one
whole version-1 BOOKING record, at unit 1 of a sector in use, it makes that sector the write head behind the record
and the booking PENDING, its number the last assigned and the write counts going on behind its own. A head of an
unknown kind or length, or of a BOOKING of more than 24 attendees, makes the rest of its sector unusable and the
sector FULL. A sector whose header reads invalid is erased, or, where it fails to erase, RETIRED with its FAULT mark
and outcome STORE_FAULT; the scan's end marks STORE (R117, R134, R136, R137, R138, R139, R150). Whose outcome stands
after the scan's erases, that a sector that fails to erase reads as before, and that the write counts begin at 0
behind a head that cannot be used, whose own write count does not count, is the model's choice (log entries 51 and
56). -/
def Obligations.ScanRebuildsIndex : Prop :=
  (∀ (s : State) (wear : List WornUnit) (failures : List (Fin 16)), s.powered = true →
    s.store.engine = .scanning → s.store.orphan = none → ∃ t, exec (.scanComplete wear failures) s = .next t
      ∧ (s.link.queue = [] → s.clock = none → s.seq.change = none → s.store.programs = [] →
          s.store.pass = none → t.store.engine ≠ .scanning))
  ∧ ∀ s : State, s.powered = true → s.link.queue = [] → s.store.engine = .scanning → s.store.orphan = none →
    s.store.programs = [] → s.store.reads = [] → s.store.pass = none → s.store.latch = false → s.clock = none →
    s.seq.change = none → s.seq.current = none →
    ((∀ i : Fin 16, s.store.medium[i] = ⟨.erased, []⟩) → ∃ t,
      exec (.scanComplete [] []) s = .next t
      ∧ t.store.engine = .idle ∧ t.store.medium = s.store.medium ∧ t.store.latch = false
      ∧ (∀ i : Fin 16, (t.sector i).state = .erased) ∧ t.seq.index = [] ∧ t.store.nextWrite = 0
      ∧ (∀ j : ScreenId, inService (t.screen j).presence = true →
          (t.screen j).itemSent[(0 : Fin 16)] ≠ some t.titleItem → (t.screen j).itemMarks[(0 : Fin 16)] = true)
      ∧ KeptBut [.sequencer, .store, .screens, .transmitter, .marks] s t)
    ∧ (∀ (i : Fin 16) (records : List MediumRecord), s.store.medium[i] = ⟨.invalid, records⟩ →
        (∀ j : Fin 16, j ≠ i → s.store.medium[j] = ⟨.erased, []⟩) → ∀ fails : Bool, ∃ t,
        exec (.scanComplete [] (if fails then [i] else [])) s = .next t
        ∧ t.store.engine = .idle ∧ t.store.latch = false ∧ t.seq.index = []
        ∧ t.store.lastOutcome = (if fails then .storeFault else .ok)
        ∧ (t.sector i).state = (if fails then .retired else .erased)
        ∧ t.store.medium[i] = (if fails then s.store.medium[i] else ⟨.erased, []⟩)
        ∧ t.link.faultNote = (if fails then some (.storeRetire i.val) else s.link.faultNote)
        ∧ ((∃ g, s.link.onLine = some g) →
            t.link.marks.store = true ∧ (fails = true → t.link.marks.fault = true))
        ∧ (∀ j : Fin 16, j ≠ i → (t.sector j).state = .erased ∧ t.store.medium[j] = ⟨.erased, []⟩)
        ∧ KeptBut [.sequencer, .store, .screens, .transmitter, .marks] s t)
    ∧ (∀ (i : Fin 16) (q n w : Nat) (d : BookingData), d.attendees.length ≤ 24 →
        s.store.medium[i] = ⟨.valid q false, [⟨1, n, 1, w, false, true, .booking d,
          List.replicate (8 + 3 * d.attendees.length) .clean⟩]⟩ →
        (∀ j : Fin 16, j ≠ i → s.store.medium[j] = ⟨.erased, []⟩) → ∃ t,
        exec (.scanComplete [] []) s = .next t
        ∧ t.store.engine = .idle ∧ t.store.medium = s.store.medium ∧ t.store.latch = false
        ∧ t.sector i = ⟨.opened, q⟩ ∧ (∀ j : Fin 16, j ≠ i → (t.sector j).state = .erased)
        ∧ t.store.nextFree = 9 + 3 * d.attendees.length ∧ t.store.nextWrite = w + 1
        ∧ t.seq.lastAssigned = n
        ∧ t.seq.index = [⟨n, 1, d.startMin, d.endMin, d.title, d.attendees.length, .pending, ⟨i, 1⟩, w, none⟩]
        ∧ KeptBut [.sequencer, .store, .screens, .transmitter, .marks] s t)
    ∧ (∀ (i : Fin 16) (q : Nat) (r : MediumRecord), s.store.medium[i] = ⟨.valid q false, [r]⟩ →
        r.health.head? = some .clean →
        (r.headKnown = false ∨ ∃ d : BookingData, r.body = .booking d ∧ 24 < d.attendees.length) →
        (∀ j : Fin 16, j ≠ i → s.store.medium[j] = ⟨.erased, []⟩) → ∃ t,
        exec (.scanComplete [] []) s = .next t
        ∧ t.store.engine = .idle ∧ t.store.medium = s.store.medium ∧ t.sector i = ⟨.full, q⟩
        ∧ (∀ j : Fin 16, j ≠ i → (t.sector j).state = .erased) ∧ t.seq.index = [] ∧ t.store.nextWrite = 0
        ∧ KeptBut [.sequencer, .store, .screens, .transmitter, .marks] s t)

/-! ## Time -/

/-- SECOND_EVENT: each speech's elapsed count goes up by 1, to no more than 65535, and so does a set clock, to no more
than 4294967295; a FAULT line that makes no retry begins one, and a RUNNING line that waits with only LOST units
begins to probe the lowest of them. With neither a speech limit nor an allowance, and between minutes, nothing else
changes. An advance to a whole multiple of 60 is a minute event (R35, R36, R88, R171, R186, R192). That the count of a
second is no change of the lists, so that FLOOR is not marked, is the model's reading (log entry 24). -/
def Obligations.SecondEventCounts : Prop :=
  (∀ s : State, s.Calm → s.floor.policy.speechLimit = 0 → s.floor.policy.allowance = 0 →
    (s.floor.speakers.map (·.seat)).Nodup →
    (∀ c, s.clock = some c → c ≤ 4294967295 ∧ (c < 4294967295 → (c + 1) % 60 ≠ 0)) →
    ∃ t, exec .secondEvent s = .next t
      ∧ KeptBut [.floor, .clock, .lineA, .lineB] s t
      ∧ t.floor = { s.floor with
          speakers := s.floor.speakers.map fun e => { e with elapsed := oneMore e.elapsed } }
      ∧ t.clock = s.clock.map (fun c => min 4294967295 (c + 1))
      ∧ ∀ l : LineId, let x := s.line l
          (x.activity ≠ .none → t.line l = x)
          ∧ (x.activity = .none → x.state = .fault → t.line l = { x with activity := .retry, begun := false })
          ∧ (x.activity = .none → x.state ≠ .fault → (x.state = .running → s.lostAddresses l = []) → t.line l = x)
          ∧ ∀ (n : Nat) (rest : List Nat), x.activity = .none → x.state = .running → s.servedAddresses l = [] →
              s.lostAddresses l = n :: rest →
              t.line l = { x with
                activity := .exchange (.poll n true), begun := false
                round := ⟨if x.round.begun then (x.round.number + 1) % 8 else 0, true, true, 0, 0⟩ })
  ∧ ∀ (s : State) (c : Nat), s.Calm → s.clock = some c → c < 4294967295 → (c + 1) % 60 = 0 → s.floor.speakers = [] →
      State.NothingDue { s with clock := some (c + 1) } →
      (∀ l : LineId, (s.line l).activity = .none → (s.line l).state ≠ .fault
        ∧ ((s.line l).state = .running → s.lostAddresses l = [])) →
      exec .secondEvent s = exec .minuteEvent { s with clock := some (c + 1) }

/-- The checks of one open speech that is not chair-class: at the warning point it becomes warned; at the limit it
becomes warned and overran under WARN, and is closed TIMEUP with its log record under CLOSE; with its bound attendee
barred it is closed ALLOWANCE, its record with the warned and the overran flag of the entry. A flag that changes marks
a SPEECH notice for the seat. Where the condition does not hold, and for a seat that is not SPEAKING or is
chair-class, nothing changes (R39, R40, R42, R43, R47). -/
def Obligations.SpeechChecksAct : Prop :=
  (∀ (s : State) (i : SeatId) (e : SpeakerEntry), s.Calm → s.floor.isOpen = true → s.floor.Sound →
    e ∈ s.floor.speakers → e.seat = i → e.chairClass = false →
    let p := s.floor.policy
    let flagged := fun w o : Bool => { s.floor with speakers := s.floor.speakers.map fun x =>
      if x.seat = i then { x with warned := w, overran := o } else x }
    let closed := fun (r : CloseReason) (t : State) =>
      t.log = s.log.push (s.logRecord e r) ∧ t.speaking i = false
        ∧ (s.logRecord e r).warned = e.warned ∧ (s.logRecord e r).overran = e.overran
        ∧ KeptBut [.floor, .log, .seats, .screens, .transmitter, .marks] s t
    let noted := fun t : State =>
      KeptBut [.floor, .seats, .screens, .transmitter, .marks] s t
        ∧ ((∃ g, s.link.onLine = some g) → i.val ∈ t.link.marks.speeches)
    ((0 < p.speechLimit ∧ p.speechLimit - p.warningLead ≤ e.elapsed ∧ e.warned = false ∧ e.overran = false) →
      ∃ t, exec (.speechWarning i) s = .next t ∧ t.floor = flagged true false ∧ noted t)
    ∧ (¬ (0 < p.speechLimit ∧ p.speechLimit - p.warningLead ≤ e.elapsed ∧ e.warned = false ∧ e.overran = false) →
      exec (.speechWarning i) s = .next s)
    ∧ ((0 < p.speechLimit ∧ p.speechLimit ≤ e.elapsed ∧ e.overran = false) →
      ∃ t, exec (.speechLimit i) s = .next t
        ∧ (p.atLimit = .warn → t.floor = flagged true true ∧ noted t)
        ∧ (p.atLimit = .close → closed .timeUp t))
    ∧ (¬ (0 < p.speechLimit ∧ p.speechLimit ≤ e.elapsed ∧ e.overran = false) →
      exec (.speechLimit i) s = .next s)
    ∧ (∀ (a : Nat) (l : List RosterEntry) (r : RosterEntry), (s.seat i).card.state = .bound →
        (s.seat i).card.attendee = some a → s.seq.roster = some l → l[a]? = some r →
        (0 < p.allowance ∧ p.allowance ≤ r.total →
          ∃ t, exec (.allowanceReached i) s = .next t ∧ closed .allowance t)
        ∧ (¬ (0 < p.allowance ∧ p.allowance ≤ r.total) → exec (.allowanceReached i) s = .next s))
    ∧ ((s.seat i).card.state ≠ .bound → exec (.allowanceReached i) s = .next s))
  ∧ ∀ (s : State) (i : SeatId), s.Calm → (∀ e ∈ s.floor.speakers, e.seat = i → e.chairClass = true) →
      exec (.speechWarning i) s = .next s ∧ exec (.speechLimit i) s = .next s
        ∧ exec (.allowanceReached i) s = .next s

/-- MINUTE_EVENT with nothing of the meeting sequence due: on a RUNNING line without a meeting the idle count goes up
by the minutes since the minute last counted, to no more than 60, and by nothing where none was counted or the clock
went back; where it has reached the idle time, SLEEP is due, and leaves at once where no exchange is on the line.
LINE_SLEEP is that last check by itself. While the clock is UNSET no minute event acts (R88, R168, R169). -/
def Obligations.MinuteCountsIdle : Prop :=
  (∀ (s : State) (now : Nat), s.Calm → s.now = some now → s.NothingDue →
    ∃ t, exec .minuteEvent s = .next t ∧ KeptBut [.screens, .lineA, .lineB] s t
      ∧ ∀ l : LineId, let x := s.line l
          let idle := match x.minuteLast with
            | none => x.idle
            | some m => if m < now then min 60 (x.idle + (now - m)) else x.idle
          (x.state ≠ .running → t.line l = x)
          ∧ (x.state = .running → idle < s.seq.room.idleTime →
              t.line l = { x with idle := idle, minuteLast := some now })
          ∧ (x.state = .running → s.seq.room.idleTime ≤ idle → x.activity ≠ .none →
              t.line l = { x with idle := idle, minuteLast := some now, sleepDue := true })
          ∧ (x.state = .running → s.seq.room.idleTime ≤ idle → x.activity = .none →
              t.line l = { x with
                idle := idle, minuteLast := some now, sleepDue := true, activity := .exchange .sleep, begun := false }))
  ∧ (∀ s : State, s.Calm → s.clock = none → exec .minuteEvent s = .next s)
  ∧ ∀ (s : State) (l : LineId), s.Calm → let x := s.line l
      (x.state = .running → s.seq.room.idleTime ≤ x.idle → exec (.lineSleep l) s = .next (s.setLine l { x with
        sleepDue := true
        activity := if x.activity = .none then .exchange .sleep else x.activity
        begun := if x.activity = .none then false else x.begun }))
      ∧ (¬ (x.state = .running ∧ s.seq.room.idleTime ≤ x.idle) → exec (.lineSleep l) s = .next s)

/-! ## Exchanges on the seat lines -/

/-- How an answer is judged, in this order: no start bit within 24 bit times is NO_RESPONSE; too few characters within
the bound, a framing error or a marker of 1 is INCOMPLETE; a wrong check, a FETCH length above 24, or a kind that does
not fit the address is BAD_CHECK; an echo that differs is ORDER_MISMATCH; otherwise it is clean, with its fields
(R158, R159, R161, R162, R223, R224). What the controller sends for each exchange: a header of address and type with
marker 1, then code, length, data and check with marker 0, at most 28 characters whose sum is 0xFF (R157, R158, R223).
The title of a meeting is 48 bytes in two segments of 24 (R150, R196). That a FETCH length above 24 is judged before
completeness is the model's reading, and the number of a phase is a free value (log entries 3 and 10). -/
def Obligations.AnswersJudged : Prop :=
  (∀ (a : LineAnswer) (addr : Nat) (c : Byte), (∀ n, a.startAt = some n → 24 < n) →
    judgePoll addr a = .error .noResponse ∧ judgeFetch addr a = .error .noResponse
      ∧ judgeOrder c a = .error .noResponse ∧ judgeAssign addr a = .error .noResponse)
  ∧ (∀ (a : LineAnswer) (addr n : Nat) (c : Byte), a.startAt = some n → n ≤ 24 →
      ((¬ ∃ l : List Byte, l.length = 5 ∧ Carries l 94 a) → judgePoll addr a = .error .incomplete)
      ∧ ((¬ ∃ b : Byte, Carries [b] 38 a) → judgeOrder c a = .error .incomplete)
      ∧ ((¬ ∃ b c : Byte, Carries [b, c] 52 a) → judgeAssign addr a = .error .incomplete)
      ∧ ((¬ ∃ b : Byte, Carries [b] 388 a) → judgeFetch addr a = .error .incomplete)
      ∧ ∀ b : Byte, Carries [b] 388 a → b.toNat ≤ 24 →
          (¬ ∃ l : List Byte, l.length = b.toNat + 2 ∧ Carries l 388 a) → judgeFetch addr a = .error .incomplete)
  ∧ (∀ (a : LineAnswer) (addr : Nat) (b0 b1 b2 b3 b4 : Byte), addr < 64 → Carries [b0, b1, b2, b3, b4] 94 a →
      let screen := decide (addr = 48 ∨ addr = 49)
      (b4 ≠ ~~~(BitVec.ofNat 8 addr + b0 + b1 + b2 + b3) → judgePoll addr a = .error .badCheck)
      ∧ ((if screen then b2 ≠ 3 else b2 ≠ 1 ∧ b2 ≠ 2) → judgePoll addr a = .error .badCheck)
      ∧ (b4 = ~~~(BitVec.ofNat 8 addr + b0 + b1 + b2 + b3) → (if screen then b2 = 3 else b2 = 1 ∨ b2 = 2) →
          judgePoll addr a = .ok ⟨b0.toNat % 4, b0.toNat / 4 % 4, b0.toNat / 16 % 4, b0.getLsbD 6, b0.getLsbD 7,
            b1.getLsbD 0, if screen then .screen else if b2 = 1 then .delegate else .chair⟩))
  ∧ (∀ (a : LineAnswer) (addr : Nat) (n c : Byte) (identity : List Byte), addr < 64 →
      (24 < n.toNat → Carries [n] 388 a → judgeFetch addr a = .error .badCheck)
      ∧ (n.toNat ≤ 24 → identity.length = n.toNat → Carries ([n] ++ identity ++ [c]) 388 a →
          judgeFetch addr a = if c = ~~~(identity.foldl (· + ·) (BitVec.ofNat 8 addr + 0x80 + n)) then .ok identity
            else .error .badCheck))
  ∧ (∀ (a : LineAnswer) (c b : Byte), Carries [b] 38 a →
      judgeOrder c a = if b = c then .ok () else .error .orderMismatch)
  ∧ (∀ (a : LineAnswer) (k : Nat) (b c : Byte), Carries [b, c] 52 a →
      judgeAssign k a = if b ≠ 1 ∧ b ≠ 2 then .error .badCheck
        else if c = ~~~(0xFF + BitVec.ofNat 8 k + 0 + b) then .ok (if b = 1 then .delegate else .chair)
        else .error .orderMismatch)
  ∧ (∀ x : Exchange,
    let sent := exchangeChars x
    let bytes := sent.map (·.data)
    4 ≤ sent.length ∧ sent.length ≤ 28 ∧ sent.map (·.marker) = true :: List.replicate (sent.length - 1) false
    ∧ bytes.getD 2 0 = BitVec.ofNat 8 (sent.length - 4) ∧ bytes.foldl (· + ·) 0 = 0xFF
    ∧ bytes.take 2 = match x with
      | .poll n _ => [BitVec.ofNat 8 n, 0]
      | .confirmPoll k => [BitVec.ofNat 8 k, 0]
      | .screenPoll n => [BitVec.ofNat 8 n, 0]
      | .fetch i => [BitVec.ofNat 8 (128 + positionOfSeat i), 0]
      | .assign k => [0xFF, BitVec.ofNat 8 k]
      | .sleep => [0x40, 0x0E]
      | .unassign => [0x40, 0x0F]
      | .order u c seg => [BitVec.ofNat 8 (64 + addressOf u), match c with
          | .confirm => 1 | .speaker _ => 2 | .mic _ => 3 | .gain _ => 4 | .status _ _ => 5 | .label _ => 6
          | .item n _ _ => BitVec.ofNat 8 ((match seg with | .whole => 0x20 | .first => 0x40 | .second => 0x60)
              + n.val)])
  ∧ ∀ (u : Station) (p : Phase) (n st en secs : Nat) (title : Text) (resumed : Bool), title.length ≤ 35 →
      let c : OrderContent := .item 0 (.title p n title st en resumed) secs
      let data := fun seg : Segment =>
        (((exchangeChars (.order u c seg)).map SentChar.data).drop 3).dropLast
      (data .first).length = 24 ∧ (data .second).length = 24
      ∧ data .first ++ data .second = [Config.unnumbered .phase (phaseIndex (some p))] ++ put2 n
          ++ putText 35 title ++ put4 st ++ put4 en ++ putYesNo resumed

/-- POLL_ANSWER from a seat in service, with its kind, nothing fresh, and its card fields as held: it is PRESENT with
miss count 0, holds the counts and the level of the answer, and its card part is as it was. Each MIC press is the
floor's MIC press, then each NEXT press its NEXT press, then a changed PRIORITY level its going held or released, each
on what the one before left; any of them sets the line's idle count to 0, and none leaves it. From a LOST seat that is
probed, or a seat whose answer is fresh or of another kind, the unit returns: IDLE, PRESENT with the kind, its counts
held from the answer, its card part new, its sent levels unknown, and a CONFIRM outstanding; PRIORITY held in that
answer is its going held, after the return, at a seat in no list whose card part is empty. Without key presses, the
card fields act by the seat's card state: at NONE a card is an insertion, READING with its FETCH marked, but for an
unreadable card with no change seen; at READING an absent card is NONE again and a change seen is nothing; a read card
that is absent, or changed, is removed, a speaker being closed CARD_OUT and a request withdrawn where no seat's role
but this one changes, and the attendee is unbound, the first DUPLICATE of that attendee in seat order being BOUND in
its place; a change is then an insertion. Each of these sets the line's idle count to 0. A screen is PRESENT with its
miss count 0, or returns with every item and a CONFIRM pending. Every other unit's presence is as it was (R69, R78,
R80, R81, R168, R182, R183, R184, R187, R188, R190). -/
def Obligations.PollAnswerTaken : Prop :=
  (∀ (s : State) (i : SeatId) (a : LineAnswer) (b0 b1 b2 b3 : Byte) (k : UnitKind) (probe : Bool), s.Calm →
    s.floor.Sound →
    let l := lineOfSeat i
    let addr := positionOfSeat i
    Carries (pollReply addr b0 b1 b2 b3) 94 a → ((b2 = 1 ∧ k = .delegate) ∨ (b2 = 2 ∧ k = .chair)) →
    OnLine l (.poll addr probe) s →
    (∀ m n : Nat, m < 4 → n < 4 → probe = false → inService (s.seat i).presence = true →
      (s.seat i).kind = some k → (b1.getLsbD 0 = true → (s.seat i).confirmOutstanding = true) →
      (s.seat i).heldMic = some m → (s.seat i).heldNext = some n →
      (s.seat i).heldCard = some (b0.toNat / 16 % 4) →
      b0.getLsbD 6 = (decide ((s.seat i).card.state ≠ .none) || (s.seat i).card.unreadable) →
      let mics := (b0.toNat % 4 + 4 - m) % 4
      let nexts := (b0.toNat / 4 % 4 + 4 - n) % 4
      let held := b0.getLsbD 7
      let pressed := (nextPress i)^[nexts] ((micPress i)^[mics] s)
      let after := if held = (s.seat i).heldPriority then pressed
        else if held then priorityHeld i pressed else priorityReleased i pressed
      ∃ t, exec (.pollAnswer l a) s = .next t
        ∧ (t.seat i).presence = .present ∧ (t.seat i).missCount = 0 ∧ (t.seat i).heldMic = some (b0.toNat % 4)
        ∧ (t.seat i).heldNext = some (b0.toNat / 4 % 4) ∧ (t.seat i).heldPriority = held
        ∧ t.floor = after.floor ∧ t.log = after.log ∧ (t.seat i).card = (s.seat i).card
        ∧ (∀ u : Station, u ≠ .seat i → t.presence u = s.presence u)
        ∧ (t.line l).consecutive = 0 ∧ (t.line l).others = 0 ∧ (t.line l).counters = (s.line l).counters
        ∧ KeptBut [.floor, .log, .seats, .screens, .transmitter, .marks, Block.ofLine l] s t
        ∧ (mics = 0 → nexts = 0 → held = (s.seat i).heldPriority → (t.line l).idle = (s.line l).idle)
        ∧ ((mics ≠ 0 ∨ nexts ≠ 0 ∨ held ≠ (s.seat i).heldPriority) →
            (t.line l).idle = 0 ∧ (t.line l).minuteLast = s.now))
    ∧ (((probe = true ∧ (s.seat i).presence = .lost)
          ∨ (probe = false ∧ inService (s.seat i).presence = true
            ∧ ((b1.getLsbD 0 = true ∧ (s.seat i).confirmOutstanding = false) ∨ (s.seat i).kind ≠ some k))) →
        b0.getLsbD 7 = false → ∃ t, exec (.pollAnswer l a) s = .next t
          ∧ (t.seat i).presence = .present ∧ (t.seat i).missCount = 0 ∧ (t.seat i).kind = some k
          ∧ (t.seat i).heldMic = some (b0.toNat % 4) ∧ (t.seat i).heldNext = some (b0.toNat / 4 % 4)
          ∧ (t.seat i).heldCard = some (b0.toNat / 16 % 4) ∧ (t.seat i).heldPriority = false
          ∧ (t.seat i).card = ⟨if b0.getLsbD 6 then .reading else .none, none, none, none, false⟩
          ∧ (t.seat i).sentMic = none ∧ (t.seat i).sentSpeaker = none ∧ (t.seat i).frozen = false
          ∧ (t.seat i).confirmOutstanding = true ∧ t.speaking i = false ∧ t.requesting i = false
          ∧ (∀ u : Station, u ≠ .seat i → t.presence u = s.presence u)
          ∧ KeptBut [.floor, .log, .seats, .screens, .sequencer, .transmitter, .marks, Block.ofLine l] s t)
    ∧ (((probe = true ∧ (s.seat i).presence = .lost)
          ∨ (probe = false ∧ inService (s.seat i).presence = true
            ∧ ((b1.getLsbD 0 = true ∧ (s.seat i).confirmOutstanding = false) ∨ (s.seat i).kind ≠ some k))) →
        b0.getLsbD 7 = true → s.speaking i = false → s.requesting i = false →
        (s.seat i).card = ⟨.none, none, none, none, false⟩ →
        let back := s.modSeat i fun r => { r with presence := .present, kind := some k }
        ∃ t, exec (.pollAnswer l a) s = .next t
          ∧ (t.seat i).presence = .present ∧ (t.seat i).kind = some k ∧ (t.seat i).heldPriority = true
          ∧ (t.seat i).confirmOutstanding = true ∧ t.floor = (priorityHeld i back).floor
          ∧ t.log = (priorityHeld i back).log ∧ (t.seat i).refusal = ((priorityHeld i back).seat i).refusal
          ∧ (t.line l).idle = 0
          ∧ KeptBut [.floor, .log, .seats, .screens, .sequencer, .transmitter, .marks, Block.ofLine l] s t)
    ∧ (∀ h : Nat, probe = false → inService (s.seat i).presence = true →
        (s.seat i).kind = some k → (b1.getLsbD 0 = true → (s.seat i).confirmOutstanding = true) →
        (s.seat i).heldMic = some (b0.toNat % 4) → (s.seat i).heldNext = some (b0.toNat / 4 % 4) →
        (s.seat i).heldCard = some h → h < 4 → b0.getLsbD 7 = (s.seat i).heldPriority →
        let c := (s.seat i).card
        let there := b0.getLsbD 6
        let seen := decide (b0.toNat / 16 % 4 ≠ h)
        let empty : CardPart := ⟨.none, none, none, none, false⟩
        let inserted := fun t : State => (t.seat i).card = { empty with state := .reading }
          ∧ ((t.seat i).fetchMark = true ∨ (t.line l).activity = .exchange (.fetch i))
        ∃ t, exec (.pollAnswer l a) s = .next t
          ∧ (t.seat i).presence = .present ∧ (t.seat i).missCount = 0
          ∧ (t.seat i).heldCard = some (b0.toNat / 16 % 4)
          ∧ (∀ u : Station, u ≠ .seat i → t.presence u = s.presence u)
          ∧ KeptBut [.floor, .log, .seats, .screens, .sequencer, .transmitter, .marks, Block.ofLine l] s t
          ∧ ((seen = true ∨ there ≠ (decide (c.state ≠ .none) || c.unreadable)) →
              (t.line l).idle = 0 ∧ (t.line l).minuteLast = s.now)
          ∧ (c.state = .none →
              t.floor = s.floor ∧ t.log = s.log ∧ t.seq = s.seq
              ∧ (there = true → (seen = true ∨ c.unreadable = false) → inserted t)
              ∧ (there = true → seen = false → c.unreadable = true → (t.seat i).card = c)
              ∧ (there = false → (t.seat i).card = { c with unreadable := false }))
          ∧ (c.state = .reading →
              t.floor = s.floor ∧ t.log = s.log ∧ t.seq = s.seq
              ∧ (there = true → (t.seat i).card = c)
              ∧ (there = false → (t.seat i).card = empty ∧ (t.seat i).fetchMark = false))
          ∧ (c.state ≠ .none → c.state ≠ .reading → there = true → seen = false →
              t.floor = s.floor ∧ t.log = s.log ∧ t.seq = s.seq ∧ (t.seat i).card = c)
          ∧ (c.state ≠ .none → c.state ≠ .reading → (there = false ∨ seen = true) →
              let twin := fun j : SeatId => (s.seat j).card.state = .duplicate ∧ (s.seat j).card.attendee = c.attendee
              let bindTo := fun (n : Nat) (x : Option SeatId) =>
                s.seq.roster.map fun r => r.modify n fun y => { y with boundSeat := x }
              (there = false → (t.seat i).card = empty) ∧ (there = true → inserted t)
              ∧ (c.state ≠ .bound → t.seq = s.seq ∧ ∀ j : SeatId, j ≠ i → (t.seat j).card = (s.seat j).card)
              ∧ (∀ n, c.state = .bound → c.attendee = some n →
                  ((∀ j, ¬ twin j) → t.seq = { s.seq with roster := bindTo n none }
                    ∧ ∀ j : SeatId, j ≠ i → (t.seat j).card = (s.seat j).card)
                  ∧ ∀ j, twin j → (∀ k < j, ¬ twin k) →
                    t.seq = { s.seq with roster := bindTo n (some j) }
                    ∧ (t.seat j).card = { (s.seat j).card with state := .bound }
                    ∧ ∀ k : SeatId, k ≠ i → k ≠ j → (t.seat k).card = (s.seat k).card)
              ∧ ((c.state = .bound → ∀ n, c.attendee = some n → (∀ j, ¬ twin j)
                    ∧ ∀ x, s.rosterEntry n = some x → x.attendee.seat = none ∨ x.attendee.seat = some i) →
                  (∀ e ∈ s.floor.speakers, e.seat = i → Closed e .cardOut s t)
                  ∧ (s.requesting i = true → Withdrawn i none s t)
                  ∧ (s.speaking i = false → s.requesting i = false → t.floor = s.floor ∧ t.log = s.log)))))
  ∧ ∀ (s : State) (j : ScreenId) (a : LineAnswer) (b0 b1 b3 : Byte) (probe : Bool), s.Calm →
      let u : Station := .screen j
      let l := lineOfScreen j
      let addr := addressOf u
      Carries (pollReply addr b0 b1 3 b3) 94 a → OnLine l (.poll addr probe) s → (s.line l).second = none →
      (s.line l).rescans = [] → (s.line l).sleepDue = false →
      (probe = false → inService (s.screen j).presence = true → (s.screen j).kind = some .screen →
        (b1.getLsbD 0 = true → (s.screen j).confirmOutstanding = true) →
        ∃ t, exec (.pollAnswer l a) s = .next t
          ∧ t.presence u = .present ∧ t.missCount u = 0 ∧ (∀ v : Station, v ≠ u → t.presence v = s.presence v)
          ∧ (t.line l).others = 0 ∧ (t.line l).idle = (s.line l).idle
          ∧ KeptBut [.seats, .screens, .transmitter, .marks, Block.ofLine l] s t)
      ∧ (((probe = true ∧ (s.screen j).presence = .lost)
            ∨ (probe = false ∧ inService (s.screen j).presence = true
              ∧ ((b1.getLsbD 0 = true ∧ (s.screen j).confirmOutstanding = false)
                ∨ (s.screen j).kind ≠ some .screen))) →
          ∃ t, exec (.pollAnswer l a) s = .next t
            ∧ t.presence u = .present ∧ t.missCount u = 0 ∧ t.kind u = some .screen
            ∧ t.confirmOutstanding u = true
            ∧ (∀ n : ItemId, (t.screen j).itemSent[n] = none ∧ (t.screen j).itemMarks[n] = true)
            ∧ (∀ v : Station, v ≠ u → t.presence v = s.presence v)
            ∧ KeptBut [.seats, .screens, .transmitter, .marks, Block.ofLine l] s t)

/-- FETCH_ANSWER, clean, at a seat that is READING: no identity is no card; one shorter than 4 or longer than 16 is an
unreadable card; any other gets its card role by the filters and is HELD without a roster, UNLISTED where no attendee
has it, BOUND at the attendee that has it and is bound nowhere, and DUPLICATE where that attendee is bound. At a seat
no longer READING it is discarded. The unit is PRESENT (R79, R82, R184, R189). The effective role that the card so
gives acts on the seat's entry while the floor is OPEN, as a role set does (R45, R84, R86, R87): HELD the seat
default; UNLISTED the card role, restricted on a closed list; DUPLICATE the card role, restricted, with refusal code
CARD_IN_USE; BOUND the attendee's own role, else the card role, where no other seat is assigned to that attendee. An
attendee whose spoken total has reached the allowance, bound at a seat that is not chair-class, has its speech closed
ALLOWANCE or its request withdrawn with TIME_USED in the same change (R43, R44). -/
def Obligations.FetchAnswerTaken : Prop :=
  ∀ (s : State) (i : SeatId) (a : LineAnswer) (identity : List Byte), s.Calm →
    let l := lineOfSeat i
    let role := s.cardRole identity
    judgeFetch (positionOfSeat i) a = .ok identity → OnLine l (.fetch i) s →
    inService (s.seat i).presence = true →
    ∃ t, exec (.fetchAnswer l a) s = .next t
      ∧ (t.seat i).presence = .present ∧ (t.seat i).missCount = 0
      ∧ (t.line l).consecutive = 0 ∧ (t.line l).others = (s.line l).others + 1
      ∧ KeptBut [.floor, .log, .seats, .screens, .sequencer, .transmitter, .marks, Block.ofLine l] s t
      ∧ ((s.seat i).card.state ≠ .reading → (t.seat i).card = (s.seat i).card)
      ∧ ((s.seat i).card.state = .reading →
          (identity = [] → (t.seat i).card = ⟨.none, none, none, none, false⟩)
          ∧ (identity ≠ [] → (identity.length < 4 ∨ 16 < identity.length) →
              (t.seat i).card = ⟨.none, none, none, none, true⟩)
          ∧ (4 ≤ identity.length → identity.length ≤ 16 →
              (s.seq.roster = none → (t.seat i).card = ⟨.held, some identity, some role, none, false⟩
                ∧ (s.floor.Sound → RoleGiven i ⟨(s.seat i).defaultRole, false⟩ .notPermitted s t))
              ∧ (∀ r : List RosterEntry, s.seq.roster = some r → (∀ x ∈ r, x.attendee.card ≠ some identity) →
                  (t.seat i).card = ⟨.unlisted, some identity, some role, none, false⟩
                  ∧ (s.floor.Sound → RoleGiven i ⟨role, s.floor.policy.closedList⟩ .notPermitted s t))
              ∧ (∀ (r : List RosterEntry) (n : Nat) (x : RosterEntry), s.seq.roster = some r → r[n]? = some x →
                  x.attendee.card = some identity → (∀ m < n, ∀ y, r[m]? = some y → y.attendee.card ≠ some identity) →
                  (x.boundSeat = none → (t.seat i).card = ⟨.bound, some identity, some role, some n, false⟩
                    ∧ t.seq.roster = some (r.set n { x with boundSeat := some i })
                    ∧ (s.floor.Sound → (x.attendee.seat = none ∨ x.attendee.seat = some i) →
                        let given : EffectiveRole := ⟨x.attendee.role.getD role, false⟩
                        let chair := s.roles.defs[given.number].chairClass
                        let allowance := s.floor.policy.allowance
                        ((allowance = 0 ∨ x.total < allowance ∨ (chair = true ∧ s.effRole i ≠ given)) →
                          RoleGiven i given .notPermitted s t)
                        ∧ (0 < allowance → allowance ≤ x.total → chair = false →
                            (s.requesting i = true → Withdrawn i (some .timeUsed) s t)
                            ∧ ∀ e ∈ s.floor.speakers, e.seat = i → e.chairClass = false →
                                s.roles.defs[given.number].maySpeak = true → Closed e .allowance s t)))
                  ∧ (x.boundSeat ≠ none →
                      (t.seat i).card = ⟨.duplicate, some identity, some role, some n, false⟩
                      ∧ (s.floor.Sound → RoleGiven i ⟨role, true⟩ .cardInUse s t)))))

/-- ORDER_ACKNOWLEDGED: the unit is PRESENT, and the order goes to the block that formed it: a MIC, GAIN or SPEAKER
order sets the sent value it carried, a LABEL or STATUS the seat's last-sent record, a whole item or its second
segment the screen's, and a CONFIRM ends what is outstanding. A first segment makes its second segment the next
exchange. The floor and every other unit's presence are as they were (R66, R143, R162, R184, R188, R193, R196). What a
RUNNING line sends next: the second segment that is due; the enumeration of a RESCAN; the SLEEP that is due; a poll
after four other exchanges; else the first in turn of the units with an urgent order pending, with the content its
levels now need; else a FETCH; else a STATUS, LABEL or ITEM order; else the next poll of the round (R169, R176, R191,
R192, R193, R194). That the enumeration of a RESCAN comes before a SLEEP that is due, where both are called for, is
the model's choice (log entry 65), and so is the order after a failed first segment, where R193 and the worked
sequence 9.8 differ (log entry 70). -/
def Obligations.OrderAcknowledgedRecords : Prop :=
  (∀ (s : State) (u : Station) (c : OrderContent) (seg : Segment) (a : LineAnswer), s.Calm →
    let l := lineOfStation u
    judgeOrder (orderCheck u c seg) a = .ok () → OnLine l (.order u c seg) s → (s.line l).second = none →
    inService (s.presence u) = true →
    ∃ t, exec (.orderAcknowledged l a) s = .next t
      ∧ t.presence u = .present ∧ t.missCount u = 0 ∧ (∀ v : Station, v ≠ u → t.presence v = s.presence v)
      ∧ (t.line l).consecutive = 0 ∧ (t.line l).counters = (s.line l).counters
      ∧ KeptBut [.seats, .screens, .transmitter, .marks, Block.ofLine l] s t
      ∧ (∀ i : SeatId, u = .seat i →
          (t.line l).others = (s.line l).others + 1
          ∧ (∀ v, c = .mic v → (t.seat i).sentMic = some v)
          ∧ (∀ n, c = .gain n → (t.seat i).sentMic = some (.gain n))
          ∧ (∀ v, c = .speaker v → (t.seat i).sentSpeaker = some v)
          ∧ (∀ x, c = .label x → (t.seat i).labelSent = some x)
          ∧ (∀ x n, c = .status x n → (t.seat i).statusSent = some x)
          ∧ (c = .confirm → (t.seat i).confirmOutstanding = false))
      ∧ (∀ j : ScreenId, u = .screen j →
          (c = .confirm → seg = .whole → (t.screen j).confirmOutstanding = false)
          ∧ (∀ n x k, c = .item n x k → seg ≠ .first → (t.screen j).itemSent[n] = some x)
          ∧ (seg = .first → (t.line l).activity = .exchange (.order u c .second) ∧ (t.line l).begun = false
              ∧ (t.line l).others = (s.line l).others ∧ (t.screen j).itemSent = (s.screen j).itemSent)))
  ∧ ∀ (s : State) (l : LineId),
      let x := s.line l
      let t := nextExchange l s
      let sent := (t.line l).activity
      let urgent := fun u : Station => s.NextInTurn l x.urgentPtr s.urgentClaim u
      let bulk := fun u : Station => s.NoClaim l s.urgentClaim ∧ s.NoClaim l s.fetchDue
        ∧ s.NextInTurn l x.bulkPtr s.bulkClaim u
      (∀ j c, x.second = some (j, c) →
        sent = .exchange (.order (.screen j) c .second) ∧ (t.line l).second = none)
      ∧ (x.second = none → x.rescans ≠ [] → (t.line l).state = .enumerating ∧ sent = .exchange .unassign)
      ∧ (x.second = none → x.rescans = [] → x.sleepDue = true → sent = .exchange .sleep)
      ∧ (x.second = none → x.rescans = [] → x.sleepDue = false →
        (4 ≤ x.others → s.servedAddresses l ≠ [] → ∃ n probe, sent = .exchange (.poll n probe))
        ∧ (x.others < 4 →
          (∀ u, urgent u → s.marked u .confirm = true →
            sent = .exchange (.order u .confirm .whole) ∧ t.marked u .confirm = false
              ∧ (t.line l).urgentPtr = some (addressOf u))
          ∧ (∀ i : SeatId, urgent (.seat i) → (s.seat i).marks.confirm = false →
              let r := s.seat i
              (r.marks.speaker = true → r.sentSpeaker ≠ some r.targetSpeaker →
                sent = .exchange (.order (.seat i) (.speaker r.targetSpeaker) .whole))
              ∧ (r.marks.speaker = false → r.marks.mic = true → r.targetMic = .off → r.sentMic ≠ some .off →
                  sent = .exchange (.order (.seat i) (.mic .off) .whole))
              ∧ (∀ g, r.marks.speaker = false → r.marks.mic = true → r.targetMic = .gain g →
                  (r.sentMic = none ∨ r.sentMic = some .off) →
                  sent = .exchange (.order (.seat i) (.mic (.gain g)) .whole))
              ∧ ∀ g h, r.marks.speaker = false → r.marks.mic = false → r.targetMic = .gain g →
                  r.sentMic = some (.gain h) → g ≠ h →
                  sent = .exchange (.order (.seat i) (.gain (gainStep s.masters.slew h g)) .whole))
          ∧ (∀ i : SeatId, s.NoClaim l s.urgentClaim → s.NextInTurn l x.fetchPtr s.fetchDue (.seat i) →
              sent = .exchange (.fetch i) ∧ (t.seat i).fetchMark = false
                ∧ (t.line l).fetchPtr = some (positionOfSeat i))
          ∧ (∀ i : SeatId, bulk (.seat i) → (s.seat i).marks.status = true →
              (s.seat i).statusSent ≠ some (s.statusKey i) →
              sent = .exchange (.order (.seat i) (.status (s.statusKey i) (s.status i).2) .whole))
          ∧ (∀ i : SeatId, bulk (.seat i) → (s.seat i).marks.status = false →
              (s.seat i).labelSent ≠ some (s.labelOf i).1 →
              sent = .exchange (.order (.seat i) (.label (s.labelOf i).1) .whole))
          ∧ (∀ (j : ScreenId) (n : ItemId), bulk (.screen j) → (s.screen j).itemMarks[n] = true →
              (∀ m : ItemId, m < n → (s.screen j).itemMarks[m] = false) →
              (s.screen j).itemSent[n] ≠ some (s.itemKey n) →
              sent = .exchange (.order (.screen j) (.item n (s.itemKey n) (s.itemSeconds n))
                (if itemLong (s.itemKey n) then .first else .whole)))
          ∧ (∀ n : Nat, s.NoClaim l s.urgentClaim → s.NoClaim l s.fetchDue → s.NoClaim l s.bulkClaim →
              x.round.begun = true → n ∈ s.servedAddresses l → x.round.lastPolled < n →
              (∀ m ∈ s.servedAddresses l, x.round.lastPolled < m → n ≤ m) →
              sent = .exchange (.poll n false))))

/-- EXCHANGE_FAILURE of a poll, FETCH or ORDER counts by its kind and is a miss of the unit: PRESENT becomes SILENT,
and the third miss makes it LOST, a seat leaving the floor with its card part cleared and its levels frozen. A failed
order is marked again, and a display record becomes UNKNOWN; a failed FETCH of a READING seat is marked again; after
four exchanges that are no polls a poll follows. A failed probe counts and leaves its unit LOST (R67, R143, R162,
R184, R185, R189, R193). -/
def Obligations.ExchangeFailureIsMiss : Prop :=
  ∀ (s : State) (u : Station) (x : Exchange) (k : FailureKind) (a : LineAnswer), s.Calm → s.floor.Sound →
    let l := lineOfStation u
    OnLine l x s → (s.line l).second = none → (s.line l).rescans = [] → (s.line l).sleepDue = false →
    ((∃ probe, x = .poll (addressOf u) probe ∧ judgePoll (addressOf u) a = .error k
        ∧ probe = decide (s.presence u = .lost))
      ∨ (∃ i, u = .seat i ∧ x = .fetch i ∧ judgeFetch (positionOfSeat i) a = .error k)
      ∨ ∃ c seg, x = .order u c seg ∧ judgeOrder (orderCheck u c seg) a = .error k) →
    ∃ t, exec (.exchangeFailure l a) s = .next t
      ∧ (t.line l).counters = (s.line l).counters.after k ∧ (t.line l).consecutive = 0
      ∧ (∀ v : Station, v ≠ u → t.presence v = s.presence v)
      ∧ KeptBut [.floor, .log, .seats, .screens, .sequencer, .transmitter, .marks, Block.ofLine l] s t
      ∧ (s.presence u = .present → t.presence u = .silent ∧ t.missCount u = 1 ∧ t.floor = s.floor)
      ∧ (s.presence u = .silent → s.missCount u < 2 →
          t.presence u = .silent ∧ t.missCount u = s.missCount u + 1 ∧ t.floor = s.floor)
      ∧ (s.presence u = .silent → 2 ≤ s.missCount u → t.presence u = .lost ∧ t.missCount u = 0
          ∧ ∀ i, u = .seat i → t.Dropped i)
      ∧ (s.presence u = .lost → t.presence u = .lost ∧ t.floor = s.floor)
      ∧ (∀ c seg, x = .order u c seg → orderFor u c = true →
          (t.presence u = .lost → t.marked u (contentKind c) = true)
          ∧ (inService (t.presence u) = true → 3 ≤ (s.line l).others →
              t.marked u (contentKind c) = true ∧ ∃ n probe, (t.line l).activity = .exchange (.poll n probe))
          ∧ (∀ i v, u = .seat i → c = .label v → (t.seat i).labelSent = none)
          ∧ (∀ i v n, u = .seat i → c = .status v n → (t.seat i).statusSent = none)
          ∧ (∀ j n v m, u = .screen j → c = .item n v m → (t.screen j).itemSent[n] = none))
      ∧ (∀ i, u = .seat i → x = .fetch i → (s.seat i).card.state = .reading → inService (t.presence u) = true →
          3 ≤ (s.line l).others → (t.seat i).fetchMark = true
            ∧ ∃ n probe, (t.line l).activity = .exchange (.poll n probe))

/-- BIT_ERROR abandons the exchange on a line: it counts, the line lies idle for the resync gap, an order is marked
again and no unit misses; the 16th in a row puts the line in FAULT with cause BIT_ERRORS. RESYNC_GAP_END sends the
exchange again in enumeration, and SLEEP where that is due on a RUNNING line. LINE_GOES_HIGH lets the engine begin
what it waited to drive (R163, R164, R165, R169, R173). The exchange counts none of those between two polls (R193);
that the second segment of an item counts one is the model's reading (log entry 66). Where chapter 8 leaves open what
a whole display order's record becomes, nothing is said (log entry 35). -/
def Obligations.BitErrorAbandons : Prop :=
  (∀ (s : State) (l : LineId) (x : Exchange), s.Calm → (s.line l).activity = .exchange x →
    let c := (s.line l).counters
    ((s.line l).consecutive < 15 → ∃ t, exec (.bitError l) s = .next t
      ∧ t.line l = { s.line l with
          activity := .gap x, begun := false, consecutive := (s.line l).consecutive + 1
          others := (s.line l).others + (match x with | .order _ _ .second => 1 | _ => 0)
          counters := { c with bitError := oneMore c.bitError } }
      ∧ KeptBut [.seats, .screens, Block.ofLine l] s t
      ∧ (∀ u : Station, t.presence u = s.presence u ∧ t.missCount u = s.missCount u)
      ∧ (∀ i o, x = .order (.seat i) o .whole → (∀ n k m, o ≠ .item n k m) →
          t.marked (.seat i) (contentKind o) = true)
      ∧ (∀ j n k m seg, x = .order (.screen j) (.item n k m) seg → (t.screen j).itemMarks[n] = true
          ∧ (seg ≠ .whole → (t.screen j).itemSent[n] = none))
      ∧ (∀ i, x = .fetch i → inService (s.seat i).presence = true → (s.seat i).card.state = .reading →
          (t.seat i).fetchMark = true))
    ∧ (15 ≤ (s.line l).consecutive → ∃ t, exec (.bitError l) s = .next t
        ∧ (t.line l).state = .fault ∧ (t.line l).cause = some .bitErrors ∧ (t.line l).consecutive = 0
        ∧ (t.line l).activity = .none
        ∧ (t.line l).counters = { c with bitError := oneMore c.bitError, faults := oneMore c.faults }))
  ∧ (∀ (s : State) (l : LineId) (x : Exchange), s.Calm → (s.line l).activity = .gap x →
      ((s.line l).state = .enumerating → exec (.resyncGapEnd l) s =
        .next (s.setLine l { s.line l with activity := .exchange x, begun := false }))
      ∧ ((s.line l).state ≠ .enumerating → (s.line l).second = none → (s.line l).rescans = [] →
          (s.line l).sleepDue = true → exec (.resyncGapEnd l) s =
            .next (s.setLine l { s.line l with activity := .exchange .sleep, begun := false }))
      ∧ ((s.line l).state ≠ .enumerating → (s.line l).second = none → (s.line l).rescans = [] →
          (s.line l).sleepDue = false → 4 ≤ (s.line l).others → s.servedAddresses l ≠ [] →
          ∃ t n probe, exec (.resyncGapEnd l) s = .next t ∧ KeptBut [Block.ofLine l] s t
            ∧ (t.line l).activity = .exchange (.poll n probe)))
  ∧ ∀ (s : State) (l : LineId), s.Calm → (s.line l).activity ≠ .none →
      exec (.lineGoesHigh l) s = .next (s.setLine l { s.line l with begun := true })

/-! ## Line states -/

/-- LINE_FAULT, SHORTED while the engine waits for a low line or wakes it, BIT_ERRORS where 16 have come in a row: the
line is in FAULT with the cause, no exchange, no bit errors counted and one more fault; a fault notice names it. Each
of its units in service is LOST, a seat leaving the floor with its card cleared and its levels frozen. Cut off in
enumeration, the positions found are LOST with the kinds found and the default roles of those kinds, and every other
unit ABSENT. A line that owes START its report gives it with state FAULT and the seats found before the fault, and
where the other has reported START is answered with both reports. Where no such cause holds nothing changes (R73,
R164, R165, R170, R177, R185, R212). That a cause that does not hold changes nothing is the model's choice; that the
positions found keep the kinds found, and that no screens count as found, is its reading (log entries 2, 34 and 52).
-/
def Obligations.LineFaultLosesUnits : Prop :=
  ∀ (s : State) (l : LineId) (cause : FaultCause), s.Calm → s.floor.Sound →
    let x := s.line l
    let holds := match cause with
      | .shorted => x.state = .waking
          ∨ ((x.state = .running ∨ x.state = .enumerating) ∧ x.activity ≠ .none ∧ x.begun = false)
      | .bitErrors => 16 ≤ x.consecutive ∧ x.state ≠ .fault
    let told : LineReport := ⟨.fault, if x.state = .enumerating then x.enumeration.kinds.length else x.seatsFound,
      if x.state = .enumerating then [] else x.screensFound⟩
    (¬ holds → exec (.lineFault l cause) s = .next s)
    ∧ (holds → x.reportOwed = true → ∃ t, exec (.lineFault l cause) s = .next t
        ∧ (t.line l).reportOwed = false ∧ (t.line l).reported = some told
        ∧ ∀ tag, x.rescans = [] → s.link.startTag = some tag → s.clock = none →
            (∀ m : LineId, m ≠ l → (s.line m).reportOwed = false) →
            let answered := fun m : LineId => reportBytes (if m = l then told else startLineReport (s.line m))
            t.link.run = true ∧ t.link.startTag = none
            ∧ Placed ⟨.reply, ⟨0xC8, tag, [0] ++ answered .a ++ answered .b⟩⟩ s t)
    ∧ (holds → x.rescans = [] → x.reportOwed = false → ∃ t, exec (.lineFault l cause) s = .next t
        ∧ (let found := if x.state = .enumerating then x.enumeration.kinds.length else x.seatsFound
           t.line l = { x with
            state := .fault, cause := some cause, consecutive := 0, activity := .none, begun := false
            second := none, sleepDue := false, seatsFound := found
            screensFound := if x.state = .enumerating then [] else x.screensFound
            counters := { x.counters with faults := oneMore x.counters.faults } })
        ∧ t.link.faultNote = some (.lineFault l cause)
        ∧ ((∃ g, s.link.onLine = some g) → t.link.marks.fault = true)
        ∧ KeptBut [.floor, .log, .seats, .screens, .sequencer, .transmitter, .marks, Block.ofLine l] s t
        ∧ (∀ u : Station, lineOfStation u ≠ l → t.presence u = s.presence u)
        ∧ (x.state ≠ .enumerating → ∀ u : Station, lineOfStation u = l →
            (inService (s.presence u) = true → t.presence u = .lost ∧ t.missCount u = 0)
            ∧ (inService (s.presence u) = false → t.presence u = s.presence u)
            ∧ ∀ i, u = .seat i → inService (s.presence u) = true → t.Dropped i)
        ∧ (x.state = .enumerating → x.enumeration.kinds.length ≤ 32 →
            (∀ n : Fin 32, t.presence (.seat (seatAtPosition l (n.val + 1)))
              = if n.val < x.enumeration.kinds.length then .lost else .absent)
            ∧ (∀ n kind, x.enumeration.kinds[n]? = some kind →
                let i := seatAtPosition l (n + 1)
                (t.seat i).kind = some kind ∧ (t.seat i).hostSet = (s.seat i).hostSet
                ∧ (t.seat i).defaultRole = if (s.seat i).hostSet then (s.seat i).defaultRole
                    else if kind = .chair then 1 else 0)
            ∧ t.presence (.screen (screenAt l false)) = .absent
            ∧ t.presence (.screen (screenAt l true)) = .absent))

/-- WAKE_REQUEST wakes an ASLEEP line for a low of 150 µs to 5 ms and does nothing else. WAKE_DELIMITER_END of a line
woken by START or for a RESCAN begins enumeration with UNASSIGN, its idle count at 0 and the minute last counted the
current one; any other is RUNNING with the same. SLEEP sent clean puts the line ASLEEP, or wakes it where a RESCAN
came; with no sleep due, which no run shows, it stays RUNNING (R164, R166, R167, R169, R172, R176). That a RESCAN
taken while SLEEP is on the line wakes the line at its end is the model's reading, and that last case and that a
delimiter's end on a line that is not WAKING changes nothing are its choice (log entries 2, 21 and 59). -/
def Obligations.LinesWakeAndSleep : Prop :=
  ∀ (s : State) (l : LineId), s.Calm →
    let x := s.line l
    (∀ low : Nat, exec (.wakeRequest l low) s = .next
      (if x.state = .asleep ∧ 150 ≤ low ∧ low ≤ 5000 then
        s.setLine l { x with state := .waking, activity := .wake, begun := false }
       else s))
    ∧ (x.state = .waking → (x.reportOwed = true ∨ x.rescans ≠ []) → exec (.wakeDelimiterEnd l) s = .next
        (s.setLine l { x with
          state := .enumerating, cause := none, enumOwed := true, sleepDue := false, begun := false
          enumeration := ⟨0, 1, 0, false, 0, [], []⟩, activity := .exchange .unassign
          idle := 0, minuteLast := s.now }))
    ∧ (x.state = .waking → x.reportOwed = false → x.rescans = [] → ∃ t, exec (.wakeDelimiterEnd l) s = .next t
        ∧ (t.line l).state = .running ∧ (t.line l).idle = 0 ∧ (t.line l).minuteLast = s.now
        ∧ (t.line l).cause = none ∧ (t.line l).others = 0 ∧ KeptBut [.seats, .screens, Block.ofLine l] s t
        ∧ (∀ u : Station, t.presence u = s.presence u)
        ∧ ((∀ (u : Station) (k : OrderKind), s.marked u k = false) → (∀ i : SeatId, (s.seat i).fetchMark = false) →
            ∀ (n : Nat) (rest : List Nat), s.servedAddresses l = n :: rest →
            (t.line l).activity = .exchange (.poll n false)))
    ∧ (x.state ≠ .waking → exec (.wakeDelimiterEnd l) s = .next s)
    ∧ (x.activity = .exchange .sleep → x.sleepDue = true → exec (.sleep l) s = .next
        (s.setLine l { x with
          state := if x.rescans = [] then .asleep else .waking, sleepDue := false, begun := false, consecutive := 0
          activity := if x.rescans = [] then .none else .wake }))
    ∧ (OnLine l .sleep s → x.sleepDue = false → x.rescans = [] → x.second = none → ∃ t,
        exec (.sleep l) s = .next t ∧ (t.line l).state = .running ∧ (t.line l).consecutive = 0
        ∧ KeptBut [.seats, .screens, Block.ofLine l] s t)

/-- LINE_RETRY_END on a FAULT line: held low, it stays in FAULT with cause SHORTED, and with its cause where the pulse
is lost without that; quiet with nothing to probe, it enumerates where enumeration is owed and is RUNNING otherwise; a
clean answer of the lowest assigned address makes it RUNNING and that unit returns; a failed probe counts by its kind
and a bit error as one, and the FAULT stays with its cause. That the count of bit errors in a row stops at 16 there,
with no new entry of FAULT, is the model's choice (log entry 69). A result that does not fit the retry, and one
without a retry, changes nothing (R164, R171, R187). That last point is the model's choice (log entries 2 and 32).
That the idle count and the minute last counted stay where a retry leads to enumeration is the model's choice (log
entry 58). -/
def Obligations.RetryEndsFault : Prop :=
  ∀ (s : State) (l : LineId), s.Calm → (s.line l).state = .fault → (s.line l).rescans = [] →
    (s.line l).second = none → (s.line l).sleepDue = false →
    let x := s.line l
    let probe : Option Nat := if x.enumOwed then none else if 1 ≤ x.seatsFound then some 1
      else if 48 ∈ x.screensFound then some 48 else if 49 ∈ x.screensFound then some 49 else none
    (x.activity ≠ .retry → ∀ r, exec (.lineRetryEnd l r) s = .next s)
    ∧ (x.activity = .retry →
        exec (.lineRetryEnd l .heldLow) s =
          .next (s.setLine l { x with activity := .none, begun := false, cause := some .shorted })
        ∧ exec (.lineRetryEnd l .pulseLost) s = .next (s.setLine l { x with activity := .none, begun := false })
        ∧ (probe = none → x.enumOwed = true → exec (.lineRetryEnd l .quiet) s = .next (s.setLine l { x with
            state := .enumerating, cause := none, sleepDue := false, begun := false, consecutive := 0
            enumeration := ⟨0, 1, 0, false, 0, [], []⟩, activity := .exchange .unassign }))
        ∧ (probe = none → x.enumOwed = false → ∃ t, exec (.lineRetryEnd l .quiet) s = .next t
            ∧ (t.line l).state = .running ∧ (t.line l).cause = none ∧ (t.line l).consecutive = 0
            ∧ (t.line l).idle = 0 ∧ KeptBut [.seats, .screens, Block.ofLine l] s t)
        ∧ (∀ n a, probe = some n → ∀ k, judgePoll n a = .error k →
            exec (.lineRetryEnd l (.probed a)) s = .next (s.setLine l { x with
              activity := .none, begun := false, consecutive := 0, counters := x.counters.after k }))
        ∧ (∀ n a f u, probe = some n → judgePoll n a = .ok f → stationAt l n = some u → s.presence u = .lost →
            ∃ t, exec (.lineRetryEnd l (.probed a)) s = .next t
              ∧ (t.line l).state = .running ∧ (t.line l).cause = none ∧ (t.line l).consecutive = 0
              ∧ t.presence u = .present ∧ t.kind u = some f.kind ∧ t.confirmOutstanding u = true
              ∧ ∀ v : Station, v ≠ u → t.presence v = s.presence v)
        ∧ (∀ n, probe = some n → exec (.lineRetryEnd l .bitError) s = .next (s.setLine l { x with
            activity := .none, begun := false, consecutive := min 16 (x.consecutive + 1)
            counters := { x.counters with bitError := oneMore x.counters.bitError } }))
        ∧ (∀ n, probe = some n → exec (.lineRetryEnd l .quiet) s = .next s)
        ∧ (probe = none → exec (.lineRetryEnd l .bitError) s = .next s
            ∧ ∀ a, exec (.lineRetryEnd l (.probed a)) s = .next s))

/-- RESCAN in RUN makes each unit of the line in service LOST, seats leaving the floor, and waits for its reply behind
those that wait already: an ASLEEP line wakes, a RUNNING line that makes no exchange begins to enumerate, and one that
makes an exchange lets it end. In CONFIG, and for a line OFF or in FAULT, it is WRONG_STATE; ENUMERATING, or WAKING
with a RESCAN waiting, BUSY; another line BAD_VALUE. That a line is WAKING for a RESCAN from the taking of one, that
one enumeration answers several, and that the line byte is 0 for A and 1 for B, is the model's reading (log entries 8
and 22) (R166, R176, R185, R203). -/
def Obligations.RescanLosesUnits : Prop :=
  ∀ (s : State) (tag : Byte), s.Ready →
    (∀ l : LineId, let x := s.line l
      let p : List Byte := [match l with | .a => 0 | .b => 1]
      ((s.link.run = false ∨ x.state = .off ∨ x.state = .fault) →
        exec (.rescan tag p) s = .next (s.answer 0x41 tag .wrongState []))
      ∧ (s.link.run = true → x.state ≠ .off → x.state ≠ .fault → 
          (x.state = .enumerating ∨ (x.state = .waking ∧ x.rescans ≠ [])) →
          exec (.rescan tag p) s = .next (s.answer 0x41 tag .busy []))
      ∧ (s.link.run = true → (x.state = .asleep ∨ (x.state = .waking ∧ x.rescans = []) ∨ x.state = .running) →
          s.floor.Sound → ∃ t, exec (.rescan tag p) s = .next t ∧ Deferred s t
          ∧ (t.line l).rescans = x.rescans ++ [tag]
          ∧ (x.state = .asleep → (t.line l).state = .waking ∧ (t.line l).activity = .wake)
          ∧ (x.state = .waking → t.line l = { x with rescans := [tag] })
          ∧ (x.state = .running → x.activity ≠ .none → t.line l = { x with rescans := x.rescans ++ [tag] })
          ∧ (x.state = .running → x.activity = .none → x.second = none →
              (t.line l).state = .enumerating ∧ (t.line l).activity = .exchange .unassign
              ∧ (t.line l).enumOwed = true)
          ∧ (∀ u : Station, t.presence u
              = if lineOfStation u = l ∧ inService (s.presence u) = true then .lost else s.presence u)
          ∧ (∀ i : SeatId, lineOfSeat i = l → inService (s.seat i).presence = true → t.Dropped i)
          ∧ KeptBut [.floor, .log, .seats, .screens, .sequencer, .transmitter, .marks, Block.ofLine l] s t))
    ∧ (∀ b : Byte, b ≠ 0 → b ≠ 1 → exec (.rescan tag [b]) s = .next (s.answer 0x41 tag .badValue []))
    ∧ ∀ p : List Byte, p.length ≠ 1 → exec (.rescan tag p) s = .next (s.answer 0x41 tag .badLength [])

/-! ## Enumeration -/

/-- The steps of an enumeration, each changing the line alone: after two UNASSIGNs position 1 is given; a position
found, by its ASSIGN's answer or a confirming poll, is followed by the next, and position 32 by the screens; a failed
ASSIGN is followed by confirming polls; no answer to them ends the seat part where the ASSIGN had none either or was
the third, and sends the ASSIGN again otherwise; three failures of other kinds end it. Address 48 is polled until it
answers, gives no response, or fails three times, and then 49, which is polled again after a failure of another kind
than NO_RESPONSE until it has failed three times; what ends its polls ends the enumeration (R172, R173, R174). -/
def Obligations.EnumerationSteps : Prop :=
  ∀ (s : State) (l : LineId) (a : LineAnswer), s.Calm → (s.line l).state = .enumerating →
    let x := s.line l
    let e := x.enumeration
    let goesOn := fun (n : Exchange) (e' : EnumState) (c : LineCounters) => s.setLine l { x with
      activity := .exchange n, begun := false, consecutive := 0, enumeration := e', counters := c }
    let given := fun (k : Nat) (kind : UnitKind) => if k < 32 then
        goesOn (.assign (k + 1)) { e with kinds := e.kinds ++ [kind], position := k + 1, assigns := 1, polls := 0 }
          x.counters
      else goesOn (.screenPoll 48) { e with kinds := e.kinds ++ [kind], polls := 0 } x.counters
    (x.activity = .exchange .unassign → exec (.unassign l) s = .next
      (if e.unassigns = 0 then goesOn .unassign { e with unassigns := 1 } x.counters
       else goesOn (.assign 1) { e with unassigns := e.unassigns + 1, position := 1, assigns := 1, polls := 0 }
        x.counters))
    ∧ (∀ k : Nat, x.activity = .exchange (.assign k) →
        (∀ kind, judgeAssign k a = .ok kind → exec (.assignAnswer l a) s = .next (given k kind))
        ∧ ∀ f, judgeAssign k a = .error f → exec (.assignAnswer l a) s = .next
            (goesOn (.confirmPoll k) { e with noResponse := decide (f = .noResponse), polls := 0 }
              (x.counters.after f)))
    ∧ (∀ k : Nat, x.activity = .exchange (.confirmPoll k) →
        (∀ f, judgePoll k a = .ok f → exec (.confirmingPoll l a) s = .next (given k f.kind))
        ∧ (judgePoll k a = .error .noResponse → exec (.confirmingPoll l a) s = .next
            (if e.noResponse = true ∨ 3 ≤ e.assigns then
              goesOn (.screenPoll 48) { e with polls := 0 } (x.counters.after .noResponse)
             else goesOn (.assign k) { e with assigns := e.assigns + 1, polls := 0 } (x.counters.after .noResponse)))
        ∧ ∀ f, f ≠ .noResponse → judgePoll k a = .error f → exec (.confirmingPoll l a) s = .next
            (if 2 ≤ e.polls then goesOn (.screenPoll 48) { e with polls := 0 } (x.counters.after f)
             else goesOn (.confirmPoll k) { e with polls := e.polls + 1 } (x.counters.after f)))
    ∧ (x.activity = .exchange (.screenPoll 48) →
        (∀ f, judgePoll 48 a = .ok f → exec (.screenPoll l a) s = .next
          (goesOn (.screenPoll 49) { e with polls := 0, screens := e.screens ++ [48] } x.counters))
        ∧ ∀ f, judgePoll 48 a = .error f → exec (.screenPoll l a) s = .next
            (if f = .noResponse ∨ 2 ≤ e.polls then
              goesOn (.screenPoll 49) { e with polls := 0 } (x.counters.after f)
             else goesOn (.screenPoll 48) { e with polls := e.polls + 1 } (x.counters.after f)))
    ∧ (x.activity = .exchange (.screenPoll 49) → e.polls < 2 →
        ∀ f, f ≠ .noResponse → judgePoll 49 a = .error f → exec (.screenPoll l a) s = .next
          (goesOn (.screenPoll 49) { e with polls := e.polls + 1 } (x.counters.after f)))

/-- The poll of address 49 that ends an enumeration: positions 1 to the seats found are PRESENT with the kinds found,
their default role 1 for CHAIR and else 0 unless the host set it, every other seat and each screen not found is
ABSENT, and the line is RUNNING with what it found and nothing owed. Each RESCAN that waits is then answered, in the
order they were taken, which is the model's reading where there are several (log entry 22); a START for which the
other line has reported is answered with what each line reported, and the part is in RUN (R73, R174, R175, R176, R187,
R212). It holds with the clock UNSET, and with a set clock where nothing of the meeting sequence is due. The bytes of
line states and screens found are free values of the model (log entry 3). -/
def Obligations.EnumerationEnds : Prop :=
  ∀ (s : State) (l : LineId) (a : LineAnswer), s.Calm → s.floor.Sound → (s.line l).state = .enumerating →
    (s.line l).activity = .exchange (.screenPoll 49) → (s.line l).second = none →
    (∀ f, judgePoll 49 a = .error f → f = .noResponse ∨ 2 ≤ (s.line l).enumeration.polls) →
    (s.line l).enumeration.kinds.length ≤ 32 → (s.clock = none ∨ s.NothingDue) →
    let x := s.line l
    let kinds := x.enumeration.kinds
    let screens := x.enumeration.screens ++ (match judgePoll 49 a with | .ok _ => [49] | .error _ => [])
    ∃ t, exec (.screenPoll l a) s = .next t
      ∧ (t.line l).state = .running ∧ (t.line l).enumOwed = false ∧ (t.line l).seatsFound = kinds.length
      ∧ (t.line l).screensFound = screens ∧ (t.line l).idle = 0 ∧ (t.line l).rescans = []
      ∧ (t.line l).reportOwed = false
      ∧ (∀ n : Fin 32, let i := seatAtPosition l (n.val + 1)
          (∀ kind, kinds[n.val]? = some kind → (t.seat i).presence = .present ∧ (t.seat i).kind = some kind
            ∧ (t.seat i).missCount = 0 ∧ (t.seat i).frozen = false ∧ (t.seat i).confirmOutstanding = true
            ∧ (t.seat i).hostSet = (s.seat i).hostSet
            ∧ (t.seat i).defaultRole = if (s.seat i).hostSet then (s.seat i).defaultRole
                else if kind = .chair then 1 else 0)
          ∧ (kinds.length ≤ n.val → (t.seat i).presence = .absent ∧ (t.seat i).kind = none ∧ t.Dropped i))
      ∧ (∀ second : Bool, let j := screenAt l second
          (t.screen j).presence = if (if second then 49 else 48) ∈ screens then .present else .absent)
      ∧ (∀ u : Station, lineOfStation u ≠ l → t.presence u = s.presence u)
      ∧ KeptBut [.floor, .log, .seats, .screens, .sequencer, .transmitter, .marks, .runState, Block.ofLine l] s t
      ∧ (∀ (tag : Byte) (tags : List Byte), x.rescans = tag :: tags → s.link.startTag = none →
          let told := fun g : Byte => (⟨.reply, ⟨0xC1, g, [0] ++ put1 kinds.length ++ screensByte screens
            ++ [Config.unnumbered .lineState 4]⟩⟩ : OutFrame)
          t.link.run = s.link.run ∧ t.link.outstanding = s.link.outstanding
          ∧ match s.link.onLine with
            | none => t.link.onLine = some (told tag) ∧ t.link.waiting = tags.map told
            | some g => t.link.onLine = some g ∧ t.link.waiting = s.link.waiting ++ (tag :: tags).map told)
      ∧ (∀ tag, x.rescans = [] → s.link.startTag = some tag →
          (∀ m : LineId, m ≠ l → (s.line m).reportOwed = false) →
          let told := fun m : LineId =>
            if m = l ∧ (x.reportOwed = true ∨ x.reported = none) then lineReport (t.line m)
            else reportBytes (startLineReport (s.line m))
          t.link.run = true ∧ t.link.startTag = none
          ∧ (x.reportOwed = true → (t.line l).reported = some ⟨.running, kinds.length, screens⟩)
          ∧ Placed ⟨.reply, ⟨0xC8, tag, [0] ++ told .a ++ told .b⟩⟩ s t)

/-! ## Roles, forms and invariants -/

/-- The card role of an identity is that of the lowest-numbered filter entry that is enabled, whose length rule it
meets and whose masked value its first 8 bytes meet, short identities read with zero bytes after them; with no such
entry it is the default card role. The effective role follows the card: BOUND the attendee's own role, else the card
role; UNLISTED the card role, restricted on a closed list; DUPLICATE the card role, restricted; HELD the seat default;
and without a card that of the attendee assigned to the seat and bound nowhere, else the seat default, restricted
where cards are required (R76, R84). A change of a seat's presence, kind, card part or effective role, and of a
screen's presence or kind, marks its SEAT notice (R85, R180). Where a unit is in service, a change of its label, its
status key, its effective role or an item key makes the LABEL, STATUS or ITEM order pending, unless what it would show
is what was last sent (R142, R145, R149, R150, R151, R152). A floor change, a label of a listed seat and, for speaker
slots, a timing flag and L are all that has a slot re-evaluated. A key event that leaves its seat a refusal code has
the seat's status re-evaluated, also where the code is the one it had. That an EXTEND is a change that has the title
re-evaluated is the model's reading (log entry 68). -/
def Obligations.CardAndSeatRoles : Prop :=
  (∀ (s : State) (identity : List Byte),
    let fits := fun f : FilterEntry => f.enabled = true ∧ (∀ n, f.lengthRule = some n → identity.length = n)
      ∧ ∀ k < 8, identity.getD k 0 &&& f.mask.getD k 0 = f.value.getD k 0 &&& f.mask.getD k 0
    (∀ n : Fin 16, fits s.roles.filters[n] → (∀ m : Fin 16, m < n → ¬ fits s.roles.filters[m]) →
      s.cardRole identity = s.roles.filters[n].role)
    ∧ ((∀ n : Fin 16, ¬ fits s.roles.filters[n]) → s.cardRole identity = s.seq.room.cardRole))
  ∧ (∀ (s : State) (i : SeatId) (role : RoleId),
      let c := (s.seat i).card
      let roster := s.seq.roster.getD []
      let d := (s.seat i).defaultRole
      (∀ (a : Nat) (x : RosterEntry), c.state = .bound → c.role = some role → c.attendee = some a →
        roster[a]? = some x → s.effRole i = ⟨x.attendee.role.getD role, false⟩)
      ∧ (c.state = .unlisted → c.role = some role → s.effRole i = ⟨role, s.floor.policy.closedList⟩)
      ∧ (c.state = .duplicate → c.role = some role → s.effRole i = ⟨role, true⟩)
      ∧ (c.state = .held → s.effRole i = ⟨d, false⟩)
      ∧ ((c.state = .none ∨ c.state = .reading) →
          (∀ x, roster.find? (fun x => x.attendee.seat == some i) = some x → x.boundSeat = none →
            s.effRole i = ⟨x.attendee.role.getD d, s.floor.policy.cardsRequired⟩)
          ∧ (∀ x, roster.find? (fun x => x.attendee.seat == some i) = some x → x.boundSeat ≠ none →
            s.effRole i = ⟨d, s.floor.policy.cardsRequired⟩)
          ∧ ((∀ x ∈ roster, x.attendee.seat ≠ some i) → s.effRole i = ⟨d, s.floor.policy.cardsRequired⟩)))
  ∧ (∀ (s t : State) (f : State → State), t = change f s →
      (∀ i : SeatId, ((t.seat i).presence ≠ (s.seat i).presence ∨ (t.seat i).kind ≠ (s.seat i).kind
          ∨ (t.seat i).card ≠ (s.seat i).card ∨ t.effRole i ≠ s.effRole i) → i.val ∈ t.link.marks.seats)
      ∧ (∀ j : ScreenId, ((t.screen j).presence ≠ (s.screen j).presence ∨ (t.screen j).kind ≠ (s.screen j).kind) →
          64 + j.val ∈ t.link.marks.seats)
      ∧ (∀ i : SeatId, inService (t.seat i).presence = true →
          ((t.labelOf i ≠ s.labelOf i ∨ t.effRole i ≠ s.effRole i) →
            (t.seat i).labelSent ≠ some (t.labelOf i).1 → (t.seat i).marks.label = true)
          ∧ ((t.statusKey i ≠ s.statusKey i ∨ t.effRole i ≠ s.effRole i) →
              (t.seat i).statusSent ≠ some (t.statusKey i) → (t.seat i).marks.status = true))
      ∧ ∀ (j : ScreenId) (n : ItemId), inService (t.screen j).presence = true → t.itemKey n ≠ s.itemKey n →
          (t.screen j).itemSent[n] ≠ some (t.itemKey n) → (t.screen j).itemMarks[n] = true)
  ∧ (∀ (s t : State) (n : ItemId), 2 ≤ n.val → s.floorReport = t.floorReport →
      (10 ≤ n.val → (s.floor.requests.map fun r => (s.labelOf r.seat).1)
          = (t.floor.requests.map fun r => (t.labelOf r.seat).1) → itemsDue s t n = false)
      ∧ (n.val < 10 → s.floor.policy.speechLimit = t.floor.policy.speechLimit →
          (s.floor.speakers.map fun e => (e.warned, e.overran, (s.labelOf e.seat).1))
            = (t.floor.speakers.map fun e => (e.warned, e.overran, (t.labelOf e.seat).1)) → itemsDue s t n = false))
  ∧ ∀ (s : State) (i : SeatId) (c : RefusalCode) (f : State → State), let t := keyEvent i true f s
      (t.seat i).refusal = some c → inService (t.seat i).presence = true →
      (t.seat i).statusSent ≠ some (t.statusKey i) → (t.seat i).marks.status = true

/-- The forms of chapter 11 read back what they wrote: the policy block of every policy whose numbers fit it, wherever
it stands in a payload, and the whole payload of every booking that a BOOK can carry (R91, R217, R220, R221). -/
def Obligations.BookingFormsReadBack : Prop :=
  (∀ (p : Policy) (before after : List Byte), p.Carried →
    policyAt (before ++ putPolicy p ++ after) before.length = some p ∧ (putPolicy p).length = 14)
  ∧ ∀ d : BookingData, d.Carried →
      bookingAt (putBooking d) 0 = some d ∧ (putBooking d).length = 89 + 44 * d.attendees.length

/-- Every step, of every command, keeps the rules of the floor: at most 2 chair-class entries and at most Smax others,
at most 24 requests in order of band and arrival, no seat twice, muting only while a chair-class speaker holds,
entries muted by the mark and their class, each entry of its role's class, and nothing on a CLOSED floor (R1, R2, R3,
R4, R25, R86, R87). -/
def Obligations.FloorSoundKept : Prop :=
  ∀ s t : State, s.FloorSound → step s = .next t → t.FloorSound

/-- Every step, of every command, keeps the capacities of the host link and of the log: at most 4 frames in the input
queue, 4 requests outstanding and 4 REJECTs waiting, counts that stop at 255, no frame waiting for an idle line, and
at most 48 records (R48, R50, R202, R206). -/
def Obligations.CapacitiesKept : Prop :=
  ∀ s t : State, s.link.Sound → s.log.Sound → step s = .next t → t.link.Sound ∧ t.log.Sound

/-- The rules of the floor and the capacities of the host link and the log hold after power-on (R1, R48, R202, R214).
-/
def Obligations.SoundAfterPowerOn : Prop :=
  State.reset.FloorSound ∧ State.reset.link.Sound ∧ State.reset.log.Sound
end

