-- ==== Sys2Proof/Laws/State.lean ====
section
/-! SUPPORT. What each write of a block of State leaves: one lemma for each field and each write. -/

namespace Sys2Proof.Machine

section setClock
variable (s : State) (x : Option Nat)
@[simp] theorem State.setClock_powered : (s.setClock x).powered = s.powered := rfl
@[simp] theorem State.setClock_rate : (s.setClock x).rate = s.rate := rfl
@[simp] theorem State.setClock_clock : (s.setClock x).clock = x := rfl
@[simp] theorem State.setClock_floor : (s.setClock x).floor = s.floor := rfl
@[simp] theorem State.setClock_log : (s.setClock x).log = s.log := rfl
@[simp] theorem State.setClock_masters : (s.setClock x).masters = s.masters := rfl
@[simp] theorem State.setClock_roles : (s.setClock x).roles = s.roles := rfl
@[simp] theorem State.setClock_seats : (s.setClock x).seats = s.seats := rfl
@[simp] theorem State.setClock_screens : (s.setClock x).screens = s.screens := rfl
@[simp] theorem State.setClock_seq : (s.setClock x).seq = s.seq := rfl
@[simp] theorem State.setClock_store : (s.setClock x).store = s.store := rfl
@[simp] theorem State.setClock_lineA : (s.setClock x).lineA = s.lineA := rfl
@[simp] theorem State.setClock_lineB : (s.setClock x).lineB = s.lineB := rfl
@[simp] theorem State.setClock_link : (s.setClock x).link = s.link := rfl
@[simp] theorem State.setClock_pending : (s.setClock x).pending = s.pending := rfl
end setClock

section setFloor
variable (s : State) (x : Floor)
@[simp] theorem State.setFloor_powered : (s.setFloor x).powered = s.powered := rfl
@[simp] theorem State.setFloor_rate : (s.setFloor x).rate = s.rate := rfl
@[simp] theorem State.setFloor_clock : (s.setFloor x).clock = s.clock := rfl
@[simp] theorem State.setFloor_floor : (s.setFloor x).floor = x := rfl
@[simp] theorem State.setFloor_log : (s.setFloor x).log = s.log := rfl
@[simp] theorem State.setFloor_masters : (s.setFloor x).masters = s.masters := rfl
@[simp] theorem State.setFloor_roles : (s.setFloor x).roles = s.roles := rfl
@[simp] theorem State.setFloor_seats : (s.setFloor x).seats = s.seats := rfl
@[simp] theorem State.setFloor_screens : (s.setFloor x).screens = s.screens := rfl
@[simp] theorem State.setFloor_seq : (s.setFloor x).seq = s.seq := rfl
@[simp] theorem State.setFloor_store : (s.setFloor x).store = s.store := rfl
@[simp] theorem State.setFloor_lineA : (s.setFloor x).lineA = s.lineA := rfl
@[simp] theorem State.setFloor_lineB : (s.setFloor x).lineB = s.lineB := rfl
@[simp] theorem State.setFloor_link : (s.setFloor x).link = s.link := rfl
@[simp] theorem State.setFloor_pending : (s.setFloor x).pending = s.pending := rfl
end setFloor

section setLog
variable (s : State) (x : SpeechLog)
@[simp] theorem State.setLog_powered : (s.setLog x).powered = s.powered := rfl
@[simp] theorem State.setLog_rate : (s.setLog x).rate = s.rate := rfl
@[simp] theorem State.setLog_clock : (s.setLog x).clock = s.clock := rfl
@[simp] theorem State.setLog_floor : (s.setLog x).floor = s.floor := rfl
@[simp] theorem State.setLog_log : (s.setLog x).log = x := rfl
@[simp] theorem State.setLog_masters : (s.setLog x).masters = s.masters := rfl
@[simp] theorem State.setLog_roles : (s.setLog x).roles = s.roles := rfl
@[simp] theorem State.setLog_seats : (s.setLog x).seats = s.seats := rfl
@[simp] theorem State.setLog_screens : (s.setLog x).screens = s.screens := rfl
@[simp] theorem State.setLog_seq : (s.setLog x).seq = s.seq := rfl
@[simp] theorem State.setLog_store : (s.setLog x).store = s.store := rfl
@[simp] theorem State.setLog_lineA : (s.setLog x).lineA = s.lineA := rfl
@[simp] theorem State.setLog_lineB : (s.setLog x).lineB = s.lineB := rfl
@[simp] theorem State.setLog_link : (s.setLog x).link = s.link := rfl
@[simp] theorem State.setLog_pending : (s.setLog x).pending = s.pending := rfl
end setLog

section setMasters
variable (s : State) (x : Masters)
@[simp] theorem State.setMasters_powered : (s.setMasters x).powered = s.powered := rfl
@[simp] theorem State.setMasters_rate : (s.setMasters x).rate = s.rate := rfl
@[simp] theorem State.setMasters_clock : (s.setMasters x).clock = s.clock := rfl
@[simp] theorem State.setMasters_floor : (s.setMasters x).floor = s.floor := rfl
@[simp] theorem State.setMasters_log : (s.setMasters x).log = s.log := rfl
@[simp] theorem State.setMasters_masters : (s.setMasters x).masters = x := rfl
@[simp] theorem State.setMasters_roles : (s.setMasters x).roles = s.roles := rfl
@[simp] theorem State.setMasters_seats : (s.setMasters x).seats = s.seats := rfl
@[simp] theorem State.setMasters_screens : (s.setMasters x).screens = s.screens := rfl
@[simp] theorem State.setMasters_seq : (s.setMasters x).seq = s.seq := rfl
@[simp] theorem State.setMasters_store : (s.setMasters x).store = s.store := rfl
@[simp] theorem State.setMasters_lineA : (s.setMasters x).lineA = s.lineA := rfl
@[simp] theorem State.setMasters_lineB : (s.setMasters x).lineB = s.lineB := rfl
@[simp] theorem State.setMasters_link : (s.setMasters x).link = s.link := rfl
@[simp] theorem State.setMasters_pending : (s.setMasters x).pending = s.pending := rfl
end setMasters

section setRoles
variable (s : State) (x : RoleUnit)
@[simp] theorem State.setRoles_powered : (s.setRoles x).powered = s.powered := rfl
@[simp] theorem State.setRoles_rate : (s.setRoles x).rate = s.rate := rfl
@[simp] theorem State.setRoles_clock : (s.setRoles x).clock = s.clock := rfl
@[simp] theorem State.setRoles_floor : (s.setRoles x).floor = s.floor := rfl
@[simp] theorem State.setRoles_log : (s.setRoles x).log = s.log := rfl
@[simp] theorem State.setRoles_masters : (s.setRoles x).masters = s.masters := rfl
@[simp] theorem State.setRoles_roles : (s.setRoles x).roles = x := rfl
@[simp] theorem State.setRoles_seats : (s.setRoles x).seats = s.seats := rfl
@[simp] theorem State.setRoles_screens : (s.setRoles x).screens = s.screens := rfl
@[simp] theorem State.setRoles_seq : (s.setRoles x).seq = s.seq := rfl
@[simp] theorem State.setRoles_store : (s.setRoles x).store = s.store := rfl
@[simp] theorem State.setRoles_lineA : (s.setRoles x).lineA = s.lineA := rfl
@[simp] theorem State.setRoles_lineB : (s.setRoles x).lineB = s.lineB := rfl
@[simp] theorem State.setRoles_link : (s.setRoles x).link = s.link := rfl
@[simp] theorem State.setRoles_pending : (s.setRoles x).pending = s.pending := rfl
end setRoles

section setSeats
variable (s : State) (x : Vector SeatRec 64)
@[simp] theorem State.setSeats_powered : (s.setSeats x).powered = s.powered := rfl
@[simp] theorem State.setSeats_rate : (s.setSeats x).rate = s.rate := rfl
@[simp] theorem State.setSeats_clock : (s.setSeats x).clock = s.clock := rfl
@[simp] theorem State.setSeats_floor : (s.setSeats x).floor = s.floor := rfl
@[simp] theorem State.setSeats_log : (s.setSeats x).log = s.log := rfl
@[simp] theorem State.setSeats_masters : (s.setSeats x).masters = s.masters := rfl
@[simp] theorem State.setSeats_roles : (s.setSeats x).roles = s.roles := rfl
@[simp] theorem State.setSeats_seats : (s.setSeats x).seats = x := rfl
@[simp] theorem State.setSeats_screens : (s.setSeats x).screens = s.screens := rfl
@[simp] theorem State.setSeats_seq : (s.setSeats x).seq = s.seq := rfl
@[simp] theorem State.setSeats_store : (s.setSeats x).store = s.store := rfl
@[simp] theorem State.setSeats_lineA : (s.setSeats x).lineA = s.lineA := rfl
@[simp] theorem State.setSeats_lineB : (s.setSeats x).lineB = s.lineB := rfl
@[simp] theorem State.setSeats_link : (s.setSeats x).link = s.link := rfl
@[simp] theorem State.setSeats_pending : (s.setSeats x).pending = s.pending := rfl
end setSeats

section setScreens
variable (s : State) (x : Vector ScreenRec 4)
@[simp] theorem State.setScreens_powered : (s.setScreens x).powered = s.powered := rfl
@[simp] theorem State.setScreens_rate : (s.setScreens x).rate = s.rate := rfl
@[simp] theorem State.setScreens_clock : (s.setScreens x).clock = s.clock := rfl
@[simp] theorem State.setScreens_floor : (s.setScreens x).floor = s.floor := rfl
@[simp] theorem State.setScreens_log : (s.setScreens x).log = s.log := rfl
@[simp] theorem State.setScreens_masters : (s.setScreens x).masters = s.masters := rfl
@[simp] theorem State.setScreens_roles : (s.setScreens x).roles = s.roles := rfl
@[simp] theorem State.setScreens_seats : (s.setScreens x).seats = s.seats := rfl
@[simp] theorem State.setScreens_screens : (s.setScreens x).screens = x := rfl
@[simp] theorem State.setScreens_seq : (s.setScreens x).seq = s.seq := rfl
@[simp] theorem State.setScreens_store : (s.setScreens x).store = s.store := rfl
@[simp] theorem State.setScreens_lineA : (s.setScreens x).lineA = s.lineA := rfl
@[simp] theorem State.setScreens_lineB : (s.setScreens x).lineB = s.lineB := rfl
@[simp] theorem State.setScreens_link : (s.setScreens x).link = s.link := rfl
@[simp] theorem State.setScreens_pending : (s.setScreens x).pending = s.pending := rfl
end setScreens

section setSeq
variable (s : State) (x : Sequencer)
@[simp] theorem State.setSeq_powered : (s.setSeq x).powered = s.powered := rfl
@[simp] theorem State.setSeq_rate : (s.setSeq x).rate = s.rate := rfl
@[simp] theorem State.setSeq_clock : (s.setSeq x).clock = s.clock := rfl
@[simp] theorem State.setSeq_floor : (s.setSeq x).floor = s.floor := rfl
@[simp] theorem State.setSeq_log : (s.setSeq x).log = s.log := rfl
@[simp] theorem State.setSeq_masters : (s.setSeq x).masters = s.masters := rfl
@[simp] theorem State.setSeq_roles : (s.setSeq x).roles = s.roles := rfl
@[simp] theorem State.setSeq_seats : (s.setSeq x).seats = s.seats := rfl
@[simp] theorem State.setSeq_screens : (s.setSeq x).screens = s.screens := rfl
@[simp] theorem State.setSeq_seq : (s.setSeq x).seq = x := rfl
@[simp] theorem State.setSeq_store : (s.setSeq x).store = s.store := rfl
@[simp] theorem State.setSeq_lineA : (s.setSeq x).lineA = s.lineA := rfl
@[simp] theorem State.setSeq_lineB : (s.setSeq x).lineB = s.lineB := rfl
@[simp] theorem State.setSeq_link : (s.setSeq x).link = s.link := rfl
@[simp] theorem State.setSeq_pending : (s.setSeq x).pending = s.pending := rfl
end setSeq

section setStore
variable (s : State) (x : Store)
@[simp] theorem State.setStore_powered : (s.setStore x).powered = s.powered := rfl
@[simp] theorem State.setStore_rate : (s.setStore x).rate = s.rate := rfl
@[simp] theorem State.setStore_clock : (s.setStore x).clock = s.clock := rfl
@[simp] theorem State.setStore_floor : (s.setStore x).floor = s.floor := rfl
@[simp] theorem State.setStore_log : (s.setStore x).log = s.log := rfl
@[simp] theorem State.setStore_masters : (s.setStore x).masters = s.masters := rfl
@[simp] theorem State.setStore_roles : (s.setStore x).roles = s.roles := rfl
@[simp] theorem State.setStore_seats : (s.setStore x).seats = s.seats := rfl
@[simp] theorem State.setStore_screens : (s.setStore x).screens = s.screens := rfl
@[simp] theorem State.setStore_seq : (s.setStore x).seq = s.seq := rfl
@[simp] theorem State.setStore_store : (s.setStore x).store = x := rfl
@[simp] theorem State.setStore_lineA : (s.setStore x).lineA = s.lineA := rfl
@[simp] theorem State.setStore_lineB : (s.setStore x).lineB = s.lineB := rfl
@[simp] theorem State.setStore_link : (s.setStore x).link = s.link := rfl
@[simp] theorem State.setStore_pending : (s.setStore x).pending = s.pending := rfl
end setStore

section setLink
variable (s : State) (x : HostLink)
@[simp] theorem State.setLink_powered : (s.setLink x).powered = s.powered := rfl
@[simp] theorem State.setLink_rate : (s.setLink x).rate = s.rate := rfl
@[simp] theorem State.setLink_clock : (s.setLink x).clock = s.clock := rfl
@[simp] theorem State.setLink_floor : (s.setLink x).floor = s.floor := rfl
@[simp] theorem State.setLink_log : (s.setLink x).log = s.log := rfl
@[simp] theorem State.setLink_masters : (s.setLink x).masters = s.masters := rfl
@[simp] theorem State.setLink_roles : (s.setLink x).roles = s.roles := rfl
@[simp] theorem State.setLink_seats : (s.setLink x).seats = s.seats := rfl
@[simp] theorem State.setLink_screens : (s.setLink x).screens = s.screens := rfl
@[simp] theorem State.setLink_seq : (s.setLink x).seq = s.seq := rfl
@[simp] theorem State.setLink_store : (s.setLink x).store = s.store := rfl
@[simp] theorem State.setLink_lineA : (s.setLink x).lineA = s.lineA := rfl
@[simp] theorem State.setLink_lineB : (s.setLink x).lineB = s.lineB := rfl
@[simp] theorem State.setLink_link : (s.setLink x).link = x := rfl
@[simp] theorem State.setLink_pending : (s.setLink x).pending = s.pending := rfl
end setLink

section setPending
variable (s : State) (x : List Instr)
@[simp] theorem State.setPending_powered : (s.setPending x).powered = s.powered := rfl
@[simp] theorem State.setPending_rate : (s.setPending x).rate = s.rate := rfl
@[simp] theorem State.setPending_clock : (s.setPending x).clock = s.clock := rfl
@[simp] theorem State.setPending_floor : (s.setPending x).floor = s.floor := rfl
@[simp] theorem State.setPending_log : (s.setPending x).log = s.log := rfl
@[simp] theorem State.setPending_masters : (s.setPending x).masters = s.masters := rfl
@[simp] theorem State.setPending_roles : (s.setPending x).roles = s.roles := rfl
@[simp] theorem State.setPending_seats : (s.setPending x).seats = s.seats := rfl
@[simp] theorem State.setPending_screens : (s.setPending x).screens = s.screens := rfl
@[simp] theorem State.setPending_seq : (s.setPending x).seq = s.seq := rfl
@[simp] theorem State.setPending_store : (s.setPending x).store = s.store := rfl
@[simp] theorem State.setPending_lineA : (s.setPending x).lineA = s.lineA := rfl
@[simp] theorem State.setPending_lineB : (s.setPending x).lineB = s.lineB := rfl
@[simp] theorem State.setPending_link : (s.setPending x).link = s.link := rfl
@[simp] theorem State.setPending_pending : (s.setPending x).pending = x := rfl
end setPending

/-! ## The host link -/

section modLink
variable (s : State) (f : HostLink → HostLink)
@[simp] theorem State.modLink_powered : (s.modLink f).powered = s.powered := rfl
@[simp] theorem State.modLink_rate : (s.modLink f).rate = s.rate := rfl
@[simp] theorem State.modLink_clock : (s.modLink f).clock = s.clock := rfl
@[simp] theorem State.modLink_floor : (s.modLink f).floor = s.floor := rfl
@[simp] theorem State.modLink_log : (s.modLink f).log = s.log := rfl
@[simp] theorem State.modLink_masters : (s.modLink f).masters = s.masters := rfl
@[simp] theorem State.modLink_roles : (s.modLink f).roles = s.roles := rfl
@[simp] theorem State.modLink_seats : (s.modLink f).seats = s.seats := rfl
@[simp] theorem State.modLink_screens : (s.modLink f).screens = s.screens := rfl
@[simp] theorem State.modLink_seq : (s.modLink f).seq = s.seq := rfl
@[simp] theorem State.modLink_store : (s.modLink f).store = s.store := rfl
@[simp] theorem State.modLink_lineA : (s.modLink f).lineA = s.lineA := rfl
@[simp] theorem State.modLink_lineB : (s.modLink f).lineB = s.lineB := rfl
@[simp] theorem State.modLink_link : (s.modLink f).link = f s.link := rfl
@[simp] theorem State.modLink_pending : (s.modLink f).pending = s.pending := rfl
end modLink

/-! ## The store engine -/

section modStore
variable (s : State) (f : Store → Store)
@[simp] theorem modStore_powered : (modStore f s).powered = s.powered := rfl
@[simp] theorem modStore_rate : (modStore f s).rate = s.rate := rfl
@[simp] theorem modStore_clock : (modStore f s).clock = s.clock := rfl
@[simp] theorem modStore_floor : (modStore f s).floor = s.floor := rfl
@[simp] theorem modStore_log : (modStore f s).log = s.log := rfl
@[simp] theorem modStore_masters : (modStore f s).masters = s.masters := rfl
@[simp] theorem modStore_roles : (modStore f s).roles = s.roles := rfl
@[simp] theorem modStore_seats : (modStore f s).seats = s.seats := rfl
@[simp] theorem modStore_screens : (modStore f s).screens = s.screens := rfl
@[simp] theorem modStore_seq : (modStore f s).seq = s.seq := rfl
@[simp] theorem modStore_store : (modStore f s).store = f s.store := rfl
@[simp] theorem modStore_lineA : (modStore f s).lineA = s.lineA := rfl
@[simp] theorem modStore_lineB : (modStore f s).lineB = s.lineB := rfl
@[simp] theorem modStore_link : (modStore f s).link = s.link := rfl
@[simp] theorem modStore_pending : (modStore f s).pending = s.pending := rfl
end modStore

/-! ## Seats and screens -/

section modSeat
variable (s : State) (i : SeatId) (f : SeatRec → SeatRec)
@[simp] theorem State.modSeat_powered : (s.modSeat i f).powered = s.powered := rfl
@[simp] theorem State.modSeat_rate : (s.modSeat i f).rate = s.rate := rfl
@[simp] theorem State.modSeat_clock : (s.modSeat i f).clock = s.clock := rfl
@[simp] theorem State.modSeat_floor : (s.modSeat i f).floor = s.floor := rfl
@[simp] theorem State.modSeat_log : (s.modSeat i f).log = s.log := rfl
@[simp] theorem State.modSeat_masters : (s.modSeat i f).masters = s.masters := rfl
@[simp] theorem State.modSeat_roles : (s.modSeat i f).roles = s.roles := rfl
@[simp] theorem State.modSeat_seats : (s.modSeat i f).seats = s.seats.set i.val (f s.seats[i]) := rfl
@[simp] theorem State.modSeat_screens : (s.modSeat i f).screens = s.screens := rfl
@[simp] theorem State.modSeat_seq : (s.modSeat i f).seq = s.seq := rfl
@[simp] theorem State.modSeat_store : (s.modSeat i f).store = s.store := rfl
@[simp] theorem State.modSeat_lineA : (s.modSeat i f).lineA = s.lineA := rfl
@[simp] theorem State.modSeat_lineB : (s.modSeat i f).lineB = s.lineB := rfl
@[simp] theorem State.modSeat_link : (s.modSeat i f).link = s.link := rfl
@[simp] theorem State.modSeat_pending : (s.modSeat i f).pending = s.pending := rfl
end modSeat

section modScreen
variable (s : State) (i : ScreenId) (f : ScreenRec → ScreenRec)
@[simp] theorem State.modScreen_powered : (s.modScreen i f).powered = s.powered := rfl
@[simp] theorem State.modScreen_rate : (s.modScreen i f).rate = s.rate := rfl
@[simp] theorem State.modScreen_clock : (s.modScreen i f).clock = s.clock := rfl
@[simp] theorem State.modScreen_floor : (s.modScreen i f).floor = s.floor := rfl
@[simp] theorem State.modScreen_log : (s.modScreen i f).log = s.log := rfl
@[simp] theorem State.modScreen_masters : (s.modScreen i f).masters = s.masters := rfl
@[simp] theorem State.modScreen_roles : (s.modScreen i f).roles = s.roles := rfl
@[simp] theorem State.modScreen_seats : (s.modScreen i f).seats = s.seats := rfl
@[simp] theorem State.modScreen_screens : (s.modScreen i f).screens = s.screens.set i.val (f s.screens[i]) := rfl
@[simp] theorem State.modScreen_seq : (s.modScreen i f).seq = s.seq := rfl
@[simp] theorem State.modScreen_store : (s.modScreen i f).store = s.store := rfl
@[simp] theorem State.modScreen_lineA : (s.modScreen i f).lineA = s.lineA := rfl
@[simp] theorem State.modScreen_lineB : (s.modScreen i f).lineB = s.lineB := rfl
@[simp] theorem State.modScreen_link : (s.modScreen i f).link = s.link := rfl
@[simp] theorem State.modScreen_pending : (s.modScreen i f).pending = s.pending := rfl
end modScreen

/-- A seat reads as it was changed, and every other seat as before. -/
theorem State.modSeat_seat (s : State) (i j : SeatId) (f : SeatRec → SeatRec) :
    (s.modSeat i f).seat j = if j = i then f (s.seat i) else s.seat j := by
  by_cases h : j = i
  · subst h; simp [State.seat, State.modSeat, State.setSeats]
  · have h2 : i.val ≠ j.val := fun e => h (Fin.ext e.symm)
    simp [State.seat, State.modSeat, State.setSeats, h, h2]

/-- A seat that was changed. -/
@[simp] theorem State.modSeat_seat_same (s : State) (i : SeatId) (f : SeatRec → SeatRec) :
    (s.modSeat i f).seat i = f (s.seat i) := by simp [State.modSeat_seat]

/-- A screen reads as it was changed, and every other screen as before. -/
theorem State.modScreen_screen (s : State) (i j : ScreenId) (f : ScreenRec → ScreenRec) :
    (s.modScreen i f).screen j = if j = i then f (s.screen i) else s.screen j := by
  by_cases h : j = i
  · subst h; simp [State.screen, State.modScreen, State.setScreens]
  · have h2 : i.val ≠ j.val := fun e => h (Fin.ext e.symm)
    simp [State.screen, State.modScreen, State.setScreens, h, h2]

/-! ## Lines -/

section setLine
variable (s : State) (l : LineId) (x : Line)
@[simp] theorem State.setLine_powered : (s.setLine l x).powered = s.powered := by cases l <;> rfl
@[simp] theorem State.setLine_rate : (s.setLine l x).rate = s.rate := by cases l <;> rfl
@[simp] theorem State.setLine_clock : (s.setLine l x).clock = s.clock := by cases l <;> rfl
@[simp] theorem State.setLine_floor : (s.setLine l x).floor = s.floor := by cases l <;> rfl
@[simp] theorem State.setLine_log : (s.setLine l x).log = s.log := by cases l <;> rfl
@[simp] theorem State.setLine_masters : (s.setLine l x).masters = s.masters := by cases l <;> rfl
@[simp] theorem State.setLine_roles : (s.setLine l x).roles = s.roles := by cases l <;> rfl
@[simp] theorem State.setLine_seats : (s.setLine l x).seats = s.seats := by cases l <;> rfl
@[simp] theorem State.setLine_screens : (s.setLine l x).screens = s.screens := by cases l <;> rfl
@[simp] theorem State.setLine_seq : (s.setLine l x).seq = s.seq := by cases l <;> rfl
@[simp] theorem State.setLine_store : (s.setLine l x).store = s.store := by cases l <;> rfl
@[simp] theorem State.setLine_link : (s.setLine l x).link = s.link := by cases l <;> rfl
@[simp] theorem State.setLine_pending : (s.setLine l x).pending = s.pending := by cases l <;> rfl
@[simp] theorem State.setLine_line : (s.setLine l x).line l = x := by cases l <;> rfl
@[simp] theorem State.setLine_lineA : (s.setLine .a x).lineA = x := rfl
@[simp] theorem State.setLine_lineB : (s.setLine .b x).lineB = x := rfl
@[simp] theorem State.setLineB_lineA : (s.setLine .b x).lineA = s.lineA := rfl
@[simp] theorem State.setLineA_lineB : (s.setLine .a x).lineB = s.lineB := rfl
end setLine

/-- A write of one line leaves the other. -/
theorem State.setLine_line_other (s : State) {l k : LineId} (x : Line) (h : k ≠ l) :
    (s.setLine l x).line k = s.line k := by cases l <;> cases k <;> first | rfl | exact absurd rfl h

section modLine
variable (s : State) (l : LineId) (f : Line → Line)
@[simp] theorem State.modLine_powered : (s.modLine l f).powered = s.powered := by cases l <;> rfl
@[simp] theorem State.modLine_rate : (s.modLine l f).rate = s.rate := by cases l <;> rfl
@[simp] theorem State.modLine_clock : (s.modLine l f).clock = s.clock := by cases l <;> rfl
@[simp] theorem State.modLine_floor : (s.modLine l f).floor = s.floor := by cases l <;> rfl
@[simp] theorem State.modLine_log : (s.modLine l f).log = s.log := by cases l <;> rfl
@[simp] theorem State.modLine_masters : (s.modLine l f).masters = s.masters := by cases l <;> rfl
@[simp] theorem State.modLine_roles : (s.modLine l f).roles = s.roles := by cases l <;> rfl
@[simp] theorem State.modLine_seats : (s.modLine l f).seats = s.seats := by cases l <;> rfl
@[simp] theorem State.modLine_screens : (s.modLine l f).screens = s.screens := by cases l <;> rfl
@[simp] theorem State.modLine_seq : (s.modLine l f).seq = s.seq := by cases l <;> rfl
@[simp] theorem State.modLine_store : (s.modLine l f).store = s.store := by cases l <;> rfl
@[simp] theorem State.modLine_link : (s.modLine l f).link = s.link := by cases l <;> rfl
@[simp] theorem State.modLine_pending : (s.modLine l f).pending = s.pending := by cases l <;> rfl
@[simp] theorem State.modLine_line : (s.modLine l f).line l = f (s.line l) := by cases l <;> rfl
end modLine

/-- A change of one line leaves the other. -/
theorem State.modLine_line_other (s : State) {l k : LineId} (f : Line → Line) (h : k ≠ l) :
    (s.modLine l f).line k = s.line k := State.setLine_line_other s (f (s.line l)) h

/-! ## Blocks -/

/-- A frame widens. -/
theorem KeptBut.mono {l m : List Block} {s t : State} (h : KeptBut l s t) (sub : ∀ b ∈ l, b ∈ m) :
    KeptBut m s t := fun b hb => h b fun hl => hb (sub b hl)

/-- A block that is not listed holds the same. -/
theorem KeptBut.same {l : List Block} {s t : State} (h : KeptBut l s t) (b : Block) (hb : b ∉ l) : b.Same s t :=
  h b hb

/-- A block's being the same composes. -/
theorem Block.Same.trans {b : Block} {s t u : State} (h : b.Same s t) (k : b.Same t u) : b.Same s u := by
  cases b <;> simp_all [Block.Same]

/-- Frames compose. -/
theorem KeptBut.trans {l : List Block} {s t u : State} (h : KeptBut l s t) (k : KeptBut l t u) : KeptBut l s u :=
  fun b hb => (h b hb).trans (k b hb)

/-- Nothing changes. -/
theorem KeptBut.refl (l : List Block) (s : State) : KeptBut l s s := by
  intro b _; cases b <;> simp [Block.Same]

/-- All that following a settled booking can do: the MEETING notice's last settled booking takes the new state, where it
is that booking in the state it has (R115). -/
theorem followSettled_eq (n : Nat) (b : BookingState) (s : State) :
    followSettled n b s = s
      ∨ (∃ e, s.entry n = some e ∧ s.seq.lastSettled = some (n, e.state))
        ∧ followSettled n b s = s.setSeq { s.seq with lastSettled := some (n, b) } := by
  unfold followSettled
  split
  · next e h =>
    split
    · next k => exact .inr ⟨⟨e, h, k⟩, rfl⟩
    · exact .inl rfl
  · exact .inl rfl

end Sys2Proof.Machine
end

