-- ==== Sys2Proof/Laws/Arbiter.lean ====
section
/-! SUPPORT. Everything the arbiter can do, said once: it writes the line's exchange, round and pointers, and
clears or sets marks and fetch marks of seats and screens, and nothing else. -/

namespace Sys2Proof.Machine

/-- A record that differs in its marks and its fetch mark alone. -/
def SeatRec.Remarked (r r' : SeatRec) : Prop := ∃ m f, r' = { r with marks := m, fetchMark := f }

/-- A screen record that differs in its marks alone. -/
def ScreenRec.Remarked (c c' : ScreenRec) : Prop := ∃ k m, c' = { c with confirmMark := k, itemMarks := m }

/-- A line that differs in its exchange, its round and its pointers alone. -/
def Line.Rescheduled (x x' : Line) : Prop := ∃ a b r u f k c,
  x' = { x with activity := a, begun := b, round := r, urgentPtr := u, fetchPtr := f, bulkPtr := k, second := c }

/-- What the arbiter of a line does to a state. -/
structure Arbitrated (l : LineId) (s t : State) : Prop where
  kept : KeptBut [.seats, .screens, Block.ofLine l] s t
  seats : ∀ i, (s.seat i).Remarked (t.seat i)
  screens : ∀ j, (s.screen j).Remarked (t.screen j)
  line : (s.line l).Rescheduled (t.line l)

theorem SeatRec.Remarked.refl (r : SeatRec) : r.Remarked r := ⟨r.marks, r.fetchMark, rfl⟩

theorem ScreenRec.Remarked.refl (c : ScreenRec) : c.Remarked c := ⟨c.confirmMark, c.itemMarks, rfl⟩

theorem Line.Rescheduled.refl (x : Line) : x.Rescheduled x :=
  ⟨x.activity, x.begun, x.round, x.urgentPtr, x.fetchPtr, x.bulkPtr, x.second, rfl⟩

theorem Arbitrated.refl (l : LineId) (s : State) : Arbitrated l s s :=
  ⟨KeptBut.refl _ s, fun _ => .refl _, fun _ => .refl _, .refl _⟩

theorem Arbitrated.trans {l : LineId} {s t u : State} (h : Arbitrated l s t) (k : Arbitrated l t u) :
    Arbitrated l s u where
  kept := h.kept.trans k.kept
  seats i := by
    obtain ⟨m, f, e⟩ := h.seats i
    obtain ⟨m', f', e'⟩ := k.seats i
    exact ⟨m', f', by rw [e', e]⟩
  screens j := by
    obtain ⟨m, f, e⟩ := h.screens j
    obtain ⟨m', f', e'⟩ := k.screens j
    exact ⟨m', f', by rw [e', e]⟩
  line := by
    obtain ⟨_, _, _, _, _, _, _, e⟩ := h.line
    obtain ⟨a, b, r, u, f, k, c, e'⟩ := k.line
    exact ⟨a, b, r, u, f, k, c, by rw [e', e]⟩

/-- A write of the line's schedule. -/
theorem Arbitrated.ofLine {l : LineId} {s : State} {x : Line} (h : (s.line l).Rescheduled x) :
    Arbitrated l s (s.setLine l x) := by
  refine ⟨?_, fun i => ?_, fun j => ?_, by simpa using h⟩
  · intro b hb
    cases l <;> cases b <;> simp [Block.ofLine] at hb <;> simp [Block.Same, State.setLine]
  · cases l <;> exact .refl _
  · cases l <;> exact .refl _

/-- A write of one seat's marks. -/
theorem Arbitrated.ofSeat {l : LineId} {s : State} {i : SeatId} {f : SeatRec → SeatRec}
    (h : (s.seat i).Remarked (f (s.seat i))) : Arbitrated l s (s.modSeat i f) := by
  refine ⟨?_, fun j => ?_, fun _ => .refl _, by cases l <;> exact .refl _⟩
  · intro b hb
    cases l <;> cases b <;> simp [Block.ofLine] at hb <;> simp [Block.Same]
  · rw [State.modSeat_seat]
    split
    · next e => subst e; exact h
    · exact .refl _

/-- A write of one screen's marks. -/
theorem Arbitrated.ofScreen {l : LineId} {s : State} {j : ScreenId} {f : ScreenRec → ScreenRec}
    (h : (s.screen j).Remarked (f (s.screen j))) : Arbitrated l s (s.modScreen j f) := by
  refine ⟨?_, fun _ => .refl _, fun k => ?_, by cases l <;> exact .refl _⟩
  · intro b hb
    cases l <;> cases b <;> simp [Block.ofLine] at hb <;> simp [Block.Same]
  · rw [State.modScreen_screen]
    split
    · next e => subst e; exact h
    · exact .refl _

theorem putExchange_arbitrated (l : LineId) (x : Exchange) (s : State) : Arbitrated l s (putExchange l x s) :=
  .ofLine ⟨_, _, _, _, _, _, _, rfl⟩

theorem quietLine_arbitrated (l : LineId) (s : State) : Arbitrated l s (quietLine l s) :=
  .ofLine ⟨_, _, _, _, _, _, _, rfl⟩

theorem beginRound_arbitrated (l : LineId) (s : State) : Arbitrated l s (beginRound l s) :=
  .ofLine ⟨_, _, _, _, _, _, _, rfl⟩

theorem putMark_arbitrated (l : LineId) (u : Station) (k : OrderKind) (b : Bool) (s : State) :
    Arbitrated l s (putMark u k b s) := by
  cases u with
  | seat i => exact .ofSeat (f := fun r => { r with marks := r.marks.put k b }) ⟨_, (s.seat i).fetchMark, rfl⟩
  | screen j =>
    cases k with
    | confirm => exact .ofScreen (f := fun c => { c with confirmMark := b }) ⟨b, (s.screen j).itemMarks, rfl⟩
    | item n =>
      exact .ofScreen (f := fun c => { c with itemMarks := c.itemMarks.set n.val b })
        ⟨(s.screen j).confirmMark, _, rfl⟩
    | _ => exact .refl l s

theorem chooseMic_remarked (r : SeatRec) : r.Remarked (chooseMic r).2 := by
  unfold chooseMic
  dsimp only
  repeat' split
  all_goals exact ⟨_, _, rfl⟩

theorem chooseGain_remarked (slew : Nat) (r : SeatRec) : r.Remarked (chooseGain slew r).2 := by
  unfold chooseGain
  dsimp only
  repeat' split
  all_goals exact ⟨_, _, rfl⟩

theorem chooseSpeaker_remarked (r : SeatRec) : r.Remarked (chooseSpeaker r).2 := by
  unfold chooseSpeaker
  dsimp only
  split <;> exact ⟨_, _, rfl⟩

theorem formOrder_arbitrated (l : LineId) (u : Station) (k : OrderKind) (s : State) :
    Arbitrated l s (formOrder u k s).2 := by
  cases u with
  | seat i =>
    cases k with
    | speaker =>
      exact .ofSeat (f := fun _ => (chooseSpeaker (s.seat i)).2) (chooseSpeaker_remarked (s.seat i))
    | mic => exact .ofSeat (f := fun _ => (chooseMic (s.seat i)).2) (chooseMic_remarked (s.seat i))
    | gain =>
      exact .ofSeat (f := fun _ => (chooseGain s.masters.slew (s.seat i)).2) (chooseGain_remarked _ (s.seat i))
    | confirm => exact putMark_arbitrated l (.seat i) .confirm false s
    | status => exact putMark_arbitrated l (.seat i) .status false s
    | label => exact putMark_arbitrated l (.seat i) .label false s
    | item n => exact putMark_arbitrated l (.seat i) (.item n) false s
  | screen j =>
    have h := putMark_arbitrated l (.screen j) k false s
    cases k <;> exact h

theorem choosePoll_arbitrated {l : LineId} {s t : State} (h : choosePoll l s = some t) : Arbitrated l s t := by
  unfold choosePoll at h
  split at h
  · cases h; exact putExchange_arbitrated l _ s
  · split at h
    · cases h
    · obtain ⟨x, _, rfl⟩ := Option.map_eq_some_iff.mp h
      exact (beginRound_arbitrated l s).trans (putExchange_arbitrated l x _)

theorem serveOrder_arbitrated (kind : State → Station → Option OrderKind) (ptr : Nat → Line → Line) (l : LineId)
    (p : Option Nat) (hp : ∀ (n : Nat) (x : Line), x.Rescheduled (ptr n x)) (fuel : Nat) (s : State) :
    Arbitrated l s (serveOrder kind ptr l p fuel s).2 := by
  induction fuel generalizing s with
  | zero => exact .refl l s
  | succ fuel ih =>
    unfold serveOrder
    split
    · exact .refl l s
    · next u _ =>
      split
      · exact .refl l s
      · next k _ =>
        have h := (formOrder_arbitrated l u k s).trans
          (.ofLine (hp (addressOf u) ((formOrder u k s).2.line l)))
        dsimp only
        split
        · exact h.trans (putExchange_arbitrated l _ _)
        · exact h.trans (ih _)

theorem serveUrgent_arbitrated (l : LineId) (s : State) : Arbitrated l s (serveUrgent l s).2 :=
  serveOrder_arbitrated _ _ l _ (fun _ _ => ⟨_, _, _, _, _, _, _, rfl⟩) _ s

theorem serveBulk_arbitrated (l : LineId) (s : State) : Arbitrated l s (serveBulk l s).2 :=
  serveOrder_arbitrated _ _ l _ (fun _ _ => ⟨_, _, _, _, _, _, _, rfl⟩) _ s

theorem serveFetch_arbitrated (l : LineId) (s : State) : Arbitrated l s (serveFetch l s).2 := by
  unfold serveFetch
  split
  · next i _ =>
    exact ((Arbitrated.ofLine ⟨_, _, _, _, _, _, _, rfl⟩).trans (.ofSeat (i := i) ⟨_, _, rfl⟩)).trans
      (putExchange_arbitrated l _ _)
  · exact .refl l s

theorem chooseClaim_arbitrated (l : LineId) (s : State) : Arbitrated l s (chooseClaim l s) := by
  have h1 := serveUrgent_arbitrated l s
  have h2 := serveFetch_arbitrated l (serveUrgent l s).2
  have h3 := serveBulk_arbitrated l (serveFetch l (serveUrgent l s).2).2
  unfold chooseClaim
  dsimp only
  split
  · exact h1
  · split
    · exact h1.trans h2
    · split
      · exact (h1.trans h2).trans h3
      · refine ((h1.trans h2).trans h3).trans ?_
        cases h : choosePoll l (serveBulk l (serveFetch l (serveUrgent l s).2).2).2 with
        | none => exact quietLine_arbitrated l _
        | some t => exact choosePoll_arbitrated h

/-- All that the arbiter's choice can do (R193). -/
theorem arbiter_arbitrated (l : LineId) (s : State) : Arbitrated l s (arbiter l s) := by
  unfold arbiter
  dsimp only
  split
  · exact (Arbitrated.ofLine ⟨_, _, _, _, _, _, _, rfl⟩).trans (putExchange_arbitrated l _ _)
  · split
    · split
      · next h => exact choosePoll_arbitrated h
      · exact chooseClaim_arbitrated l s
    · exact chooseClaim_arbitrated l s

/-- What follows on a line touches the line alone, with the marks of the seats and screens (R169, R176, R193). -/
theorem nextExchange_kept (l : LineId) (s : State) :
    KeptBut [.seats, .screens, Block.ofLine l] s (nextExchange l s) := by
  unfold nextExchange
  dsimp only
  split
  · exact (arbiter_arbitrated l s).kept
  · split
    · intro b hb
      cases l <;> cases b <;> simp [Block.ofLine] at hb <;> simp [Block.Same, beginEnumeration, State.modLine]
    · split
      · exact (putExchange_arbitrated l _ s).kept
      · exact (arbiter_arbitrated l s).kept

/-- All that giving up the sleep of a line can do (R169). -/
theorem giveUpSleep_kept (l : LineId) (s : State) :
    KeptBut [.seats, .screens, Block.ofLine l] s (giveUpSleep l s) := by
  have h : KeptBut [.seats, .screens, Block.ofLine l] s
      (s.modLine l fun x => { x with idle := 0, sleepDue := false }) := by
    intro b hb
    cases l <;> cases b <;> simp [Block.ofLine] at hb <;> simp [Block.Same, State.modLine]
  unfold giveUpSleep
  dsimp only
  split
  · exact (h.trans (quietLine_arbitrated l _).kept).trans (nextExchange_kept l _)
  · exact h

/-- The arbiter leaves every unit's presence. -/
theorem Arbitrated.presence {l : LineId} {s t : State} (h : Arbitrated l s t) (u : Station) :
    t.presence u = s.presence u := by
  cases u with
  | seat i => obtain ⟨m, f, e⟩ := h.seats i; simp [State.presence, e]
  | screen j => obtain ⟨m, f, e⟩ := h.screens j; simp [State.presence, e]

end Sys2Proof.Machine
end

