-- ==== Sys2Proof/Laws/Outer.lean ====
section
/-! SUPPORT. What a change of the floor, with all that it hands on, leaves: everything but the floor, the log, the
seats, the screens, the roster, the notice marks and the close summary. `State.outer` blanks those, and each
operation of the floor, of the cards and of the marks is shown to keep it. -/

namespace Sys2Proof.Machine

/-- A state with everything blanked that a floor change may touch. -/
def State.outer (s : State) : State :=
  { s with
    floor := Floor.initial
    log := ⟨[], 0⟩
    seats := Vector.replicate 64 SeatRec.initial
    screens := Vector.replicate 4 ScreenRec.initial
    seq := { s.seq with roster := none }
    link := { s.link with marks := HostLink.initial.marks, closeCount := 0, lastClose := none } }

/-! ## Reading through the blanked state -/

section read
variable {s t : State} (h : t.outer = s.outer)
include h

theorem outer_powered : t.powered = s.powered := (congrArg State.powered h :)
theorem outer_rate : t.rate = s.rate := (congrArg State.rate h :)
theorem outer_clock : t.clock = s.clock := (congrArg State.clock h :)
theorem outer_masters : t.masters = s.masters := (congrArg State.masters h :)
theorem outer_roles : t.roles = s.roles := (congrArg State.roles h :)
theorem outer_store : t.store = s.store := (congrArg State.store h :)
theorem outer_lineA : t.lineA = s.lineA := (congrArg State.lineA h :)
theorem outer_lineB : t.lineB = s.lineB := (congrArg State.lineB h :)
theorem outer_pending : t.pending = s.pending := (congrArg State.pending h :)
theorem outer_receiver : t.link.receiver = s.link.receiver := (congrArg (·.link.receiver) h :)
theorem outer_queue : t.link.queue = s.link.queue := (congrArg (·.link.queue) h :)
theorem outer_outstanding : t.link.outstanding = s.link.outstanding := (congrArg (·.link.outstanding) h :)
theorem outer_awaitingReset : t.link.awaitingReset = s.link.awaitingReset :=
  (congrArg (·.link.awaitingReset) h :)
theorem outer_waiting : t.link.waiting = s.link.waiting := (congrArg (·.link.waiting) h :)
theorem outer_onLine : t.link.onLine = s.link.onLine := (congrArg (·.link.onLine) h :)
theorem outer_lostRejects : t.link.lostRejects = s.link.lostRejects := (congrArg (·.link.lostRejects) h :)
theorem outer_enables : t.link.enables = s.link.enables := (congrArg (·.link.enables) h :)
theorem outer_faultNote : t.link.faultNote = s.link.faultNote := (congrArg (·.link.faultNote) h :)
theorem outer_faultCount : t.link.faultCount = s.link.faultCount := (congrArg (·.link.faultCount) h :)
theorem outer_run : t.link.run = s.link.run := (congrArg (·.link.run) h :)
theorem outer_startTag : t.link.startTag = s.link.startTag := (congrArg (·.link.startTag) h :)
theorem outer_room : t.seq.room = s.seq.room := (congrArg (·.seq.room) h :)
theorem outer_index : t.seq.index = s.seq.index := (congrArg (·.seq.index) h :)
theorem outer_current : t.seq.current = s.seq.current := (congrArg (·.seq.current) h :)
theorem outer_seqChange : t.seq.change = s.seq.change := (congrArg (·.seq.change) h :)
theorem outer_line (l : LineId) : t.line l = s.line l := by
  cases l
  · exact outer_lineA h
  · exact outer_lineB h

/-- The blanked states agree on every block that a floor change leaves whole. -/
theorem outer_keptBut (hseq : t.seq = s.seq) :
    KeptBut [.floor, .log, .seats, .screens, .marks] s t := by
  intro b hb
  cases b <;> simp at hb <;> simp [Block.Same, outer_powered h, outer_rate h, outer_clock h, outer_masters h,
    outer_roles h, outer_store h, outer_lineA h, outer_lineB h, outer_pending h, outer_receiver h,
    outer_queue h, outer_outstanding h, outer_awaitingReset h, outer_waiting h, outer_onLine h,
    outer_lostRejects h, outer_enables h, outer_run h, outer_startTag h, hseq]

end read

/-! ## Writes -/

section writes
variable (s : State)

@[simp] theorem outer_setFloor (f : Floor) : (s.setFloor f).outer = s.outer := rfl
@[simp] theorem outer_setLog (l : SpeechLog) : (s.setLog l).outer = s.outer := rfl
@[simp] theorem outer_setSeats (v : Vector SeatRec 64) : (s.setSeats v).outer = s.outer := rfl
@[simp] theorem outer_setScreens (v : Vector ScreenRec 4) : (s.setScreens v).outer = s.outer := rfl
@[simp] theorem outer_modSeat (i : SeatId) (f : SeatRec → SeatRec) : (s.modSeat i f).outer = s.outer := rfl
@[simp] theorem outer_modScreen (j : ScreenId) (f : ScreenRec → ScreenRec) :
    (s.modScreen j f).outer = s.outer := rfl
@[simp] theorem outer_modMarks (f : NoticeMarks → NoticeMarks) : (s.modMarks f).outer = s.outer := rfl
@[simp] theorem outer_markFloor : (markFloor s).outer = s.outer := rfl
@[simp] theorem outer_markMeeting : (markMeeting s).outer = s.outer := rfl
@[simp] theorem outer_markLog : (markLog s).outer = s.outer := rfl
@[simp] theorem outer_markStore : (markStore s).outer = s.outer := rfl
@[simp] theorem outer_markSeat (u : Station) : (markSeat u s).outer = s.outer := rfl
@[simp] theorem outer_markSpeech (i : SeatId) : (markSpeech i s).outer = s.outer := rfl
@[simp] theorem outer_setSpeakers (l : List SpeakerEntry) : (setSpeakers l s).outer = s.outer := rfl
@[simp] theorem outer_setRequests (l : List RequestEntry) : (setRequests l s).outer = s.outer := rfl
@[simp] theorem outer_modSpeaker (i : SeatId) (f : SpeakerEntry → SpeakerEntry) :
    (modSpeaker i f s).outer = s.outer := rfl
@[simp] theorem outer_refuse (i : SeatId) (c : RefusalCode) : (refuse i c s).outer = s.outer := rfl
@[simp] theorem outer_clearRefusal (i : SeatId) : (clearRefusal i s).outer = s.outer := rfl
@[simp] theorem outer_clearAllRefusals : (clearAllRefusals s).outer = s.outer := rfl
@[simp] theorem outer_logSpeech (a : Option Nat) (e : SpeakerEntry) (r : CloseReason) :
    (logSpeech a e r s).outer = s.outer := rfl
@[simp] theorem outer_noteClose (i : SeatId) (r : CloseReason) : (noteClose i r s).outer = s.outer := rfl
@[simp] theorem outer_unmuteAll : (unmuteAll s).outer = s.outer := rfl
@[simp] theorem outer_modCard (i : SeatId) (f : CardPart → CardPart) : (modCard i f s).outer = s.outer := rfl
@[simp] theorem outer_setBoundSeat (a : Nat) (j : Option SeatId) : (setBoundSeat a j s).outer = s.outer := rfl
@[simp] theorem outer_addSpoken (a : Nat) : (addSpoken a s).outer = s.outer := rfl
@[simp] theorem outer_setFetchMark (i : SeatId) (b : Bool) : (setFetchMark i b s).outer = s.outer := rfl
@[simp] theorem outer_dropRoster : (dropRoster s).outer = s.outer := rfl

end writes

/-- Blanking goes into a choice. -/
@[simp] theorem outer_ite (c : Prop) [Decidable c] (s t : State) :
    (if c then s else t).outer = if c then s.outer else t.outer := apply_ite _ _ _ _

/-- A fold of steps that keep the blanked state keeps it. -/
theorem outer_foldl {α : Type} (f : State → α → State) (h : ∀ s a, (f s a).outer = s.outer) (l : List α)
    (s : State) : (l.foldl f s).outer = s.outer := by
  induction l generalizing s with
  | nil => rfl
  | cons a l ih => rw [List.foldl_cons, ih, h]

/-! ## The shared steps of the floor -/

@[simp] theorem outer_dropHolder (i : SeatId) (s : State) : (dropHolder i s).outer = s.outer := by
  unfold dropHolder; dsimp only; split
  · split <;> simp
  · rfl

@[simp] theorem outer_openSeat (i : SeatId) (s : State) : (openSeat i s).outer = s.outer := by
  unfold openSeat; dsimp only; split <;> simp

@[simp] theorem outer_closeSeatAs (w : SeatId → Option Nat) (r : CloseReason) (i : SeatId) (s : State) :
    (closeSeatAs w r i s).outer = s.outer := by
  unfold closeSeatAs; split <;> simp

@[simp] theorem outer_closeSeat (r : CloseReason) (i : SeatId) (s : State) :
    (closeSeat r i s).outer = s.outer := outer_closeSeatAs _ r i s

@[simp] theorem outer_queueSeat (i : SeatId) (s : State) : (queueSeat i s).outer = s.outer := by
  unfold queueSeat; split <;> simp

@[simp] theorem outer_withdrawSeat (i : SeatId) (s : State) : (withdrawSeat i s).outer = s.outer := by
  unfold withdrawSeat; split <;> simp

@[simp] theorem outer_closeOldest (r : CloseReason) (s : State) : (closeOldest r s).outer = s.outer := by
  unfold closeOldest; split <;> simp

theorem outer_grantHeadLoop (fuel : Nat) (r : Option CloseReason) (s : State) :
    (grantHeadLoop fuel r s).2.outer = s.outer := by
  induction fuel generalizing s with
  | zero => rfl
  | succ n ih =>
    unfold grantHeadLoop
    split
    · rfl
    · split
      · rw [ih]; simp
      · split
        · simp
        · split
          · split <;> simp
          · rfl

@[simp] theorem outer_grantHead (r : Option CloseReason) (s : State) : (grantHead r s).2.outer = s.outer :=
  outer_grantHeadLoop _ _ _

@[simp] theorem outer_advance (s : State) : (advance s).outer = s.outer := by
  unfold advance; split <;> split <;> simp

@[simp] theorem outer_closeAdvanceAs (w : SeatId → Option Nat) (r : CloseReason) (i : SeatId) (s : State) :
    (closeAdvanceAs w r i s).outer = s.outer := by
  unfold closeAdvanceAs; dsimp only; split
  · rfl
  · split <;> simp

@[simp] theorem outer_closeAdvance (r : CloseReason) (i : SeatId) (s : State) :
    (closeAdvance r i s).outer = s.outer := outer_closeAdvanceAs _ r i s

@[simp] theorem outer_closeAll (r : CloseReason) (l : List SeatId) (s : State) :
    (closeAll r l s).outer = s.outer := outer_foldl _ (by simp) _ _

@[simp] theorem outer_emptyRequests (s : State) : (emptyRequests s).outer = s.outer :=
  outer_foldl _ (by simp) _ _

@[simp] theorem outer_openFloor (p : Policy) (s : State) : (openFloor p s).outer = s.outer := by
  simp [openFloor]

@[simp] theorem outer_closeFloor (s : State) : (closeFloor s).outer = s.outer := by simp [closeFloor]

/-! ## Keys -/

@[simp] theorem outer_micOpenMode (i : SeatId) (s : State) : (micOpenMode i s).outer = s.outer := by
  unfold micOpenMode; dsimp only; split
  · simp
  · split
    · simp
    · split
      · simp
      · split <;> simp
      · split <;> simp

@[simp] theorem outer_micRequestMode (i : SeatId) (s : State) : (micRequestMode i s).outer = s.outer := by
  unfold micRequestMode; split <;> simp

@[simp] theorem outer_micPress (i : SeatId) (s : State) : (micPress i s).outer = s.outer := by
  unfold micPress; dsimp only; split
  · rfl
  · split
    · split <;> simp
    · split
      · simp
      · split <;> simp

@[simp] theorem outer_nextPress (i : SeatId) (s : State) : (nextPress i s).outer = s.outer := by
  unfold nextPress; dsimp only; split
  · rfl
  · split
    · simp
    · have h := outer_grantHead (if (clearRefusal i s).floor.policy.fullAction = .replaceOldest
        then some CloseReason.chair else none) (clearRefusal i s)
      split <;> rename_i heq <;> rw [heq] at h <;> simpa using h

@[simp] theorem outer_applyPriority (s : State) : (applyPriority s).outer = s.outer := by
  unfold applyPriority; dsimp only; split <;> simp

@[simp] theorem outer_priorityHeld (i : SeatId) (s : State) : (priorityHeld i s).outer = s.outer := by
  unfold priorityHeld; dsimp only; split
  · rfl
  · split
    · simp
    · split
      · simp
      · split
        · simp
        · rw [outer_applyPriority, outer_ite, outer_openSeat]; simp

@[simp] theorem outer_priorityReleased (i : SeatId) (s : State) : (priorityReleased i s).outer = s.outer := by
  unfold priorityReleased; split <;> simp

/-! ## The speech timer -/

@[simp] theorem outer_setTiming (i : SeatId) (w o : Bool) (s : State) : (setTiming i w o s).outer = s.outer := by
  unfold setTiming; split
  · rfl
  · split <;> simp

@[simp] theorem outer_warningCheck (i : SeatId) (s : State) : (warningCheck i s).outer = s.outer := by
  unfold warningCheck; split
  · rfl
  · split <;> simp

@[simp] theorem outer_limitCheckAs (w : SeatId → Option Nat) (i : SeatId) (s : State) :
    (limitCheckAs w i s).outer = s.outer := by
  unfold limitCheckAs; split
  · rfl
  · split
    · split <;> simp
    · rfl

@[simp] theorem outer_limitCheck (i : SeatId) (s : State) : (limitCheck i s).outer = s.outer :=
  outer_limitCheckAs _ i s

@[simp] theorem outer_allowanceCheckAs (w : SeatId → Option Nat) (i : SeatId) (s : State) :
    (allowanceCheckAs w i s).outer = s.outer := by
  unfold allowanceCheckAs; split
  · rfl
  · split <;> simp

@[simp] theorem outer_allowanceCheck (i : SeatId) (s : State) : (allowanceCheck i s).outer = s.outer :=
  outer_allowanceCheckAs _ i s

@[simp] theorem outer_barCheckAs (w : SeatId → Option Nat) (i : SeatId) (s : State) :
    (barCheckAs w i s).outer = s.outer := by
  unfold barCheckAs; split
  · simp
  · split <;> simp

@[simp] theorem outer_barCheck (i : SeatId) (s : State) : (barCheck i s).outer = s.outer :=
  outer_barCheckAs _ i s

@[simp] theorem outer_timingCheckAs (w : SeatId → Option Nat) (i : SeatId) (s : State) :
    (timingCheckAs w i s).outer = s.outer := by
  simp [timingCheckAs]

@[simp] theorem outer_timingCheck (i : SeatId) (s : State) : (timingCheck i s).outer = s.outer :=
  outer_timingCheckAs _ i s

@[simp] theorem outer_secondAtEntry (s : State) (e : SpeakerEntry) : (secondAtEntry s e).outer = s.outer := by
  unfold secondAtEntry; dsimp only; split
  · rfl
  · split
    · rfl
    · split
      · simp
      · split <;> simp

@[simp] theorem outer_secondAtFloor (s : State) : (secondAtFloor s).outer = s.outer :=
  outer_foldl _ (by simp) _ _

@[simp] theorem outer_policyCheck (s : State) (e : SpeakerEntry) : (policyCheck s e).outer = s.outer := by
  unfold policyCheck; dsimp only; split
  · rfl
  · split
    · rfl
    · split
      · simp
      · split
        · simp
        · split
          · split <;> simp
          · simp

@[simp] theorem outer_policyChecks (s : State) : (policyChecks s).outer = s.outer := by
  unfold policyChecks
  exact (outer_foldl _ (by simp) _ _).trans (outer_foldl _ (by simp) _ _)

/-! ## SET_FLOOR -/

@[simp] theorem outer_closeExcess (s : State) : (closeExcess s).outer = s.outer := by simp [closeExcess]

@[simp] theorem outer_drainRequests (fuel : Nat) (s : State) : (drainRequests fuel s).outer = s.outer := by
  induction fuel generalizing s with
  | zero => rfl
  | succ n ih =>
    unfold drainRequests
    have h := outer_grantHead none s
    split
    · rename_i heq; rw [heq] at h; rw [ih]; exact h
    · rename_i heq; rw [heq] at h; exact h

@[simp] theorem outer_adoptPolicy (p : Policy) (s : State) : (adoptPolicy p s).outer = s.outer := by
  unfold adoptPolicy; dsimp only
  split <;> split <;> simp

/-! ## Role changes -/

@[simp] theorem outer_becomeChair (w : SeatId → Option Nat) (i : SeatId) (s : State) :
    (becomeChair w i s).outer = s.outer := by
  unfold becomeChair; split <;> simp

@[simp] theorem outer_ceaseChair (w : SeatId → Option Nat) (i : SeatId) (s : State) :
    (ceaseChair w i s).outer = s.outer := by
  unfold ceaseChair; dsimp only; split <;> simp

@[simp] theorem outer_requestRolePass (c : SeatId → Bool) (s : State) (r : RequestEntry) :
    (requestRolePass c s r).outer = s.outer := by
  unfold requestRolePass; dsimp only; split
  · split
    · simp
    · split <;> simp
  · rfl

@[simp] theorem outer_speakerRolePass (w : SeatId → Option Nat) (c : SeatId → Bool) (s : State) (e : SpeakerEntry) :
    (speakerRolePass w c s e).outer = s.outer := by
  unfold speakerRolePass; dsimp only; split
  · rfl
  · split
    · rfl
    · split
      · simp
      · simp

@[simp] theorem outer_roleConsequences (s t : State) : (roleConsequences s t).outer = t.outer := by
  unfold roleConsequences; dsimp only; split
  · rfl
  · exact ((outer_foldl _ (by simp) _ _).trans (outer_foldl _ (by simp) _ _)).trans (outer_foldl _ (by simp) _ _)

/-! ## What a change hands on -/

@[simp] theorem outer_recompute (s : State) : (recompute s).outer = s.outer := by
  unfold recompute; exact outer_setSeats _ _

@[simp] theorem outer_markSeatNotices (s t : State) : (markSeatNotices s t).outer = t.outer := by
  unfold markSeatNotices
  refine (outer_foldl _ (fun s j => ?_) _ _).trans (outer_foldl _ (fun s i => ?_) _ _)
  · split <;> simp
  · split <;> simp

@[simp] theorem outer_markDisplays (s t : State) : (markDisplays s t).outer = t.outer := by
  unfold markDisplays; exact (outer_setScreens _ _).trans (outer_setSeats _ _)

@[simp] theorem outer_finishChange (b : Bool) (s t : State) : (finishChange b s t).outer = t.outer := by
  simp [finishChange]

/-- A change keeps what its own step keeps. -/
@[simp] theorem outer_change (f : State → State) (s : State) : (change f s).outer = (f s).outer := by simp [change]

/-- A change that calls for a recompute keeps what its own step keeps. -/
@[simp] theorem outer_changeLevels (f : State → State) (s : State) : (changeLevels f s).outer = (f s).outer := by
  simp [changeLevels]

/-! ## Cards -/

@[simp] theorem outer_placeCard (i : SeatId) (c : List Byte) (n : RoleId) (s : State) :
    (placeCard i c n s).outer = s.outer := by
  unfold placeCard; dsimp only; split
  · simp
  · split
    · simp
    · split <;> simp

@[simp] theorem outer_unbind (i : SeatId) (s : State) : (unbind i s).outer = s.outer := by
  unfold unbind; split
  · rfl
  · split <;> simp

@[simp] theorem outer_clearCard (i : SeatId) (s : State) : (clearCard i s).outer = s.outer := by simp [clearCard]

@[simp] theorem outer_insertCard (i : SeatId) (s : State) : (insertCard i s).outer = s.outer := by simp [insertCard]

@[simp] theorem outer_endFloorEntry (r : CloseReason) (i : SeatId) (s : State) :
    (endFloorEntry r i s).outer = s.outer := by
  unfold endFloorEntry; split <;> simp

@[simp] theorem outer_removeCard (i : SeatId) (s : State) : (removeCard i s).outer = s.outer := by simp [removeCard]

@[simp] theorem outer_takeCard (i : SeatId) (a b : Bool) (s : State) : (takeCard i a b s).outer = s.outer := by
  unfold takeCard; dsimp only; split
  · split
    · simp
    · split <;> simp
  · split <;> simp
  · split
    · simp
    · split <;> simp

@[simp] theorem outer_takeIdentity (i : SeatId) (c : List Byte) (s : State) :
    (takeIdentity i c s).outer = s.outer := by
  unfold takeIdentity; split
  · rfl
  · split
    · simp
    · split <;> simp

@[simp] theorem outer_searchHeld (s : State) (i : SeatId) : (searchHeld s i).outer = s.outer := by
  unfold searchHeld; dsimp only; split <;> simp

@[simp] theorem outer_loadRoster (l : List Attendee) (s : State) : (loadRoster l s).outer = s.outer :=
  outer_foldl _ (by simp) _ _

/-! ## Presence -/

@[simp] theorem outer_setPresence (u : Station) (p : Presence) (n : Nat) (s : State) :
    (setPresence u p n s).outer = s.outer := by cases u <;> rfl

@[simp] theorem outer_setConfirm (u : Station) (b : Bool) (s : State) : (setConfirm u b s).outer = s.outer := by
  cases u <;> rfl

@[simp] theorem outer_putMark (u : Station) (k : OrderKind) (b : Bool) (s : State) :
    (putMark u k b s).outer = s.outer := by cases u <;> cases k <;> rfl

@[simp] theorem outer_recordClean (u : Station) (s : State) : (recordClean u s).outer = s.outer := by
  unfold recordClean; split <;> simp

@[simp] theorem outer_dropUnit (s : State) (u : Station) : (dropUnit s u).outer = s.outer := by
  cases u <;> simp [dropUnit]

@[simp] theorem outer_loseCore (us : List Station) (s : State) : (loseCore us s).outer = s.outer := by
  unfold loseCore; dsimp only
  exact (((outer_foldl _ (by simp) _ _).trans (outer_foldl _ (by simp) _ _)).trans
    (outer_foldl _ (by simp) _ _)).trans (outer_foldl _ (by simp) _ _)

@[simp] theorem outer_freezeSeat (i : SeatId) (s : State) : (freezeSeat i s).outer = s.outer := rfl

@[simp] theorem outer_loseUnits (us : List Station) (s : State) : (loseUnits us s).outer = s.outer := by
  unfold loseUnits
  exact (outer_foldl _ (by simp) _ _).trans (by simp)

@[simp] theorem outer_recordMiss (u : Station) (s : State) : (recordMiss u s).outer = s.outer := by
  unfold recordMiss; split
  · simp
  · split <;> simp
  · rfl

@[simp] theorem outer_absentCore (u : Station) (s : State) : (absentCore u s).outer = s.outer := by
  cases u <;> simp [absentCore]

@[simp] theorem outer_returnCore (u : Station) (k : UnitKind) (s : State) : (returnCore u k s).outer = s.outer := by
  cases u <;> simp [returnCore]

@[simp] theorem outer_returnUnit (u : Station) (k : UnitKind) (s : State) : (returnUnit u k s).outer = s.outer := by
  simp [returnUnit]

@[simp] theorem outer_takePresence (u : Station) (f : PollFields) (s : State) :
    (takePresence u f s).outer = s.outer := by
  unfold takePresence; dsimp only; split <;> split <;> simp

@[simp] theorem outer_takeFetch (i : SeatId) (c : List Byte) (s : State) : (takeFetch i c s).outer = s.outer := by
  simp [takeFetch]

@[simp] theorem outer_refetch (i : SeatId) (s : State) : (refetch i s).outer = s.outer := by
  unfold refetch; split <;> simp

@[simp] theorem outer_forgetDisplay (u : Station) (c : OrderContent) (s : State) :
    (forgetDisplay u c s).outer = s.outer := by
  unfold forgetDisplay; split <;> simp

@[simp] theorem outer_takeOrderFailure (u : Station) (c : OrderContent) (s : State) :
    (takeOrderFailure u c s).outer = s.outer := by simp [takeOrderFailure]

@[simp] theorem outer_takeAcknowledgement (u : Station) (c : OrderContent) (s : State) :
    (takeAcknowledgement u c s).outer = s.outer := by
  unfold takeAcknowledgement acknowledgeItem acknowledgeSeatDisplay; dsimp only
  split <;> simp

end Sys2Proof.Machine
end

