-- ==== Sys2Proof/Laws/Change.lean ====
section
/-! SUPPORT. A change that changes nothing hands nothing on. -/

namespace Sys2Proof.Machine

/-- A fold whose every step is the identity. -/
theorem foldl_id {α : Type} (f : State → α → State) (h : ∀ s a, f s a = s) (l : List α) (s : State) :
    l.foldl f s = s := by
  induction l generalizing s with
  | nil => rfl
  | cons a l ih => rw [List.foldl_cons, h, ih]

/-- Where no seat's role and no binding changed, the floor is left. -/
theorem roleConsequences_same {s0 s1 : State} (hr : ∀ i, s0.roleKey i = s1.roleKey i)
    (hb : ∀ i, s0.boundAttendee i = s1.boundAttendee i) : roleConsequences s0 s1 = s1 := by
  have e : (fun i => decide (s0.roleKey i ≠ s1.roleKey i)) = fun _ => false := by
    funext i; simp [hr i]
  have b : (fun i => decide (s1.boundAttendee i ≠ none ∧ s0.boundAttendee i ≠ s1.boundAttendee i))
      = fun _ => false := by
    funext i; simp [hb i]
  unfold roleConsequences
  split
  · rfl
  · dsimp only
    rw [e, b]
    simp only [List.filter_false, List.foldl_nil]
    rw [foldl_id (requestRolePass fun _ => false) (fun s r => by simp [requestRolePass])]
    refine foldl_id _ (fun s x => ?_) _ _
    unfold speakerRolePass
    split <;> simp

/-- The level targets are not due where nothing changed. -/
theorem levelsDue_self (s : State) : levelsDue s s = false := by
  unfold levelsDue
  refine List.any_eq_false.mpr fun i _ => ?_
  cases s.speaker i <;> simp

/-- No SEAT notice is marked where nothing changed. -/
theorem markSeatNotices_self (s : State) : markSeatNotices s s = s := by
  unfold markSeatNotices
  dsimp only
  rw [foldl_id _ (fun t i => by simp)]
  exact foldl_id _ (fun t i => by simp) _ _

/-- A screen's marks stay where no item is due. -/
theorem markItems_none (s : State) (c : ScreenRec) : markItems s (fun _ => false) c = c := by
  unfold markItems
  split
  · rfl
  · have : (Vector.ofFn fun i : ItemId => c.itemMarks[i] || (false && decide (c.itemSent[i] ≠ some (s.itemKey i))))
        = c.itemMarks := by
      ext i hi; simp
    rw [this]

/-- No display mark is set where nothing changed. -/
theorem markDisplays_self (s : State) : markDisplays s s = s := by
  have hd : itemsDue s s = fun _ => false := by
    funext i; simp [itemsDue]
  have hs : (Vector.ofFn fun i : SeatId => markSeatDisplays s s i s.seats[i]) = s.seats := by
    ext i hi
    simp [markSeatDisplays]
  have hc : s.screens.map (markItems s (itemsDue s s)) = s.screens := by
    ext i hi
    simp [hd, markItems_none]
  unfold markDisplays
  rw [hs, hc]
  rfl

/-- Nothing changed, so nothing is handed on. -/
theorem finishChange_self (s : State) : finishChange false s s = s := by
  unfold finishChange
  dsimp only
  rw [roleConsequences_same (fun _ => rfl) fun _ => rfl, levelsDue_self, Bool.or_false, if_neg Bool.false_ne_true,
    markSeatNotices_self, if_pos rfl, markDisplays_self]

/-- A change that leaves the state as it is. -/
theorem change_of_same {f : State → State} {s : State} (h : f s = s) : change f s = s := by
  unfold change
  rw [h, finishChange_self]

/-- Re-evaluating a status touches the seats alone (R149). -/
theorem remarkStatus_kept (i : SeatId) (s : State) : KeptBut [.seats] s (remarkStatus i s) := by
  intro b hb
  cases b <;> simp at hb <;> simp [Block.Same, remarkStatus]

/-- Re-evaluating every label touches the seats alone (R145). -/
theorem remarkLabels_kept (s : State) : KeptBut [.seats] s (remarkLabels s) := by
  intro b hb
  cases b <;> simp at hb <;> simp [Block.Same, remarkLabels]

/-- Re-evaluating items touches the screens alone (R142). -/
theorem remarkItemsWhere_kept (due : ItemId → Bool) (s : State) : KeptBut [.screens] s (remarkItemsWhere due s) := by
  intro b hb
  cases b <;> simp at hb <;> simp [Block.Same, remarkItemsWhere]

/-- All that a key event can do beyond its change: the seat's status is re-evaluated (R149). -/
theorem keyEvent_eq (i : SeatId) (acts : Bool) (f : State → State) (s : State) :
    keyEvent i acts f s = change f s ∨ keyEvent i acts f s = remarkStatus i (change f s) := by
  unfold keyEvent
  dsimp only
  split
  · exact .inr rfl
  · exact .inl rfl

end Sys2Proof.Machine
end

