-- ==== Sys2Proof/Laws/Link.lean ====
section
/-! SUPPORT. What follows every command, said once: the store engine of a part at rest takes up nothing, the
transmitter begins at most one frame, and a request that a ready part takes is answered by one frame handed to
the transmitter; and what a program that waits for room and the RESCANs that wait come to. -/

namespace Sys2Proof.Machine

/-! ## The store engine at rest -/

/-- An engine at rest takes up nothing. -/
theorem pump_of_atRest {s : State} (h : s.store.AtRest) : pump s = s := by
  obtain ⟨h1, h2, h3⟩ := h
  have e1 : resumeErase s = s := by
    unfold resumeErase; split
    · next h => exact absurd h.2 (h1 h.1)
    · rfl
  have e2 : refuseHalted s = s := by
    unfold refuseHalted; split
    · next h =>
      rw [h2 h]
      show s.setStore { s.store with programs := [] } = s
      have : ({ s.store with programs := [] } : Store) = s.store := by
        conv_rhs => rw [← show ({ s.store with programs := s.store.programs } : Store) = s.store from rfl, h2 h]
      rw [this]; rfl
    · rfl
  unfold pump
  simp only [e1, e2]
  generalize 2 * s.store.programs.length + 400 = n
  cases n with
  | zero => rfl
  | succ n =>
    unfold pumpLoop; split
    · rfl
    · next h =>
      have he : s.store.engine = .idle := by by_contra hc; exact h (Or.inl hc)
      have hr : s.store.reads = [] := by by_contra hc; exact h (Or.inr hc)
      obtain ⟨hp, hq⟩ := h3 he hr
      simp [chooseWork, hp, hq]

/-! ## A program that waits for room -/

section waits
variable (s : State)

@[simp] theorem headWaits_pass : (headWaits s).store.pass = s.store.pass := by unfold headWaits; split <;> rfl
@[simp] theorem headWaits_latch : (headWaits s).store.latch = s.store.latch := by unfold headWaits; split <;> rfl
@[simp] theorem headWaits_engine : (headWaits s).store.engine = s.store.engine := by unfold headWaits; split <;> rfl
@[simp] theorem headWaits_victim : (headWaits s).victim = s.victim := by unfold headWaits; split <;> rfl

end waits

/-- While a pass runs, a program that finds no room only waits (R121). -/
theorem waitForRoom_of_pass {s : State} {p : Pass} (h : s.store.pass = some p) : waitForRoom s = headWaits s := by
  simp [waitForRoom, startPass, h]

/-- A program that finds no room starts a pass where there is a victim (R130). -/
theorem waitForRoom_of_victim {s : State} {v : Fin 16} (hp : s.store.pass = none) (hl : s.store.latch = false)
    (he : s.store.engine ≠ .scanning) (hv : s.victim = some v) :
    waitForRoom s = modStore (fun t => { t with pass := some ⟨v, 0, 0, none⟩ }) (headWaits s) := by
  simp [waitForRoom, startPass, hp, hl, he, hv, modStore]

/-- A program that finds no room ends STORE_FULL where there is no victim (R132). -/
theorem waitForRoom_of_noVictim {s : State} (hp : s.store.pass = none) (hl : s.store.latch = false)
    (he : s.store.engine ≠ .scanning) (hv : s.victim = none) :
    waitForRoom s = failHead (markStore (setOutcome .ok (headWaits s))) := by
  have h : (markStore (setOutcome .ok (headWaits s))).store.pass = none := by
    show (headWaits s).store.pass = none
    simp [hp]
  simp [waitForRoom, startPass, hp, hl, he, hv, h]

/-! ## RESCANs answered -/

/-- The replies of the RESCANs that a report answers join the waiting list in their order, and nothing else happens
(R176, R206). -/
theorem rescanReplies (x : Line) (tags : List Byte) (s : State) :
    tags.foldl (fun s tag => rescanReply x tag s) s = s.setLink { s.link with
      waiting := s.link.waiting ++ tags.map fun tag =>
        ⟨.reply, replyFrame 0x41 tag .ok (put1 x.seatsFound ++ screensByte x.screensFound
          ++ [Config.unnumbered .lineState (lineStateIndex x.state)])⟩ } := by
  induction tags generalizing s with
  | nil => simp; rfl
  | cons tag tags ih =>
    rw [List.foldl_cons, ih]
    simp [rescanReply, reply, placeFrame, State.setLink]

/-! ## The transmitter -/

/-- A notice is due by the enables and the marks alone. -/
def HostLink.noticeDue (k : HostLink) : Prop :=
  (k.enables.fault ∧ k.marks.fault) ∨ (k.enables.meeting ∧ k.marks.meeting) ∨ (k.enables.floor ∧ k.marks.floor)
    ∨ (k.enables.seat ∧ k.marks.seats ≠ []) ∨ (k.enables.speech ∧ k.marks.speeches ≠ [])
    ∨ (k.enables.store ∧ k.marks.store) ∨ (k.enables.log ∧ k.marks.log)

/-- No notice is due exactly where the enables and the marks give none. -/
theorem dueNotice_isNone (s : State) : (dueNotice s).isNone = true ↔ ¬ s.link.noticeDue := by
  unfold dueNotice HostLink.noticeDue
  dsimp only
  split_ifs <;> simp_all

/-- Whether the transmitter is settled depends on the host link alone. -/
theorem transmitterSettled_iff (s : State) :
    s.TransmitterSettled ↔ (s.link.onLine = none → s.link.waiting = [] ∧ ¬ s.link.noticeDue) := by
  unfold State.TransmitterSettled; rw [dueNotice_isNone]

/-- A settled transmitter begins nothing. -/
theorem chooseFrame_of_settled {s : State} (h : s.TransmitterSettled) : chooseFrame s = s := by
  unfold chooseFrame
  cases ho : s.link.onLine with
  | some f => rfl
  | none =>
    obtain ⟨hw, hd⟩ := h ho
    simp [hw, Option.isNone_iff_eq_none.mp hd]

/-- A busy transmitter begins nothing. -/
theorem chooseFrame_of_busy {s : State} {f : OutFrame} (h : s.link.onLine = some f) : chooseFrame s = s := by
  simp [chooseFrame, h]

/-- An idle transmitter begins the first frame that waits. -/
theorem chooseFrame_of_waiting {s : State} {f : OutFrame} {l : List OutFrame} (h : s.link.onLine = none)
    (hw : s.link.waiting = f :: l) :
    chooseFrame s = s.modLink fun k => { k with onLine := some f, waiting := l } := by
  simp [chooseFrame, h, hw]

/-- After its choice the transmitter is busy or settled. -/
theorem chooseFrame_settled (s : State) : (chooseFrame s).TransmitterSettled := by
  intro h
  unfold chooseFrame at h ⊢
  cases ho : s.link.onLine with
  | some f => simp [ho] at h
  | none =>
    cases hw : s.link.waiting with
    | cons f l => simp [ho, hw] at h
    | nil =>
      cases hd : dueNotice s with
      | some d => simp [ho, hw, hd] at h
      | none => simp [hw, hd]

/-- A second choice changes nothing. -/
theorem chooseFrame_idem (s : State) : chooseFrame (chooseFrame s) = chooseFrame s :=
  chooseFrame_of_settled (chooseFrame_settled s)

/-- The transmitter's choice touches the host link alone. -/
theorem chooseFrame_link (s : State) : ∃ k, chooseFrame s = s.setLink k := by
  unfold chooseFrame
  cases s.link.onLine with
  | some f => exact ⟨s.link, rfl⟩
  | none =>
    cases s.link.waiting with
    | cons f l => exact ⟨_, rfl⟩
    | nil =>
      dsimp only
      cases hd : dueNotice s with
      | none => exact ⟨s.link, rfl⟩
      | some d =>
        suffices h : ∃ k, d.after = s.setLink k by
          obtain ⟨k, hk⟩ := h
          refine ⟨{ k with onLine := some ⟨.notice, ⟨d.kind, 0, d.body⟩⟩ }, ?_⟩
          show d.after.modLink _ = _
          rw [hk]; rfl
        unfold dueNotice at hd
        dsimp only at hd
        repeat' split at hd
        all_goals first | (cases hd; exact ⟨_, rfl⟩) | cases hd

/-! ## A frame handed to the transmitter -/

/-- A frame that joins the waiting list of a part where none waits for an idle line goes to the transmitter. -/
theorem chooseFrame_placeFrame {s : State} (f : OutFrame) (h : s.link.onLine = none → s.link.waiting = []) :
    chooseFrame (placeFrame f s) = s.send f := by
  unfold State.send
  cases ho : s.link.onLine with
  | some g => exact chooseFrame_of_busy (f := g) ho
  | none =>
    have hw := h ho
    rw [chooseFrame_of_waiting (s := placeFrame f s) (f := f) (l := []) ho
      (show s.link.waiting ++ [f] = [f] by rw [hw]; rfl)]
    show State.modLink (placeFrame f s) _ = s.modLink _
    simp [placeFrame, State.modLink, State.setLink, ← hw]

section send
variable (s : State) (f : OutFrame)

@[simp] theorem send_powered : (s.send f).powered = s.powered := by unfold State.send; split <;> rfl
@[simp] theorem send_rate : (s.send f).rate = s.rate := by unfold State.send; split <;> rfl
@[simp] theorem send_clock : (s.send f).clock = s.clock := by unfold State.send; split <;> rfl
@[simp] theorem send_floor : (s.send f).floor = s.floor := by unfold State.send; split <;> rfl
@[simp] theorem send_log : (s.send f).log = s.log := by unfold State.send; split <;> rfl
@[simp] theorem send_masters : (s.send f).masters = s.masters := by unfold State.send; split <;> rfl
@[simp] theorem send_roles : (s.send f).roles = s.roles := by unfold State.send; split <;> rfl
@[simp] theorem send_seats : (s.send f).seats = s.seats := by unfold State.send; split <;> rfl
@[simp] theorem send_screens : (s.send f).screens = s.screens := by unfold State.send; split <;> rfl
@[simp] theorem send_seq : (s.send f).seq = s.seq := by unfold State.send; split <;> rfl
@[simp] theorem send_store : (s.send f).store = s.store := by unfold State.send; split <;> rfl
@[simp] theorem send_lineA : (s.send f).lineA = s.lineA := by unfold State.send; split <;> rfl
@[simp] theorem send_lineB : (s.send f).lineB = s.lineB := by unfold State.send; split <;> rfl
@[simp] theorem send_pending : (s.send f).pending = s.pending := by unfold State.send; split <;> rfl

end send

/-! ## What follows a command -/

/-- With no frame to take and an engine at rest, what follows a command is the transmitter's choice. -/
theorem settleLink_of_atRest {s : State} (hq : s.link.queue = []) (h : s.store.AtRest) :
    settleLink s = chooseFrame s := by
  simp [settleLink, pump_of_atRest h, hq, takeFrames, chooseFrame_idem]

/-- An event that leaves no frame to take and an engine at rest. -/
theorem event_of_atRest {s : State} (f : State → State) (hp : s.powered = true) (hq : (f s).link.queue = [])
    (h : (f s).store.AtRest) : event f s = chooseFrame (f s) := by
  simp [event, hp, settleLink_of_atRest hq h]

/-- A ready part takes a request at once. -/
theorem hostRequest_of_ready {s : State} (fr : Frame) (f : State → State) (h : s.Ready) :
    hostRequest fr f s = chooseFrame (pump (f s.taken)) := by
  obtain ⟨⟨hp, hq, _, _⟩, hc⟩ := h
  simp [hostRequest, hp, hq, hc, takeRequest, State.taken]

/-- A request that a ready part takes, whose effect leaves the engine at rest and the transmitter as it was, and
forms its reply at once. -/
theorem hostRequest_reply {s u : State} (fr : Frame) {f : State → State} {kind tag : Byte} {r : Result}
    {body : List Byte} (h : s.Ready) (hf : f s.taken = reply kind tag r body u) (hr : u.store.AtRest)
    (ho : u.link.onLine = s.link.onLine) (hw : u.link.waiting = s.link.waiting) :
    hostRequest fr f s = u.send ⟨.reply, replyFrame kind tag r body⟩ := by
  rw [hostRequest_of_ready fr f h, hf, pump_of_atRest (show (reply kind tag r body u).store.AtRest from hr)]
  refine chooseFrame_placeFrame _ ?_
  rw [ho, hw]
  exact fun hn => (h.1.2.2.2 hn).1

/-- A request that a ready part answers without any other effect. -/
theorem hostRequest_answer {s : State} (fr : Frame) {f : State → State} {kind tag : Byte} {r : Result}
    {body : List Byte} (h : s.Ready) (hf : f s.taken = reply kind tag r body s.taken) :
    hostRequest fr f s = s.answer kind tag r body :=
  hostRequest_reply fr h hf h.1.2.2.1 rfl rfl

/-- What a frame handed to the transmitter makes of the link. -/
theorem answered_of_send {s u : State} {kind tag : Byte} {r : Result} {body : List Byte}
    (hb : s.link.onLine = none → s.link.waiting = [])
    (hn : u.link.outstanding = s.link.outstanding + 1) (hl : u.link.lostRejects = s.link.lostRejects)
    (ho : u.link.onLine = s.link.onLine) (hw : u.link.waiting = s.link.waiting) :
    Answered kind tag r body s (u.send ⟨.reply, replyFrame kind tag r body⟩) := by
  unfold Answered State.send
  cases hs : s.link.onLine with
  | none => simp [ho, hs, hn, hl, hw, hb hs]
  | some g => simp [ho, hs, hn, hl, hw]

/-- A request that a ready part takes and answers after a change of the floor, the cards or the marks. -/
theorem hostRequest_outer {s u : State} (fr : Frame) {f : State → State} {kind tag : Byte} {r : Result}
    {body : List Byte} (h : s.Ready) (hf : f s.taken = reply kind tag r body u) (hu : u.outer = s.taken.outer) :
    hostRequest fr f s = u.send ⟨.reply, replyFrame kind tag r body⟩
      ∧ Answered kind tag r body s (u.send ⟨.reply, replyFrame kind tag r body⟩) := by
  have hs : u.store = s.store := (outer_store hu :)
  have ho : u.link.onLine = s.link.onLine := (outer_onLine hu :)
  have hw : u.link.waiting = s.link.waiting := (outer_waiting hu :)
  have hn : u.link.outstanding = s.link.outstanding + 1 := (outer_outstanding hu :)
  have hl : u.link.lostRejects = s.link.lostRejects := (outer_lostRejects hu :)
  exact ⟨hostRequest_reply fr h hf (by rw [hs]; exact h.1.2.2.1) ho hw,
    answered_of_send (fun hn => (h.1.2.2.2 hn).1) hn hl ho hw⟩

/-! ## REJECTs -/

/-- A REJECT at a part where none waits for an idle line goes to the transmitter, or is counted as lost. -/
theorem chooseFrame_reject {s : State} (tag : Byte) (r : RejectReason) (h : s.TransmitterSettled) :
    chooseFrame (reject tag r s) = s.sendReject tag r := by
  unfold reject State.sendReject State.rejectsWaiting Config.maxRejects
  split
  · exact chooseFrame_placeFrame _ fun hn => (h hn).1
  · exact chooseFrame_of_settled ((transmitterSettled_iff _).mpr ((transmitterSettled_iff s).mp h))

end Sys2Proof.Machine
end

