-- ==== Sys2Proof/Laws/PerInstr.lean ====
section
/-! SUPPORT. One statement about every command as syntax, proved constructor by constructor. -/

namespace Sys2Proof.Laws

open Sys2Proof.Machine

/-- A well-formed command that a frame carries fits a frame, and its kind is a request's unless it is the command for
the kinds that are none (R199, R218). -/
def Formed.Statement (i : Instr) : Prop :=
  ∀ f, requestFrame i = some f → i.wellFormed = true →
    f.payload.length ≤ 1536 ∧ (f.kind.toNat ∈ requestKinds ↔ ∀ k t p, i ≠ .unknownKind k t p)

/-- A request whose kind is one of the part's. -/
theorem formed_of_request {i : Instr} {k tag : Byte} {p : List Byte} (h : requestFrame i = some ⟨k, tag, p⟩)
    (hw : i.wellFormed = wfPayload p) (hk : k.toNat ∈ requestKinds) (hn : ∀ k t p, i ≠ .unknownKind k t p) :
    Formed.Statement i := by
  intro f hf hi
  rw [h] at hf
  cases hf
  exact ⟨of_decide_eq_true (hw.symm.trans hi), fun _ => hn, fun _ => hk⟩

/-- A command that no frame carries. -/
theorem formed_of_event {i : Instr} (h : requestFrame i = none) : Formed.Statement i := by
  intro f hf
  rw [h] at hf
  cases hf

theorem Formed.unknownKind (kind tag : Byte) (payload : List Byte) :
    Formed.Statement (.unknownKind kind tag payload) := by
  intro f hf hi
  cases hf
  obtain ⟨hk, hp⟩ := (Bool.and_eq_true _ _).mp hi
  refine ⟨by simpa [wfPayload] using hp, fun h => ?_, fun h => absurd rfl (h kind tag payload)⟩
  exact absurd h (by simpa [wfUnknownKind] using hk)

theorem Formed.powerOn (rate1 rate0 : Bool) : Formed.Statement (.powerOn rate1 rate0) :=
  formed_of_event rfl

theorem Formed.completeFrame (bytes : List Byte) : Formed.Statement (.completeFrame bytes) :=
  formed_of_event rfl

theorem Formed.rejectTruncated : Formed.Statement .rejectTruncated :=
  formed_of_event rfl

theorem Formed.rejectBadLength (second : Byte) : Formed.Statement (.rejectBadLength second) :=
  formed_of_event rfl

theorem Formed.frameSent : Formed.Statement .frameSent :=
  formed_of_event rfl

theorem Formed.restartReset : Formed.Statement .restartReset :=
  formed_of_event rfl

theorem Formed.grant (tag : Byte) (payload : List Byte) : Formed.Statement (.grant tag payload) :=
  formed_of_request rfl rfl (by decide) (fun _ _ _ h => by cases h)

theorem Formed.close (tag : Byte) (payload : List Byte) : Formed.Statement (.close tag payload) :=
  formed_of_request rfl rfl (by decide) (fun _ _ _ h => by cases h)

theorem Formed.withdraw (tag : Byte) (payload : List Byte) : Formed.Statement (.withdraw tag payload) :=
  formed_of_request rfl rfl (by decide) (fun _ _ _ h => by cases h)

theorem Formed.clearFloor (tag : Byte) (payload : List Byte) : Formed.Statement (.clearFloor tag payload) :=
  formed_of_request rfl rfl (by decide) (fun _ _ _ h => by cases h)

theorem Formed.setFloor (tag : Byte) (payload : List Byte) : Formed.Statement (.setFloor tag payload) :=
  formed_of_request rfl rfl (by decide) (fun _ _ _ h => by cases h)

theorem Formed.floorStatus (tag : Byte) (payload : List Byte) : Formed.Statement (.floorStatus tag payload) :=
  formed_of_request rfl rfl (by decide) (fun _ _ _ h => by cases h)

theorem Formed.readLog (tag : Byte) (payload : List Byte) : Formed.Statement (.readLog tag payload) :=
  formed_of_request rfl rfl (by decide) (fun _ _ _ h => by cases h)

theorem Formed.setLevels (tag : Byte) (payload : List Byte) : Formed.Statement (.setLevels tag payload) :=
  formed_of_request rfl rfl (by decide) (fun _ _ _ h => by cases h)

theorem Formed.setTrim (tag : Byte) (payload : List Byte) : Formed.Statement (.setTrim tag payload) :=
  formed_of_request rfl rfl (by decide) (fun _ _ _ h => by cases h)

theorem Formed.getLevels (tag : Byte) (payload : List Byte) : Formed.Statement (.getLevels tag payload) :=
  formed_of_request rfl rfl (by decide) (fun _ _ _ h => by cases h)

theorem Formed.setRole (tag : Byte) (payload : List Byte) : Formed.Statement (.setRole tag payload) :=
  formed_of_request rfl rfl (by decide) (fun _ _ _ h => by cases h)

theorem Formed.getRole (tag : Byte) (payload : List Byte) : Formed.Statement (.getRole tag payload) :=
  formed_of_request rfl rfl (by decide) (fun _ _ _ h => by cases h)

theorem Formed.setSeatRole (tag : Byte) (payload : List Byte) : Formed.Statement (.setSeatRole tag payload) :=
  formed_of_request rfl rfl (by decide) (fun _ _ _ h => by cases h)

theorem Formed.setFilter (tag : Byte) (payload : List Byte) : Formed.Statement (.setFilter tag payload) :=
  formed_of_request rfl rfl (by decide) (fun _ _ _ h => by cases h)

theorem Formed.getFilter (tag : Byte) (payload : List Byte) : Formed.Statement (.getFilter tag payload) :=
  formed_of_request rfl rfl (by decide) (fun _ _ _ h => by cases h)

theorem Formed.enableFilter (tag : Byte) (payload : List Byte) : Formed.Statement (.enableFilter tag payload) :=
  formed_of_request rfl rfl (by decide) (fun _ _ _ h => by cases h)

theorem Formed.disableFilter (tag : Byte) (payload : List Byte) : Formed.Statement (.disableFilter tag payload) :=
  formed_of_request rfl rfl (by decide) (fun _ _ _ h => by cases h)

theorem Formed.setRoom (tag : Byte) (payload : List Byte) : Formed.Statement (.setRoom tag payload) :=
  formed_of_request rfl rfl (by decide) (fun _ _ _ h => by cases h)

theorem Formed.setTime (tag : Byte) (payload : List Byte) : Formed.Statement (.setTime tag payload) :=
  formed_of_request rfl rfl (by decide) (fun _ _ _ h => by cases h)

theorem Formed.getTime (tag : Byte) (payload : List Byte) : Formed.Statement (.getTime tag payload) :=
  formed_of_request rfl rfl (by decide) (fun _ _ _ h => by cases h)

theorem Formed.listBookings (tag : Byte) (payload : List Byte) : Formed.Statement (.listBookings tag payload) :=
  formed_of_request rfl rfl (by decide) (fun _ _ _ h => by cases h)

theorem Formed.openNow (tag : Byte) (payload : List Byte) : Formed.Statement (.openNow tag payload) :=
  formed_of_request rfl rfl (by decide) (fun _ _ _ h => by cases h)

theorem Formed.book (tag : Byte) (payload : List Byte) : Formed.Statement (.book tag payload) :=
  formed_of_request rfl rfl (by decide) (fun _ _ _ h => by cases h)

theorem Formed.walkIn (tag : Byte) (payload : List Byte) : Formed.Statement (.walkIn tag payload) :=
  formed_of_request rfl rfl (by decide) (fun _ _ _ h => by cases h)

theorem Formed.amend (tag : Byte) (payload : List Byte) : Formed.Statement (.amend tag payload) :=
  formed_of_request rfl rfl (by decide) (fun _ _ _ h => by cases h)

theorem Formed.cancel (tag : Byte) (payload : List Byte) : Formed.Statement (.cancel tag payload) :=
  formed_of_request rfl rfl (by decide) (fun _ _ _ h => by cases h)

theorem Formed.extend (tag : Byte) (payload : List Byte) : Formed.Statement (.extend tag payload) :=
  formed_of_request rfl rfl (by decide) (fun _ _ _ h => by cases h)

theorem Formed.endNow (tag : Byte) (payload : List Byte) : Formed.Statement (.endNow tag payload) :=
  formed_of_request rfl rfl (by decide) (fun _ _ _ h => by cases h)

theorem Formed.getBooking (tag : Byte) (payload : List Byte) : Formed.Statement (.getBooking tag payload) :=
  formed_of_request rfl rfl (by decide) (fun _ _ _ h => by cases h)

theorem Formed.storeStatus (tag : Byte) (payload : List Byte) : Formed.Statement (.storeStatus tag payload) :=
  formed_of_request rfl rfl (by decide) (fun _ _ _ h => by cases h)

theorem Formed.storeClear (tag : Byte) (payload : List Byte) : Formed.Statement (.storeClear tag payload) :=
  formed_of_request rfl rfl (by decide) (fun _ _ _ h => by cases h)

theorem Formed.compact (tag : Byte) (payload : List Byte) : Formed.Statement (.compact tag payload) :=
  formed_of_request rfl rfl (by decide) (fun _ _ _ h => by cases h)

theorem Formed.setLabel (tag : Byte) (payload : List Byte) : Formed.Statement (.setLabel tag payload) :=
  formed_of_request rfl rfl (by decide) (fun _ _ _ h => by cases h)

theorem Formed.getDisplay (tag : Byte) (payload : List Byte) : Formed.Statement (.getDisplay tag payload) :=
  formed_of_request rfl rfl (by decide) (fun _ _ _ h => by cases h)

theorem Formed.setLines (tag : Byte) (payload : List Byte) : Formed.Statement (.setLines tag payload) :=
  formed_of_request rfl rfl (by decide) (fun _ _ _ h => by cases h)

theorem Formed.rescan (tag : Byte) (payload : List Byte) : Formed.Statement (.rescan tag payload) :=
  formed_of_request rfl rfl (by decide) (fun _ _ _ h => by cases h)

theorem Formed.lineStatus (tag : Byte) (payload : List Byte) : Formed.Statement (.lineStatus tag payload) :=
  formed_of_request rfl rfl (by decide) (fun _ _ _ h => by cases h)

theorem Formed.getSeat (tag : Byte) (payload : List Byte) : Formed.Statement (.getSeat tag payload) :=
  formed_of_request rfl rfl (by decide) (fun _ _ _ h => by cases h)

theorem Formed.start (tag : Byte) (payload : List Byte) : Formed.Statement (.start tag payload) :=
  formed_of_request rfl rfl (by decide) (fun _ _ _ h => by cases h)

theorem Formed.restart (tag : Byte) (payload : List Byte) : Formed.Statement (.restart tag payload) :=
  formed_of_request rfl rfl (by decide) (fun _ _ _ h => by cases h)

theorem Formed.setNotices (tag : Byte) (payload : List Byte) : Formed.Statement (.setNotices tag payload) :=
  formed_of_request rfl rfl (by decide) (fun _ _ _ h => by cases h)

theorem Formed.identify (tag : Byte) (payload : List Byte) : Formed.Statement (.identify tag payload) :=
  formed_of_request rfl rfl (by decide) (fun _ _ _ h => by cases h)

theorem Formed.ping (tag : Byte) (payload : List Byte) : Formed.Statement (.ping tag payload) :=
  formed_of_request rfl rfl (by decide) (fun _ _ _ h => by cases h)

theorem Formed.secondEvent : Formed.Statement .secondEvent :=
  formed_of_event rfl

theorem Formed.speechWarning (seat : SeatId) : Formed.Statement (.speechWarning seat) :=
  formed_of_event rfl

theorem Formed.speechLimit (seat : SeatId) : Formed.Statement (.speechLimit seat) :=
  formed_of_event rfl

theorem Formed.allowanceReached (seat : SeatId) : Formed.Statement (.allowanceReached seat) :=
  formed_of_event rfl

theorem Formed.minuteEvent : Formed.Statement .minuteEvent :=
  formed_of_event rfl

theorem Formed.lineSleep (line : LineId) : Formed.Statement (.lineSleep line) :=
  formed_of_event rfl

theorem Formed.storeProgramComplete (wear : List WornUnit) : Formed.Statement (.storeProgramComplete wear) :=
  formed_of_event rfl

theorem Formed.storeReadComplete (wear : List WornUnit) : Formed.Statement (.storeReadComplete wear) :=
  formed_of_event rfl

theorem Formed.rosterLoadComplete (wear : List WornUnit) : Formed.Statement (.rosterLoadComplete wear) :=
  formed_of_event rfl

theorem Formed.eraseComplete (outcome : EraseOutcome) : Formed.Statement (.eraseComplete outcome) :=
  formed_of_event rfl

theorem Formed.scanComplete (wear : List WornUnit) (eraseFailures : List (Fin 16)) : Formed.Statement (.scanComplete wear eraseFailures) :=
  formed_of_event rfl

theorem Formed.pollAnswer (line : LineId) (answer : LineAnswer) : Formed.Statement (.pollAnswer line answer) :=
  formed_of_event rfl

theorem Formed.fetchAnswer (line : LineId) (answer : LineAnswer) : Formed.Statement (.fetchAnswer line answer) :=
  formed_of_event rfl

theorem Formed.orderAcknowledged (line : LineId) (answer : LineAnswer) : Formed.Statement (.orderAcknowledged line answer) :=
  formed_of_event rfl

theorem Formed.exchangeFailure (line : LineId) (answer : LineAnswer) : Formed.Statement (.exchangeFailure line answer) :=
  formed_of_event rfl

theorem Formed.bitError (line : LineId) : Formed.Statement (.bitError line) :=
  formed_of_event rfl

theorem Formed.resyncGapEnd (line : LineId) : Formed.Statement (.resyncGapEnd line) :=
  formed_of_event rfl

theorem Formed.lineFault (line : LineId) (cause : FaultCause) : Formed.Statement (.lineFault line cause) :=
  formed_of_event rfl

theorem Formed.wakeDelimiterEnd (line : LineId) : Formed.Statement (.wakeDelimiterEnd line) :=
  formed_of_event rfl

theorem Formed.wakeRequest (line : LineId) (lowMicros : Nat) : Formed.Statement (.wakeRequest line lowMicros) :=
  formed_of_event rfl

theorem Formed.lineRetryEnd (line : LineId) (result : RetryResult) : Formed.Statement (.lineRetryEnd line result) :=
  formed_of_event rfl

theorem Formed.assignAnswer (line : LineId) (answer : LineAnswer) : Formed.Statement (.assignAnswer line answer) :=
  formed_of_event rfl

theorem Formed.confirmingPoll (line : LineId) (answer : LineAnswer) : Formed.Statement (.confirmingPoll line answer) :=
  formed_of_event rfl

theorem Formed.screenPoll (line : LineId) (answer : LineAnswer) : Formed.Statement (.screenPoll line answer) :=
  formed_of_event rfl

theorem Formed.unassign (line : LineId) : Formed.Statement (.unassign line) :=
  formed_of_event rfl

theorem Formed.sleep (line : LineId) : Formed.Statement (.sleep line) :=
  formed_of_event rfl

theorem Formed.hostByteReceived (byte : Byte) (stopBit : Bool) : Formed.Statement (.hostByteReceived byte stopBit) :=
  formed_of_event rfl

theorem Formed.lineGoesHigh (line : LineId) : Formed.Statement (.lineGoesHigh line) :=
  formed_of_event rfl

theorem Formed.powerLoss (unitsDone : Nat) (torn : Bool) : Formed.Statement (.powerLoss unitsDone torn) :=
  formed_of_event rfl

end Sys2Proof.Laws
end

