-- ==== Sys2Proof/Laws/Sequencer.lean ====
section
/-! SUPPORT. What a change of the floor, with all that it hands on, leaves of the meeting sequencer: everything, the
roster included. A spoken total and a binding are no part of these steps. -/

namespace Sys2Proof.Machine

/-! ## Writes -/

section writes
variable (s : State)

theorem seq_setFloor (f : Floor) : (s.setFloor f).seq = s.seq := rfl
theorem seq_setLog (l : SpeechLog) : (s.setLog l).seq = s.seq := rfl
theorem seq_setSeats (v : Vector SeatRec 64) : (s.setSeats v).seq = s.seq := rfl
theorem seq_setScreens (v : Vector ScreenRec 4) : (s.setScreens v).seq = s.seq := rfl
theorem seq_modSeat (i : SeatId) (f : SeatRec → SeatRec) : (s.modSeat i f).seq = s.seq := rfl
theorem seq_modScreen (j : ScreenId) (f : ScreenRec → ScreenRec) :
    (s.modScreen j f).seq = s.seq := rfl
@[simp] theorem seq_modMarks (f : NoticeMarks → NoticeMarks) : (s.modMarks f).seq = s.seq := rfl
@[simp] theorem seq_markFloor : (markFloor s).seq = s.seq := rfl
@[simp] theorem seq_markMeeting : (markMeeting s).seq = s.seq := rfl
@[simp] theorem seq_markLog : (markLog s).seq = s.seq := rfl
@[simp] theorem seq_markStore : (markStore s).seq = s.seq := rfl
@[simp] theorem seq_markSeat (u : Station) : (markSeat u s).seq = s.seq := rfl
@[simp] theorem seq_markSpeech (i : SeatId) : (markSpeech i s).seq = s.seq := rfl
@[simp] theorem seq_setSpeakers (l : List SpeakerEntry) : (setSpeakers l s).seq = s.seq := rfl
@[simp] theorem seq_setRequests (l : List RequestEntry) : (setRequests l s).seq = s.seq := rfl
@[simp] theorem seq_modSpeaker (i : SeatId) (f : SpeakerEntry → SpeakerEntry) :
    (modSpeaker i f s).seq = s.seq := rfl
@[simp] theorem seq_refuse (i : SeatId) (c : RefusalCode) : (refuse i c s).seq = s.seq := rfl
@[simp] theorem seq_clearRefusal (i : SeatId) : (clearRefusal i s).seq = s.seq := rfl
@[simp] theorem seq_clearAllRefusals : (clearAllRefusals s).seq = s.seq := rfl
@[simp] theorem seq_logSpeech (a : Option Nat) (e : SpeakerEntry) (r : CloseReason) :
    (logSpeech a e r s).seq = s.seq := rfl
@[simp] theorem seq_noteClose (i : SeatId) (r : CloseReason) : (noteClose i r s).seq = s.seq := rfl
@[simp] theorem seq_unmuteAll : (unmuteAll s).seq = s.seq := rfl
@[simp] theorem seq_modCard (i : SeatId) (f : CardPart → CardPart) : (modCard i f s).seq = s.seq := rfl
@[simp] theorem seq_setFetchMark (i : SeatId) (b : Bool) : (setFetchMark i b s).seq = s.seq := rfl

end writes

/-- Reading the sequencer goes into a choice. -/
@[simp] theorem seq_ite (c : Prop) [Decidable c] (s t : State) :
    (if c then s else t).seq = if c then s.seq else t.seq := apply_ite _ _ _ _

/-- A fold of steps that keep the sequencer keeps it. -/
theorem seq_foldl {α : Type} (f : State → α → State) (h : ∀ s a, (f s a).seq = s.seq) (l : List α)
    (s : State) : (l.foldl f s).seq = s.seq := by
  induction l generalizing s with
  | nil => rfl
  | cons a l ih => rw [List.foldl_cons, ih, h]

/-! ## The shared steps of the floor -/

@[simp] theorem seq_dropHolder (i : SeatId) (s : State) : (dropHolder i s).seq = s.seq := by
  unfold dropHolder; dsimp only; split
  · split <;> simp
  · rfl

@[simp] theorem seq_openSeat (i : SeatId) (s : State) : (openSeat i s).seq = s.seq := by
  unfold openSeat; dsimp only; split <;> simp

@[simp] theorem seq_closeSeatAs (w : SeatId → Option Nat) (r : CloseReason) (i : SeatId) (s : State) :
    (closeSeatAs w r i s).seq = s.seq := by
  unfold closeSeatAs; split <;> simp

@[simp] theorem seq_closeSeat (r : CloseReason) (i : SeatId) (s : State) :
    (closeSeat r i s).seq = s.seq := seq_closeSeatAs _ r i s

@[simp] theorem seq_queueSeat (i : SeatId) (s : State) : (queueSeat i s).seq = s.seq := by
  unfold queueSeat; split <;> simp

@[simp] theorem seq_withdrawSeat (i : SeatId) (s : State) : (withdrawSeat i s).seq = s.seq := by
  unfold withdrawSeat; split <;> simp

@[simp] theorem seq_closeOldest (r : CloseReason) (s : State) : (closeOldest r s).seq = s.seq := by
  unfold closeOldest; split <;> simp

theorem seq_grantHeadLoop (fuel : Nat) (r : Option CloseReason) (s : State) :
    (grantHeadLoop fuel r s).2.seq = s.seq := by
  induction fuel generalizing s with
  | zero => rfl
  | succ n ih =>
    unfold grantHeadLoop
    split
    · rfl
    · split
      · rw [ih]; simp
      · split
        · simp
        · split
          · split <;> simp
          · rfl

@[simp] theorem seq_grantHead (r : Option CloseReason) (s : State) : (grantHead r s).2.seq = s.seq :=
  seq_grantHeadLoop _ _ _

@[simp] theorem seq_advance (s : State) : (advance s).seq = s.seq := by
  unfold advance; split <;> split <;> simp

@[simp] theorem seq_closeAdvanceAs (w : SeatId → Option Nat) (r : CloseReason) (i : SeatId) (s : State) :
    (closeAdvanceAs w r i s).seq = s.seq := by
  unfold closeAdvanceAs; dsimp only; split
  · rfl
  · split <;> simp

@[simp] theorem seq_closeAdvance (r : CloseReason) (i : SeatId) (s : State) :
    (closeAdvance r i s).seq = s.seq := seq_closeAdvanceAs _ r i s

@[simp] theorem seq_closeAll (r : CloseReason) (l : List SeatId) (s : State) :
    (closeAll r l s).seq = s.seq := seq_foldl _ (by simp) _ _

@[simp] theorem seq_emptyRequests (s : State) : (emptyRequests s).seq = s.seq :=
  seq_foldl _ (by simp) _ _

@[simp] theorem seq_openFloor (p : Policy) (s : State) : (openFloor p s).seq = s.seq := by
  simp [openFloor]

@[simp] theorem seq_closeFloor (s : State) : (closeFloor s).seq = s.seq := by simp [closeFloor]

/-! ## Keys -/

@[simp] theorem seq_micOpenMode (i : SeatId) (s : State) : (micOpenMode i s).seq = s.seq := by
  unfold micOpenMode; dsimp only; split
  · simp
  · split
    · simp
    · split
      · simp
      · split <;> simp
      · split <;> simp

@[simp] theorem seq_micRequestMode (i : SeatId) (s : State) : (micRequestMode i s).seq = s.seq := by
  unfold micRequestMode; split <;> simp

@[simp] theorem seq_micPress (i : SeatId) (s : State) : (micPress i s).seq = s.seq := by
  unfold micPress; dsimp only; split
  · rfl
  · split
    · split <;> simp
    · split
      · simp
      · split <;> simp

@[simp] theorem seq_nextPress (i : SeatId) (s : State) : (nextPress i s).seq = s.seq := by
  unfold nextPress; dsimp only; split
  · rfl
  · split
    · simp
    · have h := seq_grantHead (if (clearRefusal i s).floor.policy.fullAction = .replaceOldest
        then some CloseReason.chair else none) (clearRefusal i s)
      split <;> rename_i heq <;> rw [heq] at h <;> simpa using h

@[simp] theorem seq_applyPriority (s : State) : (applyPriority s).seq = s.seq := by
  unfold applyPriority; dsimp only; split <;> simp

@[simp] theorem seq_priorityHeld (i : SeatId) (s : State) : (priorityHeld i s).seq = s.seq := by
  unfold priorityHeld; dsimp only; split
  · rfl
  · split
    · simp
    · split
      · simp
      · split
        · simp
        · rw [seq_applyPriority, seq_ite, seq_openSeat]; simp

@[simp] theorem seq_priorityReleased (i : SeatId) (s : State) : (priorityReleased i s).seq = s.seq := by
  unfold priorityReleased; split <;> simp

/-! ## The speech timer -/

@[simp] theorem seq_setTiming (i : SeatId) (w o : Bool) (s : State) : (setTiming i w o s).seq = s.seq := by
  unfold setTiming; split
  · rfl
  · split <;> simp

@[simp] theorem seq_warningCheck (i : SeatId) (s : State) : (warningCheck i s).seq = s.seq := by
  unfold warningCheck; split
  · rfl
  · split <;> simp

@[simp] theorem seq_limitCheckAs (w : SeatId → Option Nat) (i : SeatId) (s : State) :
    (limitCheckAs w i s).seq = s.seq := by
  unfold limitCheckAs; split
  · rfl
  · split
    · split <;> simp
    · rfl

@[simp] theorem seq_limitCheck (i : SeatId) (s : State) : (limitCheck i s).seq = s.seq :=
  seq_limitCheckAs _ i s

@[simp] theorem seq_allowanceCheckAs (w : SeatId → Option Nat) (i : SeatId) (s : State) :
    (allowanceCheckAs w i s).seq = s.seq := by
  unfold allowanceCheckAs; split
  · rfl
  · split <;> simp

@[simp] theorem seq_allowanceCheck (i : SeatId) (s : State) : (allowanceCheck i s).seq = s.seq :=
  seq_allowanceCheckAs _ i s

@[simp] theorem seq_barCheckAs (w : SeatId → Option Nat) (i : SeatId) (s : State) :
    (barCheckAs w i s).seq = s.seq := by
  unfold barCheckAs; split
  · simp
  · split <;> simp

@[simp] theorem seq_barCheck (i : SeatId) (s : State) : (barCheck i s).seq = s.seq :=
  seq_barCheckAs _ i s

@[simp] theorem seq_timingCheckAs (w : SeatId → Option Nat) (i : SeatId) (s : State) :
    (timingCheckAs w i s).seq = s.seq := by
  simp [timingCheckAs]

@[simp] theorem seq_timingCheck (i : SeatId) (s : State) : (timingCheck i s).seq = s.seq :=
  seq_timingCheckAs _ i s

@[simp] theorem seq_policyCheck (s : State) (e : SpeakerEntry) : (policyCheck s e).seq = s.seq := by
  unfold policyCheck; dsimp only; split
  · rfl
  · split
    · rfl
    · split
      · simp
      · split
        · simp
        · split
          · split <;> simp
          · simp

@[simp] theorem seq_policyChecks (s : State) : (policyChecks s).seq = s.seq := by
  unfold policyChecks
  exact (seq_foldl _ (by simp) _ _).trans (seq_foldl _ (by simp) _ _)

/-! ## SET_FLOOR -/

@[simp] theorem seq_closeExcess (s : State) : (closeExcess s).seq = s.seq := by simp [closeExcess]

@[simp] theorem seq_drainRequests (fuel : Nat) (s : State) : (drainRequests fuel s).seq = s.seq := by
  induction fuel generalizing s with
  | zero => rfl
  | succ n ih =>
    unfold drainRequests
    have h := seq_grantHead none s
    split
    · rename_i heq; rw [heq] at h; rw [ih]; exact h
    · rename_i heq; rw [heq] at h; exact h

@[simp] theorem seq_adoptPolicy (p : Policy) (s : State) : (adoptPolicy p s).seq = s.seq := by
  unfold adoptPolicy; dsimp only
  split <;> split <;> simp

/-! ## Role changes -/

@[simp] theorem seq_becomeChair (w : SeatId → Option Nat) (i : SeatId) (s : State) :
    (becomeChair w i s).seq = s.seq := by
  unfold becomeChair; split <;> simp

@[simp] theorem seq_ceaseChair (w : SeatId → Option Nat) (i : SeatId) (s : State) :
    (ceaseChair w i s).seq = s.seq := by
  unfold ceaseChair; dsimp only; split <;> simp

@[simp] theorem seq_requestRolePass (c : SeatId → Bool) (s : State) (r : RequestEntry) :
    (requestRolePass c s r).seq = s.seq := by
  unfold requestRolePass; dsimp only; split
  · split
    · simp
    · split <;> simp
  · rfl

@[simp] theorem seq_speakerRolePass (w : SeatId → Option Nat) (c : SeatId → Bool) (s : State) (e : SpeakerEntry) :
    (speakerRolePass w c s e).seq = s.seq := by
  unfold speakerRolePass; dsimp only; split
  · rfl
  · split
    · rfl
    · split
      · simp
      · simp

@[simp] theorem seq_roleConsequences (s t : State) : (roleConsequences s t).seq = t.seq := by
  unfold roleConsequences; dsimp only; split
  · rfl
  · exact ((seq_foldl _ (by simp) _ _).trans (seq_foldl _ (by simp) _ _)).trans (seq_foldl _ (by simp) _ _)

/-! ## What a change hands on -/

@[simp] theorem seq_recompute (s : State) : (recompute s).seq = s.seq := by
  unfold recompute; exact seq_setSeats _ _

@[simp] theorem seq_markSeatNotices (s t : State) : (markSeatNotices s t).seq = t.seq := by
  unfold markSeatNotices
  refine (seq_foldl _ (fun s j => ?_) _ _).trans (seq_foldl _ (fun s i => ?_) _ _)
  · split <;> simp
  · split <;> simp

@[simp] theorem seq_markDisplays (s t : State) : (markDisplays s t).seq = t.seq := by
  unfold markDisplays; exact (seq_setScreens _ _).trans (seq_setSeats _ _)

@[simp] theorem seq_finishChange (b : Bool) (s t : State) : (finishChange b s t).seq = t.seq := by
  simp [finishChange]

/-- A change leaves the sequencer as its own step does. -/
@[simp] theorem seq_change (f : State → State) (s : State) : (change f s).seq = (f s).seq := by simp [change]

/-- A change that calls for a recompute leaves the sequencer as its own step does. -/
@[simp] theorem seq_changeLevels (f : State → State) (s : State) : (changeLevels f s).seq = (f s).seq := by
  simp [changeLevels]

end Sys2Proof.Machine
end

