-- ==== Sys2Proof/Tests/Slice0.lean ====
section
/-! SUPPORT. The smoke tests of well-formedness, small tests of the commands on small states, and for each statement
with hypotheses a state that meets them. -/

namespace Sys2Proof.Tests

open Sys2Proof.Machine

set_option Elab.async false

/-! ## Helpers -/

/-- The state after a command. -/
def after (c : Instr) (s : State) : State :=
  match exec c s with
  | .next t => t
  | _ => s

/-- The result byte of the frame on the host line. -/
def result (c : Instr) (s : State) : Option Byte :=
  (after c s).link.onLine.bind fun f => f.frame.payload.head?

/-- The kind byte of the frame on the host line. -/
def kindSent (c : Instr) (s : State) : Option Byte := (after c s).link.onLine.map fun f => f.frame.kind

/-- A part whose scan has found every sector erased. -/
def ready : State :=
  { State.reset with store := { State.reset.store with engine := .idle, table := List.replicate 16 ⟨.erased, 0⟩ } }

/-- The same part in RUN. -/
def running : State := { ready with link := { ready.link with run := true } }

/-- A seat taken into service. -/
def seated (i : SeatId) (k : UnitKind) (s : State) : State :=
  s.modSeat i fun r => { r with
    kind := some k, presence := .present, frozen := false, heldMic := some 3, heldNext := some 0, heldCard := some 0
    defaultRole := if k = .chair then 1 else 0 }

/-- An ordinary speech 40 seconds old at a seat. -/
def speech (i : SeatId) : SpeakerEntry := ⟨i, 0, 0, 40, false, false, false, false, false⟩

/-- The speech of a chair-class seat. -/
def chairSpeech (i : SeatId) : SpeakerEntry := ⟨i, 1, 0, 7, false, false, true, false, false⟩

/-- An open room: A01 speaks, A02 is the chair and speaks, A03 waits, and A04 is idle. -/
def room : State :=
  let s := seated 0 .delegate (seated 1 .chair (seated 2 .delegate (seated 3 .delegate running)))
  { s with
    floor := { Floor.initial with
      isOpen := true, speakers := [speech 0, chairSpeech 1], requests := [⟨2, 1, 0⟩], arrivalCounter := 1
      speechCount := 2 }
    lineA := { Line.initial with state := .running, seatsFound := 4, idle := 3, consecutive := 2 } }

/-- The room with another policy in force. -/
def roomUnder (p : Policy) : State := { room with floor := { room.floor with policy := p } }

/-- The room while a reply is on the host line. -/
def sending (s : State) : State :=
  { s with link := { s.link with onLine := some ⟨.reply, ⟨0xCC, 9, [0]⟩⟩, outstanding := 1 } }

/-- A state with an activity on line A. -/
def doing (a : Activity) (s : State) : State := { s with lineA := { s.lineA with activity := a } }

/-- Line A in a state. -/
def lineIs (l : LineState) (s : State) : State := { s with lineA := { s.lineA with state := l } }

/-- An answer whose characters come one after another, 11 bit times each. -/
def answer (l : List Byte) : LineAnswer :=
  ⟨some 4, l.zipIdx.map fun p => ⟨p.1, false, false, 15 + 11 * p.2⟩⟩

/-- No answer. -/
def silence : LineAnswer := ⟨none, []⟩

/-- The bytes of a one-attendee-free booking of five minutes from minute 1000. -/
def five : BookingData := ⟨1000, 1005, [0x42], [], Policy.walkIn, []⟩

/-- The index entry of that booking as number 7, its record at unit 1 of sector 0. -/
def entry7 (b : BookingState) : IndexEntry := ⟨7, 1, 1000, 1005, [0x42], 0, b, ⟨0, 1⟩, 0, none⟩

/-- The record itself. -/
def record7 : MediumRecord := ⟨1, 7, 1, 0, false, true, .booking five, List.replicate 8 .clean⟩

/-- A part at minute 999 whose store and index hold that booking. -/
def booked (b : BookingState) : State :=
  { running with
    clock := some 59940
    seq := { Sequencer.initial with index := [entry7 b], lastAssigned := 7, resumeMark := false }
    store := { running.store with
      table := ⟨.opened, 1⟩ :: List.replicate 15 ⟨.erased, 0⟩, nextFree := 9, nextWrite := 1
      medium := (Vector.replicate 16 SectorMedium.blank).set 0 ⟨.valid 1 false, [record7]⟩ } }

/-- That booking current, in a phase. -/
def meeting (b : BookingState) (p : Phase) : State :=
  { booked b with seq := { (booked b).seq with current := some ⟨7, p, false, false, Policy.walkIn⟩ } }

/-! ## Well-formedness -/

theorem test_wf_payload : (Instr.ping 0 (List.replicate 1537 0)).wellFormed = false := by decide +kernel
theorem test_wf_unknownKind : (Instr.unknownKind 0x4C 0 []).wellFormed = false := by decide
theorem test_wf_frame : (Instr.completeFrame [2, 0, 1, 1, 0]).wellFormed = false := by decide
theorem test_wf_secondLength : (Instr.rejectBadLength 5).wellFormed = false := by decide
theorem test_wf_wear : (Instr.storeReadComplete [⟨0, 256, true⟩]).wellFormed = false := by decide
theorem test_wf_failures : (Instr.scanComplete [] [3, 3]).wellFormed = false := by decide
theorem test_wf_answer_began : (Instr.pollAnswer .a ⟨none, [⟨1, false, false, 15⟩]⟩).wellFormed = false := by decide
theorem test_wf_answer_rises :
    (Instr.pollAnswer .a ⟨some 4, [⟨1, false, false, 15⟩, ⟨1, false, false, 15⟩]⟩).wellFormed = false := by decide
theorem test_wf_retry : (Instr.lineRetryEnd .a (.probed ⟨none, [⟨1, false, false, 15⟩]⟩)).wellFormed = false := by
  decide
theorem test_wf_unitsDone : (Instr.powerLoss 81 false).wellFormed = false := by decide
theorem test_wf_accepts : (Instr.completeFrame [2, 0, 0x4C, 1, 0, 0]).wellFormed = true := by decide

/-! ## The checks of the spec's own examples -/

/-- R201: the CRC of the bytes 0x31 to 0x39. -/
theorem test_crc : crc [0x31, 0x32, 0x33, 0x34, 0x35, 0x36, 0x37, 0x38, 0x39] = 0x29B1 := by decide +kernel

/-- R158: the check byte of its example. -/
theorem test_lineCheck : lineCheck [0x45, 0x03, 0x02, 0x10, 0x20] = 0x85 := by decide

/-! ## Power, resets and the host line -/

theorem test_powerOn : (after (.powerOn true false) { running with powered := false }).rate = 115200
    ∧ (after (.powerOn true false) { running with powered := false }).link.run = false := by decide +kernel
theorem test_powerLoss : (after (.powerLoss 0 false) running).powered = false
    ∧ (after (.powerLoss 0 false) running).store.medium = running.store.medium := by decide +kernel
/-- R199, R216: a PING frame without a payload, its check computed by hand from R201's polynomial. -/
theorem test_completeFrame :
    kindSent (.completeFrame ((frameBytes ⟨0x4C, 5, []⟩).drop 1)) ready = some 0xCC := by decide +kernel
theorem test_completeFrame_badCheck :
    kindSent (.completeFrame [2, 0, 0x4C, 5, 0, 0]) ready = some 0x7F
    ∧ result (.completeFrame [2, 0, 0x4C, 5, 0, 0]) ready = some 2 := by decide +kernel
theorem test_rejectTruncated :
    result .rejectTruncated { ready with link := { ready.link with receiver := .receiving [2] } } = some 0 := by
  decide +kernel
theorem test_rejectBadLength :
    result (.rejectBadLength 6) { ready with link := { ready.link with receiver := .receiving [3] } } = some 1 := by
  decide +kernel
theorem test_hostByte_hunts : (after (.hostByteReceived 0x5A true) ready).link.receiver = .hunting
    ∧ (after (.hostByteReceived 0xA5 false) ready).link.receiver = .receiving [] := by decide +kernel
theorem test_frameSent : (after .frameSent (sending ready)).link.outstanding = 0
    ∧ (after .frameSent (sending ready)).link.onLine = none := by decide +kernel
theorem test_restart_keeps_clock :
    (after .frameSent (after (.restart 1 []) { running with clock := some 77 })).clock = some 77
    ∧ (after .frameSent (after (.restart 1 []) { running with clock := some 77 })).link.run = false := by
  decide +kernel
theorem test_restartReset_unasked : (after .restartReset running).link.run = true := by decide +kernel
theorem test_unknownKind : kindSent (.unknownKind 0x7E 1 []) ready = some 0xFF
    ∧ result (.unknownKind 0x7E 1 []) ready = some 2 := by decide +kernel
theorem test_ping : ((after (.ping 3 [0xAA]) ready).link.onLine.map fun f => (f.frame.tag, f.frame.payload.take 2))
    = some (3, [0, 0xAA]) := by decide +kernel
theorem test_identify :
    ((after (.identify 3 []) ready).link.onLine.map fun f => (f.frame.payload.drop 1).take 7)
    = some [6, 0x54, 0x43, 0x4D, 0x2D, 0x36, 0x34] := by decide +kernel
theorem test_setNotices : (after (.setNotices 1 [0, 1, 0, 1, 0, 1, 0]) ready).link.enables
    = ⟨false, true, false, true, false, true, false⟩ := by decide +kernel
theorem test_start : (after (.start 1 []) ready).lineA.state = .waking
    ∧ (after (.start 1 []) ready).link.startTag = some 1 := by decide +kernel
theorem test_start_in_run : result (.start 1 []) running = some 5 := by decide +kernel

/-! ## Floor, log and levels -/

theorem test_grant_opens : ((after (.grant 1 [3]) room).floor.speakers.map (·.seat)) = [0, 1, 3] := by decide +kernel
theorem test_grant_absent : result (.grant 1 [40]) room = some 8 := by decide +kernel
/-- In mode OPEN the place freed goes to the head of the requests (R13). -/
theorem test_close_advances : ((after (.close 1 [0]) room).floor.speakers.map (·.seat)) = [1, 2]
    ∧ (after (.close 1 [0]) room).log.records.map (·.reason) = [.host] := by decide +kernel
theorem test_close_notFound : result (.close 1 [2]) room = some 12 := by decide +kernel
theorem test_withdraw : (after (.withdraw 1 [2]) room).floor.requests = [] := by decide +kernel
theorem test_clearFloor : (after (.clearFloor 1 []) room).floor.speakers = [chairSpeech 1]
    ∧ (after (.clearFloor 1 []) room).floor.requests = [] := by decide +kernel
theorem test_setFloor_clamps :
    (after (.setFloor 1 (putPolicy { Policy.walkIn with smax := 9, speechLimit := 29 })) room).floor.policy
    = { Policy.walkIn with smax := 6, speechLimit := 30 } := by decide +kernel
theorem test_floorStatus_closed : result (.floorStatus 1 []) ready = some 5 := by decide +kernel
theorem test_floorStatus_open : result (.floorStatus 1 []) room = some 0 := by decide +kernel
theorem test_readLog_drains : (after (.readLog 1 [8]) (after (.close 1 [1]) room)).log = ⟨[], 0⟩ := by decide +kernel
theorem test_setLevels : (after (.setLevels 1 [49, 1, 20, 10, 5, 1]) room).masters = ⟨48, true, 20, 10, 5, 2⟩ := by
  decide +kernel
/-- R57 to R60: A01 is live, so its loudspeaker is muted; A05 is 3 away from the nearest live seat, A02. -/
theorem test_setTrim_targets : ((after (.setTrim 1 [0, 4, 0]) room).seat 0).targetMic = .gain 34
    ∧ ((after (.setTrim 1 [0, 4, 0]) room).seat 0).targetSpeaker = .mute
    ∧ ((after (.setTrim 1 [3, 0, 0xFE]) room).seat 3).targetSpeaker = .code 38 := by decide +kernel
theorem test_setTrim_clamps : ((after (.setTrim 1 [9, 0x80, 0x7F]) ready).seat 9).micTrim = -24
    ∧ ((after (.setTrim 1 [9, 0x80, 0x7F]) ready).seat 9).speakerTrim = 12 := by decide +kernel
theorem test_getLevels_badSeat : result (.getLevels 1 [64]) room = some 4 := by decide +kernel

/-! ## Roles -/

theorem test_setRole_inRun : result (.setRole 1 ([2, 1, 0x58] ++ List.replicate 11 0 ++ [9, 1, 1, 0, 3])) running
    = some 5 := by decide +kernel
theorem test_setRole : (after (.setRole 1 ([2, 1, 0x58] ++ List.replicate 11 0 ++ [9, 1, 1, 0, 3])) ready).roles.defs[2]
    = ⟨[0x58], 3, true, true, false, 3⟩ := by decide +kernel
theorem test_getRole : result (.getRole 1 [8]) ready = some 4 := by decide +kernel
theorem test_setSeatRole : (after (.setSeatRole 1 [5, 3]) ready).effRole 5 = ⟨3, false⟩ := by decide +kernel
theorem test_setFilter_locked : result (.setFilter 1 ([2] ++ List.replicate 16 0 ++ [0xFF, 1]))
    (after .frameSent (after (.enableFilter 1 [2]) ready)) = some 0xD := by decide +kernel
theorem test_filters_lowest : (after (.enableFilter 1 [2]) ready).cardRole [1, 2, 3, 4] = 0
    ∧ (after (.disableFilter 1 [2]) ready).cardRole [1, 2, 3, 4] = 2 := by decide +kernel
theorem test_getFilter : result (.getFilter 1 [16]) ready = some 4 := by decide +kernel

/-! ## Clock, bookings and meetings -/

theorem test_setRoom : (after (.setRoom 1 [31, 10, 5, 0, 2]) ready).seq.room = ⟨30, 10, 5, 1, 2⟩ := by decide +kernel
theorem test_setTime : (after (.setTime 1 [0x3D, 0, 0, 0]) ready).now = some 1 := by decide +kernel
theorem test_getTime : ((after (.getTime 1 []) ready).link.onLine.map fun f => f.frame.payload) = some [0, 0] := by
  decide +kernel
theorem test_list : result (.listBookings 1 [0, 0, 0, 0, 17]) (booked .pending) = some 1 := by decide +kernel
theorem test_openNow : (after (.openNow 1 []) (meeting .lobby .lobby)).floor.isOpen = true := by decide +kernel
theorem test_openNow_noLobby : result (.openNow 1 []) ready = some 5 := by decide +kernel
theorem test_book : (after (.book 1 (putBooking five)) { ready with clock := some 59940 }).store.active.map (·.place)
    = some ⟨0, 1⟩ := by decide +kernel
theorem test_book_conflict : result (.book 1 (putBooking five)) (booked .pending) = some 0xA := by decide +kernel
theorem test_walkIn_noTime : result (.walkIn 1 [30, 0]) ready = some 0xB := by decide +kernel
theorem test_walkIn : ((after (.walkIn 1 [30, 0]) { ready with clock := some 600 }).seq.change.map fun c =>
    (c.data.startMin, c.data.endMin)) = some (10, 40) := by decide +kernel
theorem test_amend : ((after (.amend 1 (put2 7 ++ putBooking five)) (booked .pending)).store.active.map fun p =>
    (p.job.version, p.place)) = some (2, ⟨0, 9⟩) := by decide +kernel
theorem test_cancel : ((after (.cancel 1 [7, 0]) (booked .pending)).store.active.map fun p => p.job.body)
    = some (.state .cancelled) := by decide +kernel
theorem test_extend : (after (.extend 1 [10]) (meeting .inSession .inSession)).store.reads = [.extend 7] := by
  decide +kernel
theorem test_endNow : (after (.endNow 1 []) (meeting .inSession .inSession)).seq.index.map (·.state) = [.done] := by
  decide +kernel
theorem test_getBooking : (after (.getBooking 1 [7, 0]) (booked .pending)).store.reads = [.getBooking 7 1] := by
  decide +kernel

/-! ## The store -/

theorem test_storeStatus_clears :
    (after (.storeStatus 1 [1]) { ready with store := { ready.store with corrected := 5 } }).store.corrected = 0 := by
  decide +kernel
theorem test_storeClear :
    (after (.storeClear 1 []) { ready with store := { ready.store with latch := true } }).store.latch = false := by
  decide +kernel
theorem test_compact : result (.compact 1 []) ready = some 0xC := by decide +kernel
/-- The header of the sector opened for it ends first (R121). -/
theorem test_programComplete :
    let s := after (.storeProgramComplete []) (after (.book 1 (putBooking five)) { ready with clock := some 59940 })
    (s.sector 0).state = .opened ∧ s.seq.index = []
    ∧ ((after (.storeProgramComplete []) s).seq.index.map fun e => (e.number, e.version, e.state))
      = [(1, 1, .pending)] := by decide +kernel
theorem test_readComplete :
    result (.storeReadComplete []) (after (.getBooking 1 [7, 0]) (booked .pending)) = some 0 := by decide +kernel
theorem test_rosterLoad : (after (.rosterLoadComplete []) { meeting .pending .loading with
    clock := some 60000
    store := { (booked .pending).store with reads := [.roster 7] } }).floor.isOpen = true := by decide +kernel
theorem test_eraseComplete : (after (.eraseComplete .erased) { ready with store := { ready.store with
    engine := .erasing, pass := some ⟨4, 0, 255, none⟩
    table := (List.replicate 16 ⟨.erased, 0⟩).set 4 ⟨.full, 2⟩ } }).sector 4 = ⟨.erased, 0⟩ := by decide +kernel
theorem test_scanComplete : (after (.scanComplete [] []) State.reset).store.engine = .idle := by decide +kernel

/-! ## Time -/

theorem test_second : ((after .secondEvent room).floor.speakers.map (·.elapsed)) = [41, 8] := by decide +kernel
theorem test_second_clock : (after .secondEvent { ready with clock := some 4294967295 }).clock = some 4294967295 := by
  decide +kernel
theorem test_warning : ((after (.speechWarning 0) (roomUnder { Policy.walkIn with speechLimit := 60 })).floor.speakers.map
    (·.warned)) = [true, false] := by decide +kernel
theorem test_limit : ((after (.speechLimit 0) (roomUnder { Policy.walkIn with speechLimit := 40, atLimit := .close
  })).floor.speakers.map (·.seat)) = [1, 2] := by decide +kernel
theorem test_allowance : (after (.allowanceReached 0) room).floor = room.floor := by decide +kernel
theorem test_minute : (after .minuteEvent { room with clock := some 120, lineA := { room.lineA with minuteLast := some 1 }
  }).lineA.idle = 4 := by decide +kernel
theorem test_lineSleep : (after (.lineSleep .a) { room with lineA := { room.lineA with idle := 15 } }).lineA.activity
    = .exchange .sleep := by decide +kernel

/-! ## The seat lines -/

/-- The MIC count goes from 3 to 0: one press, which closes A01 in mode OPEN with own close (R19, R182). -/
theorem test_pollAnswer : ((after (.pollAnswer .a (answer (pollReply 1 0 0 1 0)))
    (doing (.exchange (.poll 1 false)) room)).floor.speakers.map (·.seat)) = [1, 2] := by decide +kernel
/-- 0x81, 4 and the identity add to 0x8F, whose inversion is 0x70 (R158, R159). -/
theorem test_fetchAnswer : ((after (.fetchAnswer .a (answer [4, 1, 2, 3, 4, 0x70]))
    (doing (.exchange (.fetch 0)) (room.modSeat 0 fun r => { r with card := ⟨.reading, none, none, none, false⟩ }))).seat
      0).card = ⟨.held, some [1, 2, 3, 4], some 2, none, false⟩ := by decide +kernel
/-- A CONFIRM to address 1: 0x41, 0x01 and 0x00 add to 0x42, whose inversion is 0xBD (R158, R188, R223). -/
theorem test_order : ((after (.orderAcknowledged .a (answer [0xBD]))
    (doing (.exchange (.order (.seat 0) .confirm .whole))
      (room.modSeat 0 fun r => { r with confirmOutstanding := true }))).seat 0).confirmOutstanding = false := by
  decide +kernel
theorem test_failure : ((after (.exchangeFailure .a silence) (doing (.exchange (.poll 1 false)) room)).seat 0).presence
    = .silent := by decide +kernel
theorem test_failure_lost : ((after (.exchangeFailure .a silence) (doing (.exchange (.poll 1 false))
    (room.modSeat 0 fun r => { r with presence := .silent, missCount := 2 }))).speaking 0) = false := by decide +kernel
theorem test_bitError : (after (.bitError .a) (doing (.exchange (.poll 1 false)) room)).lineA.consecutive = 3 := by
  decide +kernel
theorem test_gapEnd : (after (.resyncGapEnd .a) (doing (.gap (.assign 3)) (lineIs .enumerating room))).lineA.activity
    = .exchange (.assign 3) := by decide +kernel
theorem test_lineFault : (after (.lineFault .a .shorted) (doing (.exchange (.poll 1 false)) room)).lineA.cause
    = some .shorted := by decide +kernel
theorem test_lineHigh : (after (.lineGoesHigh .a) (doing (.exchange (.poll 1 false)) room)).lineA.begun = true := by
  decide +kernel
theorem test_wakeRequest : (after (.wakeRequest .a 150) (lineIs .asleep room)).lineA.state = .waking
    ∧ (after (.wakeRequest .a 5001) (lineIs .asleep room)).lineA.state = .asleep := by decide +kernel
theorem test_delimiter : (after (.wakeDelimiterEnd .a) (doing .wake (lineIs .waking room))).lineA.state = .running := by
  decide +kernel
theorem test_sleep : (after (.sleep .a) { room with lineA := { room.lineA with
    activity := .exchange .sleep, sleepDue := true } }).lineA.state = .asleep := by decide +kernel
theorem test_retry : (after (.lineRetryEnd .a .heldLow) (doing .retry (lineIs .fault room))).lineA.cause
    = some .shorted := by decide +kernel
theorem test_unassign : (after (.unassign .a) (doing (.exchange .unassign) (lineIs .enumerating room))).lineA.activity
    = .exchange .unassign := by decide +kernel
/-- Position 3 answers as a CHAIR: 0xFF, 0x03, 0x00 and 0x02 add to 0x104, whose inversion is 0xFB (R158, R224). -/
theorem test_assign : (after (.assignAnswer .a (answer [2, 0xFB]))
    (doing (.exchange (.assign 3)) (lineIs .enumerating room))).lineA.activity = .exchange (.assign 4) := by
  decide +kernel
theorem test_confirm : (after (.confirmingPoll .a silence)
    (doing (.exchange (.confirmPoll 3)) (lineIs .enumerating room))).lineA.activity = .exchange (.assign 3) := by
  decide +kernel
theorem test_screenPoll : (after (.screenPoll .a silence)
    (doing (.exchange (.screenPoll 48)) (lineIs .enumerating room))).lineA.activity = .exchange (.screenPoll 49) := by
  decide +kernel
theorem test_screenPoll_ends : (after (.screenPoll .a silence)
    (doing (.exchange (.screenPoll 49)) (lineIs .enumerating room))).lineA.state = .running := by decide +kernel
theorem test_rescan : ((after (.rescan 1 [0]) (doing (.exchange (.poll 1 false)) room)).seat 1).presence = .lost := by
  decide +kernel
theorem test_setLines : (after (.setLines 1 ([0, 0x48, 0xE8, 1, 0, 2] ++ [1, 0x90, 0xD0, 3, 0, 16])) ready).lineA.bitRate
    = 125000 := by decide +kernel
theorem test_lineStatus : result (.lineStatus 1 [2, 0]) ready = some 4 := by decide +kernel
theorem test_getSeat : ((after (.getSeat 1 [1]) room).link.onLine.map fun f => f.frame.payload.take 4)
    = some [0, 1, 1, 1] := by decide +kernel
theorem test_setLabel : ((after (.setLabel 1 ([0, 2, 0x41, 7] ++ List.replicate 22 0)) room).seat 0).hostLabel
    = some [0x41, 0x3F] := by decide +kernel
theorem test_getDisplay : result (.getDisplay 1 [68]) room = some 4 := by decide +kernel

/-! ## States that meet the hypotheses of the statements -/

/-- The rules of the floor, each decided on a floor written out. -/
def soundChecks (f : Floor) : Bool :=
  decide (classCount true f.speakers ≤ 2 ∧ classCount false f.speakers ≤ max 1 f.policy.smax ∧ f.requests.length ≤ 24
    ∧ (f.speakers.map (·.seat) ++ f.requests.map (·.seat)).Nodup
    ∧ (f.requests.Pairwise fun x y => y.band < x.band ∨ (x.band = y.band ∧ x.arrival ≤ y.arrival))
    ∧ f.holders.Nodup ∧ (∀ i ∈ f.holders, ∃ e ∈ f.speakers, e.seat = i ∧ e.chairClass = true)
    ∧ (f.muting = true → f.holders ≠ []) ∧ (∀ e ∈ f.speakers, e.muted = (f.muting && !e.chairClass))
    ∧ (f.isOpen = false → f.speakers = [] ∧ f.requests = [] ∧ f.holders = []))

theorem sound_of_checks {f : Floor} (h : soundChecks f = true) : f.Sound := by
  obtain ⟨a, b, c, d, e, g, i, j, k, l⟩ := of_decide_eq_true h
  exact ⟨a, b, c, d, e, g, i, j, k, l⟩

/-- The room with one more request, all 24 places of the list taken. -/
def fullRequests : State := { roomUnder { Policy.walkIn with mode := .requestMode } with
  floor := { room.floor with
    policy := { Policy.walkIn with mode := .requestMode }
    requests := (List.range 24).map fun n => ⟨Fin.ofNat 64 (n + 10), 1, n⟩ } }

/-- The room with its two places for ordinary speeches taken. -/
def fullRoom (p : Policy) : State := roomUnder { p with smax := 1 }

/-- The room while the chair holds priority. -/
def held : State := { room with floor := { room.floor with
  holders := [1], muting := true, speakers := [{ speech 0 with muted := true }, chairSpeech 1] } }

/-- A part with a START in flight. -/
def starting : State := { ready with link := { ready.link with startTag := some 1 } }

theorem test_sound_room : soundChecks room.floor = true ∧ soundChecks held.floor = true
    ∧ soundChecks fullRequests.floor = true ∧ soundChecks (fullRoom Policy.walkIn).floor = true
    ∧ soundChecks Floor.initial = true := by decide +kernel

theorem test_witness_StepRunsFrontCommand :
    ({ ready with pending := [.secondEvent, .frameSent] } : State).pending = .secondEvent :: [.frameSent]
    ∧ ready.pending = [] := by decide +kernel

theorem test_witness_PowerComesAndGoes :
    let off : State := { ready with powered := false }
    let p : Programming := ⟨bookingJob 1 1 five, 0, ⟨0, 1⟩, none⟩
    off.powered = false ∧ ready.powered = true ∧ ready.store.active = none ∧ ready.store.orphan = none
    ∧ ready.store.engine ≠ .erasing
    ∧ ({ ready.store with active := some p, engine := .programming } : Store).active = some p
    ∧ ({ ready.store with pass := some ⟨4, 0, 255, none⟩, engine := .erasing } : Store).engine = .erasing := by
  decide +kernel

theorem test_witness_RestartResetsAllButClock :
    let f : OutFrame := ⟨.restartReply, ⟨0xC9, 1, [0]⟩⟩
    let s : State := { ready with link := { ready.link with awaitingReset := true, onLine := some f } }
    let u : State := { sending ready with link := { (sending ready).link with awaitingReset := true, waiting := [f] } }
    s.powered = true ∧ s.link.awaitingReset = true ∧ s.link.onLine = some f ∧ f.cls = .restartReply
    ∧ s.store.engine ≠ .erasing ∧ s.store.engine ≠ .suspended ∧ ready.Calm ∧ ready.link.awaitingReset = false
    ∧ u.Calm ∧ u.link.awaitingReset = true ∧ ∀ f ∈ u.link.onLine, f.cls ≠ .restartReply := by decide +kernel

theorem test_witness_RequestWaitsOrIsRejected :
    let f : Frame := ⟨0x4C, 1, []⟩
    let s : State := { ready with link := { ready.link with outstanding := 4 } }
    let t : State := { s with link := { s.link with queue := [f, f, f, f] } }
    requestFrame (.ping 1 []) = some f ∧ s.powered = true ∧ s.store.AtRest ∧ s.TransmitterSettled
    ∧ s.link.queue.length < 4 ∧ t.TransmitterSettled ∧ 4 ≤ t.link.queue.length := by decide +kernel

theorem test_witness_FrameCarriesRequest :
    requestFrame (.ping 1 [7]) = some ⟨0x4C, 1, [7]⟩ ∧ (Instr.ping 1 [7]).wellFormed = true ∧ ready.Ready
    ∧ ready.link.receiver = .hunting := by decide +kernel

theorem test_witness_BytesAndBadFrames :
    let got : List Byte → State := fun l => { ready with link := { ready.link with receiver := .receiving l } }
    ready.Calm ∧ ready.link.receiver = .hunting ∧ (got [3]).Calm ∧ (got [3]).link.receiver = .receiving [3]
    ∧ frameComplete ([3] ++ [0]) = false ∧ ¬ (frameLength ([3] ++ [0]) < 2 ∨ 1538 < frameLength ([3] ++ [0]))
    ∧ frameComplete [2, 0, 0x4C, 5, 0, 0] = true
    ∧ frameCheck ([2, 0, 0x4C, 5, 0, 0].take (frameLength [2, 0, 0x4C, 5, 0, 0] + 2))
        ≠ ([2, 0, 0x4C, 5, 0, 0].drop (frameLength [2, 0, 0x4C, 5, 0, 0] + 2)).take 2
    ∧ (1 : Byte).toNat + 256 * (0 : Byte).toNat < 2 ∧ 1538 < (3 : Byte).toNat + 256 * (6 : Byte).toNat := by
  decide +kernel

theorem test_witness_FrameBytesReadBack :
    (⟨1, 2, List.replicate 1536 0⟩ : Frame).payload.length ≤ 1536 ∧ ready.link.receiver = .hunting := by decide +kernel

theorem test_witness_FrameSentBeginsNext :
    let s := sending ready
    let t : State := { s with link := { s.link with waiting := [⟨.reject, ⟨0x7F, 0, [0]⟩⟩] } }
    s.powered = true ∧ s.link.queue = [] ∧ s.store.AtRest ∧ s.link.onLine = some ⟨.reply, ⟨0xCC, 9, [0]⟩⟩
    ∧ s.link.waiting = [] ∧ t.link.waiting = [⟨.reject, ⟨0x7F, 0, [0]⟩⟩] ∧ t.store.AtRest := by decide +kernel

/-- The room with notices marked while a reply is on the line. -/
def noted (m : NoticeMarks) : State :=
  let s := sending room
  { s with
    log := ⟨[⟨0, 0, none, 0, 40, .host, false, false, false⟩], 0⟩
    link := { s.link with
      marks := m, faultNote := some (.storeRetire 3), faultCount := 2, closeCount := 1, lastClose := some (0, .host) } }

/-- The last settled booking goes with its state as that moves, and keeps the state it settled with where another
booking has its number (R92, R98, R115). -/
theorem test_lastSettled_follows :
    let settledAs := fun (was is now : BookingState) =>
      (followSettled 7 now { ready with seq := { ready.seq with
        index := [entry7 is], lastSettled := some (7, was) } }).seq.lastSettled
    settledAs .damaged .damaged .pending = some (7, .pending) ∧ settledAs .pending .pending .lobby = some (7, .lobby)
    ∧ settledAs .done .pending .lobby = some (7, .done) := by decide +kernel

/-- One kind of notice is due at a time, and each comes with its kind byte. -/
theorem test_witness_FrameSentBeginsNext_notices :
    (∀ p ∈ [((⟨true, false, false, [], [], false, false⟩ : NoticeMarks), (0x60 : Byte)),
        (⟨false, true, false, [], [], false, false⟩, 0x61), (⟨false, false, true, [], [], false, false⟩, 0x62),
        (⟨false, false, false, [1], [], false, false⟩, 0x63), (⟨false, false, false, [65], [], false, false⟩, 0x63),
        (⟨false, false, false, [], [0], false, false⟩, 0x64), (⟨false, false, false, [], [3], false, false⟩, 0x64),
        (⟨false, false, false, [], [], true, false⟩, 0x65), (⟨false, false, false, [], [], false, true⟩, 0x66)],
      (noted p.1).store.AtRest ∧ (noted p.1).link.waiting = [] ∧ kindSent .frameSent (noted p.1) = some p.2)
    ∧ room.speaking 0 = true ∧ room.speaking 3 = false ∧ room.boundAttendee 0 = none := by decide +kernel

theorem test_witness_PingReturnsBytes :
    ready.Ready ∧ (List.replicate 64 (0 : Byte)).length ≤ 64 ∧ 64 < (List.replicate 65 (0 : Byte)).length := by
  decide +kernel

/-- A part with both lines disabled. -/
def linesOff : State := { ready with
  lineA := { ready.lineA with enabled := false }, lineB := { ready.lineB with enabled := false } }

theorem ready_ready : ready.Ready := by decide +kernel
theorem running_ready : running.Ready := by decide +kernel
theorem starting_ready : starting.Ready := by decide +kernel
theorem reset_ready : State.reset.Ready := by decide +kernel

theorem test_witness_PartRequestsAnswered :
    ready.Ready ∧ running.Ready ∧ running.link.run = true ∧ starting.Ready ∧ starting.link.run = false
    ∧ starting.link.startTag = some 1 ∧ ready.link.startTag = none ∧ wfUnknownKind 0 = true := by
  and_intros <;> first | exact ready_ready | exact running_ready | exact starting_ready | decide +kernel

theorem test_witness_PartRequestsAnswered_start :
    ready.lineA.reportOwed = false ∧ ready.lineB.reportOwed = false ∧ ready.lineA.enabled = true ∧ linesOff.Ready
    ∧ linesOff.lineA.enabled = false ∧ linesOff.lineB.enabled = false ∧ linesOff.clock = none := by decide +kernel

/-- The part with neither line enabled, its clock at a minute, and perhaps a PENDING booking. -/
def linesOffAt (n : Nat) (index : List IndexEntry) : State :=
  { linesOff with clock := some (60 * n), seq := { linesOff.seq with index := index } }

theorem test_witness_PartRequestsAnswered_evaluated :
    (linesOffAt 1000 []).Ready ∧ (linesOffAt 1000 []).clock ≠ none ∧ (linesOffAt 1000 []).store.engine = .idle
    ∧ (linesOffAt 1000 [entry7 .pending]).Ready ∧ (linesOffAt 1000 [entry7 .pending]).now = some 1000
    ∧ (linesOffAt 1000 []).seq.resumeMark = true ∧ (linesOffAt 1000 []).seq.current = none
    ∧ (after (.start 1 []) (linesOffAt 1000 [entry7 .pending])).seq.current.map (·.resumed) = some true
    ∧ (after (.start 1 []) (linesOffAt 1005 [entry7 .pending])).seq.current = none := by decide +kernel

theorem test_witness_RoomReported :
    room.Ready ∧ room.floor.isOpen = true ∧ ready.Ready ∧ ready.floor.isOpen = false ∧ 64 ≤ (64 : Byte).toNat
    ∧ 8 ≤ (8 : Byte).toNat ∧ 16 ≤ (16 : Byte).toNat ∧ 68 ≤ (68 : Byte).toNat := by decide +kernel

theorem test_witness_TimeAndStatusReported :
    (booked .pending).Ready ∧ (booked .pending).store.engine ≠ .scanning ∧ State.reset.Ready
    ∧ State.reset.store.engine = .scanning ∧ ([0, 0, 0, 0, 17] : List Byte).length = 5
    ∧ num1 [0, 0, 0, 0, 17] 4 = 17 ∧ num1 [0, 0, 0, 0, 0] 4 = 0 ∧ (2 : Byte) ≠ 0 ∧ (2 : Byte) ≠ 1 := by decide +kernel

theorem test_witness_RoomAndLinesSetInConfig :
    ready.Ready ∧ running.Ready ∧ 8 ≤ (8 : Byte).toNat
    ∧ ([2, 0x48, 0xE8, 1, 0, 2] ++ [1, 0x90, 0xD0, 3, 0, 16] : List Byte).length = 12
    ∧ byteAt [2, 0x48, 0xE8, 1, 0, 2, 1, 0x90, 0xD0, 3, 0, 16] 0 ≠ 0
    ∧ byteAt [2, 0x48, 0xE8, 1, 0, 2, 1, 0x90, 0xD0, 3, 0, 16] 0 ≠ 1 := by decide +kernel

theorem test_witness_FilterFlagSet : ready.Ready ∧ running.Ready ∧ 16 ≤ (16 : Byte).toNat := by decide +kernel

theorem test_witness_FilterAndRoleSet :
    ready.Ready ∧ ready.link.run = false ∧ ready.link.startTag = none ∧ ready.floor.isOpen = false ∧ running.Ready
    ∧ starting.Ready ∧ (List.replicate 8 (0 : Byte)).length = 8 := by
  and_intros <;> first | exact ready_ready | exact running_ready | exact starting_ready | decide +kernel

theorem test_witness_FilterAndRoleSet_bounds :
    ([0x58] : List Byte).length + (List.replicate 11 (0 : Byte)).length = 12
    ∧ 16 ≤ num1 ([16] ++ List.replicate 18 0) 0 ∧ 8 ≤ num1 (List.replicate 18 0 ++ [8]) 18 := by decide +kernel

theorem test_witness_SeatRoleAndLabelSet :
    room.Ready ∧ ([0x41] : List Byte).length + (List.replicate 23 (0 : Byte)).length = 24
    ∧ inService (room.seat 0).presence = true ∧ (room.seat 0).labelSent = none ∧ 64 ≤ num1 ([64] ++ List.replicate 25 0) 0
    ∧ 64 ≤ (64 : Byte).toNat ∧ 8 ≤ (8 : Byte).toNat := by decide +kernel

/-- The room with two chairs speaking. -/
def chairs : State :=
  let s := seated 4 .chair room
  { s with floor := { s.floor with speakers := [speech 0, chairSpeech 1, chairSpeech 4] } }

/-- The room with a card HELD at A01. -/
def cardHeld : State := room.modSeat 0 fun r => { r with card := ⟨.held, some [1, 2, 3, 4], some 2, none, false⟩ }

/-- The room with A02's speech 40 seconds old under a limit of 30. -/
def longSpeech (a : LimitAction) : State :=
  { room with floor := { room.floor with
    policy := { Policy.walkIn with speechLimit := 30, atLimit := a }
    speakers := [speech 0, { chairSpeech 1 with elapsed := 40 }] } }

theorem test_witness_SeatRoleAndLabelSet_roles :
    room.floor.Sound ∧ room.floor.isOpen = true ∧ room.seq.roster = none ∧ (room.seat 0).card.state = .none
    ∧ room.effRole 0 = ⟨0, false⟩ ∧ room.effRole 1 = ⟨1, false⟩ ∧ room.requesting 2 = true ∧ room.speaking 3 = false
    ∧ (room.roles.defs[3].mayRequest = false ∧ room.roles.defs[3].maySpeak = false)
    ∧ (room.roles.defs[1].mayRequest = true ∧ room.roles.defs[1].band ≠ 1 ∧ room.roles.defs[1].chairClass = true)
    ∧ (room.roles.defs[2].maySpeak = true ∧ room.roles.defs[2].chairClass = false)
    ∧ classCount true room.floor.speakers < 2 ∧ chairs.Ready ∧ chairs.floor.Sound
    ∧ 2 ≤ classCount true chairs.floor.speakers ∧ (fullRoom Policy.walkIn).Ready
    ∧ (fullRoom Policy.walkIn).floor.policy.smax ≤ classCount false (fullRoom Policy.walkIn).floor.speakers
    ∧ held.Ready ∧ held.floor.Sound ∧ (longSpeech .close).Ready ∧ (longSpeech .close).floor.Sound
    ∧ cardHeld.Ready ∧ cardHeld.floor.Sound ∧ (cardHeld.seat 0).card.state = .held
    ∧ (roomUnder { Policy.walkIn with cardsRequired := true }).Ready := by
  and_intros <;> first | exact sound_of_checks (by decide +kernel) | decide +kernel

/-- A03's request is withdrawn by role 3 and placed in band 3 by role 1; A01 is closed by role 3, A03 advancing, and LIMIT
where two chairs speak (R86, R87). -/
theorem test_roleActs :
    (after (.setSeatRole 1 [2, 3]) room).floor.requests = []
    ∧ (after (.setSeatRole 1 [2, 1]) room).floor.requests = [⟨2, 3, 0⟩]
    ∧ (after (.setSeatRole 1 [0, 3]) room).log.records.map (·.reason) = [.role]
    ∧ (after (.setSeatRole 1 [0, 3]) room).floor.speakers.map (·.seat) = [1, 2]
    ∧ (after (.setSeatRole 1 [0, 1]) chairs).log.records.map (·.reason) = [.limit] := by decide +kernel

/-- A02 ceases to be chair-class while it holds, at its speech limit, and without room (R45, R87). -/
theorem test_roleActs_lowered :
    ((after (.setSeatRole 1 [1, 0]) held).floor.speakers.map fun e => (e.muted, e.chairClass))
        = [(false, false), (false, false)]
    ∧ (after (.setSeatRole 1 [1, 0]) (longSpeech .close)).log.records.map (·.reason) = [.timeUp]
    ∧ (after (.setSeatRole 1 [1, 0]) (longSpeech .warn)).floor.speakers.map (·.overran) = [false, true]
    ∧ (after (.setSeatRole 1 [1, 0]) (fullRoom Policy.walkIn)).log.records.map (·.reason) = [.limit] := by
  decide +kernel

theorem test_witness_LogKeepsNewest :
    let r : LogRecord := ⟨0, 3, none, 0, 40, .host, false, false, false⟩
    room.Ready ∧ (⟨List.replicate 47 r, 0⟩ : SpeechLog).records.length < 48
    ∧ (⟨r :: List.replicate 47 r, 255⟩ : SpeechLog).records = r :: List.replicate 47 r
    ∧ 48 ≤ (⟨r :: List.replicate 47 r, 255⟩ : SpeechLog).records.length := by decide +kernel

theorem test_witness_LevelsAndTrimSet :
    room.Ready ∧ (room.seat 0).frozen = false ∧ (room.seat 40).frozen = true ∧ 64 ≤ (64 : Byte).toNat := by
  decide +kernel

theorem test_witness_GrantOpensSeat :
    let full := fullRoom { Policy.walkIn with fullAction := .replaceOldest }
    room.Ready ∧ room.floor.isOpen = true ∧ room.floor.Sound ∧ room.speaking 0 = true ∧ room.speaking 3 = false
    ∧ room.eligibleToSpeak 3 = true ∧ room.roomFor false = true ∧ full.Ready ∧ full.floor.Sound
    ∧ full.roomFor false = false ∧ full.floor.speakers.find? (fun e => !e.chairClass) = some (speech 0) := by
  and_intros <;> first | exact sound_of_checks (by decide +kernel) | decide +kernel

theorem test_witness_CloseClosesSeat :
    room.Ready ∧ room.floor.Sound ∧ speech 0 ∈ room.floor.speakers ∧ chairSpeech 1 ∈ room.floor.speakers
    ∧ room.floor.requests = [⟨2, 1, 0⟩] ∧ room.eligibleToSpeak 2 = true
    ∧ classCount false room.floor.speakers ≤ room.floor.policy.smax ∧ room.speaking 2 = false
    ∧ ready.floor.isOpen = false :=
  ⟨by decide +kernel, sound_of_checks (by decide +kernel), by decide +kernel⟩

theorem test_witness_WithdrawRemovesRequest :
    room.Ready ∧ room.floor.isOpen = true ∧ room.requesting 2 = true ∧ room.requesting 0 = false ∧ ready.Ready
    ∧ ready.floor.isOpen = false := by decide +kernel

theorem test_witness_FloorClearedAndSet :
    let p : Policy := { Policy.walkIn with mode := .requestMode, smax := 1 }
    room.Ready ∧ room.floor.isOpen = true ∧ room.floor.Sound ∧ p.smax < 256 ∧ p.speechLimit < 65536
    ∧ p.warningLead < 256 ∧ p.allowance < 65536 ∧ p.speechLimit = room.floor.policy.speechLimit
    ∧ 2 ≤ num1 ([2] ++ List.replicate 13 0) 0 :=
  ⟨by decide +kernel, by decide +kernel, sound_of_checks (by decide +kernel), by decide +kernel⟩

/-- A policy that requires cards closes the speakers without one, oldest first, and withdraws the request. -/
theorem test_witness_FloorClearedAndSet_cards :
    let p : Policy := { Policy.walkIn with mode := .requestMode, cardsRequired := true, closedList := true }
    p.autoAdvance = false ∧ room.floor.holders = [] ∧ room.floor.policy.cardsRequired = false
    ∧ room.floor.policy.closedList = false ∧ p.allowance = room.floor.policy.allowance
    ∧ (after (.setFloor 1 (putPolicy p)) room).log.records.map (·.seat) = [0, 1]
    ∧ (after (.setFloor 1 (putPolicy p)) room).floor.requests = []
    ∧ ((after (.setFloor 1 (putPolicy p)) room).seat 2).refusal = some .cardNeeded := by decide +kernel

theorem test_witness_SeatKeysAct_mic :
    room.floor.Sound ∧ room.speaking 0 = true ∧ room.floor.policy.ownClose = true ∧ room.requesting 2 = true
    ∧ room.speaking 3 = false ∧ room.requesting 3 = false ∧ room.eligibleToSpeak 3 = true ∧ room.roomFor false = true
    ∧ fullRequests.floor.Sound ∧ 24 ≤ fullRequests.floor.requests.length ∧ fullRequests.eligibleToRequest 3 = true
    ∧ (fullRoom Policy.walkIn).floor.Sound ∧ (fullRoom Policy.walkIn).roomFor false = false
    ∧ (fullRoom Policy.walkIn).eligibleToRequest 3 = true ∧ room.eligibleToSpeak 40 = false := by
  and_intros <;> first | exact sound_of_checks (by decide +kernel) | decide +kernel

/-- The room under REPLACE_OLDEST without room for one more ordinary speech. -/
def replacing : State := fullRoom { Policy.walkIn with fullAction := .replaceOldest }

/-- The full room with other requests, seat A05 being in no service. -/
def waitingFor (l : List RequestEntry) (s : State) : State := { s with floor := { s.floor with requests := l } }

theorem test_witness_SeatKeysAct_replace :
    replacing.floor.Sound ∧ replacing.floor.isOpen = true ∧ replacing.speaking 3 = false
    ∧ replacing.requesting 3 = false ∧ replacing.eligibleToSpeak 3 = true ∧ replacing.roomFor false = false
    ∧ replacing.floor.speakers.find? (fun e => !e.chairClass) = some (speech 0)
    ∧ (replacing.seatDef 3).chairClass = false := by
  and_intros <;> first | exact sound_of_checks (by decide +kernel) | decide +kernel

theorem test_witness_SeatKeysAct_next :
    (∀ s ∈ [room, replacing, fullRoom Policy.walkIn, waitingFor [] room, waitingFor [⟨4, 1, 0⟩] room],
      soundChecks s.floor = true ∧ s.floor.isOpen = true ∧ (s.seat 1).kind = some .chair
        ∧ (s.seatDef 1).chairClass = true)
    ∧ room.floor.requests = [⟨2, 1, 0⟩] ∧ room.eligibleToSpeak 2 = true ∧ room.roomFor false = true
    ∧ (room.seatDef 2).chairClass = false ∧ room.eligibleToSpeak 4 = false
    ∧ ((room.modSeat 1 fun r => { r with defaultRole := 0 }).seatDef 1).chairClass = false := by decide +kernel

/-- A change that closes A01 alters the list of speakers. -/
theorem test_witness_SeatKeysAct_floorMark :
    (change (closeSeat .own 0) room).floor.speakers.map (·.seat) ≠ room.floor.speakers.map (·.seat)
    ∧ (change (closeSeat .own 0) room).link.marks.floor = true := by decide +kernel

theorem test_witness_SeatKeysAct_priority :
    room.floor.isOpen = true ∧ room.floor.Sound ∧ (room.seat 1).kind = some .chair
    ∧ room.roles.defs[(room.effRole 1).number].chairClass = true ∧ room.eligibleToSpeak 1 = true
    ∧ room.speaking 1 = true ∧ (∀ e ∈ room.floor.speakers, e.seat = 1 → e.chairClass = true)
    ∧ held.floor.Sound ∧ held.floor.holders = [1] ∧ (room.seat 0).kind ≠ some .chair := by
  and_intros <;> first | exact sound_of_checks (by decide +kernel) | decide +kernel

theorem test_witness_LevelsFollowRules :
    (room.seat 0).frozen = false ∧ (0 : SeatId) ∈ (room.floor.speakers.filter fun e => !e.muted).map (·.seat)
    ∧ (room.seat 3).frozen = false ∧ (3 : SeatId) ∉ (room.floor.speakers.filter fun e => !e.muted).map (·.seat)
    ∧ (∀ j ∈ (room.floor.speakers.filter fun e => !e.muted).map (·.seat), 2 ≤ seatDistance 3 j)
    ∧ (∃ j ∈ (room.floor.speakers.filter fun e => !e.muted).map (·.seat), seatDistance 3 j = 2)
    ∧ (room.seat 40).frozen = true := by decide +kernel

/-- The bounds where the cases of a gain step meet. -/
theorem test_witness_LevelsFollowRules_steps :
    14 ≤ 10 + 4 ∧ 10 ≤ 14 + 4 ∧ 10 + 4 < 15 ∧ 6 + 4 < 11 ∧ 0 < 1 := by decide

theorem test_witness_TimeSet :
    ready.Ready ∧ ready.seq.index = [] ∧ ready.seq.current = none ∧ State.reset.Ready
    ∧ State.reset.store.engine = .scanning ∧ 4294967295 < 4294967296 := by decide +kernel

/-- The room with its line A idle so long, since minute 0, doing something. -/
def idling (n : Nat) (a : Activity) : State :=
  { room with lineA := { room.lineA with idle := n, minuteLast := some 0, activity := a } }

theorem test_witness_TimeSet_lines :
    (∀ s ∈ [idling 3 .none, idling 14 .none, idling 14 (.exchange (.poll 1 false)), lineIs .asleep room],
      s.Ready ∧ s.seq.index = [] ∧ s.seq.current = none)
    ∧ (idling 3 .none).lineA.idle + 1 < room.seq.room.idleTime ∧ (idling 14 .none).lineA.idle + 1 = room.seq.room.idleTime
    ∧ (after (.setTime 1 [60, 0, 0, 0]) (idling 14 .none)).lineA.activity = .exchange .sleep := by decide +kernel

/-- The booking of five minutes can be carried. -/
theorem five_carried : five.Carried where
  startMin := by decide
  endMin := by decide
  title := ⟨by decide, by unfold Text.Fits; decide⟩
  organiser := by unfold Text.Fits; decide
  policy := ⟨by decide, by decide, by decide, by decide⟩
  count := by decide
  attendees := by intro a h; cases h
  cardsOnce := by decide
  seatsOnce := by decide

/-- A part without a booking has room for a record of 8 units. -/
theorem ready_canProgram (n : Nat) (s : State) (h : s.store = ready.store) : s.CanProgram n := by
  have e : s.sectorsIn .erased = ready.sectorsIn .erased := by simp [State.sectorsIn, h]
  have q : s.nextSequence = ready.nextSequence := by simp [State.nextSequence, h]
  refine .inr (.inr ⟨?_, .inr ⟨?_, ?_⟩⟩)
  · rw [h]; decide +kernel
  · rw [e]; decide +kernel
  · rw [q]; decide +kernel

/-- A clock that reads minute 999, nothing booked. -/
def atNoon : State := { ready with clock := some 59940 }

theorem atNoon_ready : atNoon.Ready := by decide +kernel
theorem booked_ready (b : BookingState) : (booked b).Ready := by cases b <;> decide +kernel
theorem room_ready : room.Ready := by decide +kernel

theorem test_witness_BookChecksThenPrograms :
    atNoon.Ready ∧ five.Carried ∧ atNoon.store.engine ≠ .scanning ∧ atNoon.seq.change = none
    ∧ atNoon.clock = some 59940 ∧ five.startMin + 5 = five.endMin ∧ 59940 / 60 + 1 = five.startMin
    ∧ atNoon.conflict none five.startMin five.endMin = none ∧ atNoon.roomForBooking = some none
    ∧ atNoon.store.latch = false ∧ atNoon.CanProgram (8 + 3 * five.attendees.length) := by
  and_intros <;> first | exact atNoon_ready | exact five_carried | exact ready_canProgram _ _ rfl | decide +kernel

theorem test_witness_BookChecksThenPrograms_refused :
    State.reset.Ready ∧ State.reset.store.engine = .scanning ∧ ready.clock = none
    ∧ ((booked .pending).conflict none five.startMin five.endMin).map (·.number) = some 7
    ∧ five.endMin < (five.startMin + 1) + 5 ∧ five.startMin < 60000 / 60 + 1 := by
  exact ⟨reset_ready, by decide +kernel⟩

theorem test_witness_BookingJudged :
    ready.Ready ∧ ready.store.engine ≠ .scanning ∧ ready.seq.change = none
    ∧ (List.replicate 88 (0 : Byte)).length < 89 ∧ (List.replicate 90 (0 : Byte)).length < 91
    ∧ (List.replicate 89 (0 : Byte)).length = 89 + 44 * num1 (List.replicate 89 0) 88
    ∧ num1 (List.replicate 89 0) 8 = 0
    ∧ (List.replicate 88 0 ++ [25] ++ List.replicate 1100 (0 : Byte)).length
        = 89 + 44 * num1 (List.replicate 88 0 ++ [25] ++ List.replicate 1100 0) 88
    ∧ 24 < num1 (List.replicate 88 0 ++ [25] ++ List.replicate 1100 0) 88 :=
  ⟨ready_ready, by decide +kernel⟩

/-- An AMEND of number 7 for two attendees, the second without a name. -/
def namelessAmend : List Byte :=
  [7, 0] ++ List.replicate 8 1 ++ [1, 0x42] ++ List.replicate 78 0 ++ [2] ++ [1, 0x41] ++ List.replicate 86 0

theorem test_witness_BookingJudged_amend :
    (booked .pending).Ready ∧ namelessAmend.length = 91 + 44 * num1 namelessAmend 90
    ∧ ((booked .pending).entry (num2 namelessAmend 0)).map (·.state) = some .pending
    ∧ (booked .pending).seq.current = none ∧ num1 namelessAmend 90 = 2 ∧ num1 namelessAmend 91 = 1
    ∧ num1 namelessAmend (91 + 44 * 1) = 0 ∧ num1 namelessAmend 10 ≠ 0
    ∧ result (.amend 1 namelessAmend) (booked .pending) = some 4 := by decide +kernel

theorem test_witness_WalkInStartsNow :
    atNoon.Ready ∧ 5 < 65536 ∧ atNoon.store.engine ≠ .scanning ∧ atNoon.seq.change = none
    ∧ atNoon.clock = some 59940 ∧ atNoon.seq.current = none ∧ atNoon.conflict none 999 1004 = none
    ∧ atNoon.roomForBooking = some none ∧ atNoon.store.latch = false ∧ atNoon.CanProgram 8
    ∧ (meeting .inSession .inSession).seq.current.map (·.number) = some 7
    ∧ ((meeting .inSession .inSession).entry 7).isSome = true := by
  and_intros <;> first | exact atNoon_ready | exact ready_canProgram _ _ rfl | decide +kernel

/-- The sector in use has room for a record of 8 units. -/
theorem booked_canProgram (b : BookingState) (n : Nat) (h : n ≤ 8) (s : State) (e : s.store = (booked b).store) :
    s.CanProgram n := by
  have w : s.writeHead = (booked b).writeHead := by simp [State.writeHead, State.sectorsIn, e]
  have w' : (booked b).writeHead = some 0 := by cases b <;> decide +kernel
  refine .inr (.inr ⟨?_, .inl ⟨0, by rw [w, w'], ?_⟩⟩)
  · rw [e]; show 1 ≤ 4294967295; decide
  · rw [e]; show 9 + n ≤ 256; omega

theorem test_witness_AmendAndCancelHold :
    (booked .pending).Ready ∧ five.Carried ∧ (booked .pending).store.engine ≠ .scanning
    ∧ (booked .pending).seq.change = none ∧ (booked .pending).entry 7 = some (entry7 .pending)
    ∧ (booked .pending).entry 8 = none ∧ (booked .pending).seq.current = none
    ∧ (booked .pending).clock = some 59940 ∧ (booked .pending).conflict (some 7) 1000 1005 = none
    ∧ (entry7 .pending).version < 255 ∧ (booked .pending).store.latch = false
    ∧ (booked .pending).CanProgram (8 + 3 * five.attendees.length) ∧ (booked .pending).CanProgram 1
    ∧ (booked .damaged).entry 7 = some (entry7 .damaged) ∧ (booked .done).entry 7 = some (entry7 .done) := by
  and_intros <;> first | exact booked_ready _ | exact five_carried | exact booked_canProgram .pending _ (by decide) _ rfl | decide +kernel

theorem meeting_ready (b : BookingState) (p : Phase) : (meeting b p).Ready := by cases b <;> cases p <;> decide +kernel

theorem test_witness_RecordsAreRead :
    (meeting .inSession .inSession).Ready ∧ (meeting .inSession .inSession).store.engine ≠ .scanning
    ∧ (meeting .inSession .inSession).seq.change = none
    ∧ (meeting .inSession .inSession).entry 7 = some (entry7 .inSession)
    ∧ (entry7 .inSession).endMin + 240 ≤ (entry7 .inSession).startMin + 720
    ∧ (meeting .inSession .inSession).conflict (some 7) 1000 1245 = none
    ∧ (meeting .inSession .inSession).store.latch = false ∧ (booked .pending).seq.current = none
    ∧ (booked .pending).entry 8 = none :=
  ⟨meeting_ready _ _, by decide +kernel⟩

theorem test_witness_MeetingOpenedAndEnded :
    (meeting .lobby .lobby).Ready ∧ (meeting .lobby .lobby).seq.current = some ⟨7, .lobby, false, false, Policy.walkIn⟩
    ∧ (meeting .lobby .lobby).seq.change = none ∧ (meeting .inSession .inSession).Ready
    ∧ (meeting .inSession .inSession).seq.current = some ⟨7, .inSession, false, false, Policy.walkIn⟩
    ∧ (meeting .inSession .inSession).entry 7 = some (entry7 .inSession)
    ∧ (meeting .inSession .inSession).store.latch = false ∧ (meeting .inSession .inSession).CanProgram 1
    ∧ (meeting .inSession .inSession).floor.Sound ∧ (meeting .inSession .inSession).store.engine ≠ .scanning := by
  and_intros <;> first | exact meeting_ready _ _ | exact booked_canProgram .inSession _ (by decide) _ rfl | exact sound_of_checks (by decide +kernel) | decide +kernel

/-- The lobby with a SLEEP on line A that has not been sent clean, and perhaps a RESCAN that waits for it. -/
def sleepyLobby (tags : List Byte) : State :=
  let s := meeting .lobby .lobby
  { s with lineA := { Line.initial with
    state := .running, idle := 15, sleepDue := true, activity := .exchange .sleep, begun := true, rescans := tags } }

/-- A booking that enters while a SLEEP is on the line leaves it RUNNING with no SLEEP sent (R169). -/
theorem test_sleepGivenUp :
    (∀ tags ∈ [[], [(9 : Byte)]], (sleepyLobby tags).Ready)
    ∧ (after (.openNow 1 []) (sleepyLobby [])).lineA = { Line.initial with state := .running }
    ∧ (after (.openNow 1 []) (sleepyLobby [9])).lineA.activity = .exchange .unassign := by decide +kernel

/-- A meeting at another time. -/
def atMinute (n : Nat) (s : State) : State := { s with clock := some (60 * n) }

theorem test_witness_EvaluationMovesMeeting :
    ready.clock = none ∧ (booked .pending).now = some 999 ∧ (booked .pending).store.engine ≠ .scanning
    ∧ (booked .pending).seq.index = [entry7 .pending] ∧ (booked .pending).seq.change = none
    ∧ (booked .pending).seq.resumeMark = false ∧ (booked .pending).link.run = true
    ∧ 1000 ≤ 999 + (booked .pending).seq.room.lobbyLead := by decide +kernel

theorem test_witness_EvaluationMovesMeeting_current :
    (atMinute 1005 (meeting .inSession .inSession)).now = some 1005
    ∧ (atMinute 1005 (meeting .inSession .inSession)).seq.index = [entry7 .inSession]
    ∧ (atMinute 1000 (meeting .lobby .lobby)).now = some 1000
    ∧ (atMinute 1000 (meeting .lobby .lobby)).seq.index = [entry7 .lobby]
    ∧ (atMinute 1005 (booked .pending)).now = some 1005 := by decide +kernel

theorem test_witness_EvaluationMovesMeeting_warning :
    (atMinute 1001 (meeting .inSession .inSession)).seq.room.endWarning = 5
    ∧ (atMinute 1001 (meeting .inSession .inSession)).now = some 1001
    ∧ (evaluate (atMinute 1001 (meeting .inSession .inSession))).seq.current.map (·.warned) = some true
    ∧ (evaluate (atMinute 999 (meeting .inSession .inSession))).seq.current.map (·.warned) = some false
    ∧ (atMinute 1005 (meeting .lobby .lobby)).floor.isOpen = false
    ∧ (atMinute 1005 (meeting .lobby .lobby)).store.latch = false
    ∧ (evaluate (atMinute 1005 (meeting .lobby .lobby))).seq.current = none := by decide +kernel

/-- A part whose resume mark is set, at a minute, in CONFIG or in RUN. -/
def resuming (n : Nat) (run : Bool) : State :=
  let s := atMinute n (booked .pending)
  { s with seq := { s.seq with resumeMark := true }, link := { s.link with run := run } }

theorem test_witness_EvaluationMovesMeeting_resume :
    (resuming 1000 true).now = some 1000 ∧ (resuming 1000 true).seq.index = [entry7 .pending]
    ∧ (resuming 1000 true).seq.resumeMark = true ∧ (resuming 1000 true).seq.current = none
    ∧ (evaluate (resuming 1000 true)).seq.current.map (·.resumed) = some true
    ∧ (evaluate (resuming 999 true)).seq.current.map (·.resumed) = some false
    ∧ (evaluate (resuming 900 true)).seq.current = none ∧ (evaluate (resuming 1000 false)).seq.current = none := by
  decide +kernel

/-- A part with three PENDING bookings, at a minute. -/
def severalAt (n : Nat) : State :=
  let s := atMinute n (booked .pending)
  { s with seq := { s.seq with index := [entry7 .pending, { entry7 .pending with number := 8, startMin := 900, endMin := 905 },
      { entry7 .pending with number := 9, startMin := 1020, endMin := 1025 }] } }

theorem test_witness_EvaluationMovesMeeting_several :
    (severalAt 1005).now = some 1005 ∧ (severalAt 1005).seq.current = none ∧ (severalAt 1005).store.latch = false
    ∧ ((severalAt 1005).seq.index.map (·.number)).Nodup ∧ (∀ e ∈ (severalAt 1005).seq.index, e.state ≠ .lobby)
    ∧ (evaluate (severalAt 1005)).store.programs.map (·.number) = [8, 7]
    ∧ (evaluate (severalAt 1005)).seq.current = none
    ∧ (evaluate (severalAt 1010)).seq.current.map (·.number) = some 9 := by decide +kernel

/-! ### The booking store -/

/-- A store whose sector 0 is full and holds a settled booking alone, the write head being sector 1. -/
def worn : State :=
  let s := booked .done
  { s with store := { s.store with
    table := [⟨.full, 1⟩, ⟨.opened, 2⟩] ++ List.replicate 14 ⟨.erased, 0⟩, nextFree := 1 } }

/-- The same with the booking still due. -/
def wornLive : State := { worn with seq := { worn.seq with index := [entry7 .pending] } }

/-- A store under the HALTED latch. -/
def halted : State := { ready with store := { ready.store with latch := true } }

/-- The same with 13 sectors retired. -/
def haltedShort : State := { ready with store := { ready.store with
  latch := true, table := List.replicate 13 ⟨.retired, 0⟩ ++ List.replicate 3 ⟨.erased, 0⟩ } }

theorem worn_ready : worn.Ready := by decide +kernel
theorem wornLive_ready : wornLive.Ready := by decide +kernel
theorem halted_ready : halted.Ready := by decide +kernel

theorem test_witness_StoreRequestsBegin :
    ready.Ready ∧ ready.victim = none ∧ halted.Ready ∧ halted.store.latch = true
    ∧ (halted.sectorsIn .retired).length ≤ 12 ∧ 3 ≤ (halted.sectorsIn .erased).length ∧ haltedShort.Ready
    ∧ 12 < (haltedShort.sectorsIn .retired).length :=
  ⟨ready_ready, by decide +kernel, halted_ready, by decide +kernel⟩

theorem test_witness_StoreRequestsBegin_pass :
    worn.Ready ∧ worn.victim = some 0 ∧ worn.store.engine = .idle ∧ worn.store.reads = []
    ∧ worn.store.pass = none ∧ worn.liveRecords 0 = [] ∧ wornLive.Ready ∧ wornLive.victim = some 0
    ∧ (wornLive.liveRecords 0).head? = some record7 ∧ record7.health.all unitReads = true
    ∧ wornLive.writeHead = some 1 ∧ wornLive.store.nextFree + recordUnits record7.body ≤ 256 := by
  and_intros <;> first | exact worn_ready | exact wornLive_ready | decide +kernel

/-- The booking change of a BOOK of number 8. -/
def booking8 : BookingChange := ⟨.book, 5, 8, five, false, none⟩

/-- The program of its record at the write head. -/
def program8 (again : Bool) : Programming :=
  ⟨⟨.change, 8, 1, .booking five, none, [], false, again, false⟩, 1, ⟨0, 9⟩, none⟩

/-- A part that programs that record, at minute 600. -/
def programs (again : Bool) : State :=
  let s := atMinute 600 (booked .done)
  { s with
    store := { s.store with engine := .programming, active := some (program8 again), nextWrite := 2 }
    seq := { s.seq with change := some booking8 } }

theorem test_witness_ProgrammedBookingIsPending :
    (programs false).Verifying (program8 false) ∧ (program8 false).header = none
    ∧ (program8 false).job.purpose = .change ∧ (programs false).seq.change = some booking8
    ∧ (programs false).store.reads = [] ∧ (programs false).store.pass = none ∧ (programs false).seq.heldLoad = none
    ∧ (programs false).NothingDue ∧ (programs false).now = some 600
    ∧ 600 + (programs false).seq.room.lobbyLead < five.startMin ∧ five.startMin ≤ five.endMin := by decide +kernel

/-- The header of sector 1 at its verify, before that record. -/
def headerPhase : State :=
  let s := programs false
  { s with store := { s.store with active := some { program8 false with place := ⟨1, 1⟩, header := some 2 } } }

theorem test_witness_ProgrammedBookingIsPending_header :
    headerPhase.Verifying { program8 false with place := ⟨1, 1⟩, header := some 2 }
    ∧ headerPhase.store.pass = none ∧ headerPhase.store.table.length = 16
    ∧ 4 ≤ (headerPhase.sectorsIn .erased).length ∧ (headerPhase.sector 1).state = .erased := by decide +kernel

/-- The same part with a program, a change and an entry of booking 7 in a state. -/
def programming7 (j : ProgramJob) (kind : ChangeKind) (b : BookingState) : State :=
  let s := programs false
  { s with
    seq := { s.seq with index := [entry7 b], change := some ⟨kind, 5, 7, { five with endMin := 1010 }, false, none⟩ }
    store := { s.store with active := some ⟨j, 1, ⟨0, 9⟩, none⟩ } }

/-- The program of a STATE record of booking 7. -/
def state7 (b : BookingState) (purpose : Purpose) : ProgramJob := stateJob purpose 7 1 b

theorem test_witness_ProgrammedBookingIsPending_changes :
    (∀ k ∈ [(ChangeKind.amend, BookingState.damaged, bookingJob 7 2 five),
        (.cancel, .pending, state7 .cancelled .change), (.endNow, .done, state7 .done .change)],
      (programming7 k.2.2 k.1 k.2.1).Verifying ⟨k.2.2, 1, ⟨0, 9⟩, none⟩
        ∧ (programming7 k.2.2 k.1 k.2.1).NothingDue ∧ (programming7 k.2.2 k.1 k.2.1).store.reads = []
        ∧ (programming7 k.2.2 k.1 k.2.1).store.pass = none ∧ k.2.2.purpose = .change
        ∧ ((programming7 k.2.2 k.1 k.2.1).entry 7).isSome = true)
    ∧ (state7 .done .settle).purpose = .settle := by decide +kernel

/-- The meeting in session while its extension's record is programmed, and a pass that copies its record. -/
def extends7 (purpose : Purpose) : State :=
  let s := programming7 { bookingJob 7 2 five with purpose := purpose } .extend .inSession
  { s with
    seq := { s.seq with current := some ⟨7, .inSession, false, true, Policy.walkIn⟩ }
    store := { s.store with
      reads := if purpose = .copy then [.getBooking 7 1] else []
      pass := if purpose = .copy then some ⟨0, 0, 0, none⟩ else none } }

theorem test_witness_ProgrammedBookingIsPending_extend :
    (∀ p ∈ [Purpose.change, .copy],
      (extends7 p).Verifying ⟨{ bookingJob 7 2 five with purpose := p }, 1, ⟨0, 9⟩, none⟩)
    ∧ (extends7 .change).seq.index = [entry7 .inSession] ∧ (extends7 .change).seq.resumeMark = false
    ∧ (extends7 .change).now = some 600 ∧ 600 + (extends7 .change).seq.room.endWarning < 1010
    ∧ (extends7 .copy).store.reads ≠ [] ∧ (extends7 .copy).store.pass = some ⟨0, 0, 0, none⟩ := by decide +kernel

theorem test_witness_FailedVerifyRetriesThenHalts :
    (∀ again, (programs again).Verifying (program8 again)
      ∧ (program8 again).job = ⟨.change, 8, 1, .booking five, none, [], false, again, false⟩
      ∧ (programs again).NothingDue ∧ (programs again).store.table.length = 16)
    ∧ 1 ≤ (program8 true).place.unit ∧ (programs false).sectorsIn .opened = [0]
    ∧ 2 ≤ ((programs false).sectorsIn .erased).length ∧ ((programs false).sectorsIn .erased).head? = some 1
    ∧ (programs false).nextSequence ≤ 65535 := by decide +kernel

/-- The same with one sector ERASED, while a read waits. -/
def programsShort : State :=
  let s := programs false
  { s with store := { s.store with
    reads := [.getBooking 7 3], table := ⟨.opened, 20⟩ :: ⟨.erased, 0⟩ :: List.replicate 14 ⟨.full, 1⟩ } }

/-- A retry that finds no room asks for its pass at once (R130). -/
theorem test_witness_FailedVerifyRetriesThenHalts_waits :
    programsShort.Verifying (program8 false) ∧ programsShort.NothingDue ∧ programsShort.store.reads ≠ []
    ∧ programsShort.sectorsIn .opened = [0] ∧ (programsShort.sectorsIn .erased).length < 2
    ∧ (let t := after (.storeProgramComplete [⟨0, 9, true⟩]) programsShort
       t.victim = some 0 ∧ t.store.pass = some ⟨0, 0, 0, none⟩ ∧ t.store.programs.map (·.waits) = [true]) := by
  decide +kernel

/-- A part whose engine reads that booking's record. -/
def reading (j : ReadJob) (s : State) : State := { s with store := { s.store with reads := [j] } }

theorem test_witness_ReadAnswersOrExtends :
    let s := reading (.getBooking 7 3) (booked .pending)
    s.powered = true ∧ s.TransmitterSettled ∧ s.store.engine = .idle ∧ s.store.corrected ≤ 65535
    ∧ s.entry 7 = some (entry7 .pending) ∧ s.recordAt (entry7 .pending).place = some record7
    ∧ record7.body = .booking five ∧ (∀ h ∈ record7.health, h = .clean)
    ∧ (reading (.getBooking 7 3) (booked .damaged)).entry 7 = some (entry7 .damaged)
    ∧ (reading (.getBooking 7 3) (booked .damaged)).TransmitterSettled
    ∧ result (.storeReadComplete []) (reading (.getBooking 7 3) (booked .damaged)) = some 17 := by decide +kernel

/-- The extension of the meeting in flight. -/
def extension7 : BookingChange := ⟨.extend, 3, 7, { five with endMin := 1010 }, false, none⟩

/-- The meeting in session whose extension's read is the next. -/
def extending : State :=
  let s := reading (.extend 7) (meeting .inSession .inSession)
  { s with seq := { s.seq with change := some extension7 } }

/-- The booking's record with its first unit uncorrectable. -/
def badRecord7 : MediumRecord := { record7 with health := .uncorrectable :: List.replicate 7 .clean }

theorem test_witness_ReadAnswersOrExtends_extend :
    extending.store.reads = [.extend 7] ∧ extending.seq.change = some extension7
    ∧ extending.recordAt (entry7 .inSession).place = some record7
    ∧ State.CanProgram (8 + 3 * five.attendees.length) { extending with store := { extending.store with reads := [] } }
    ∧ (∃ h ∈ badRecord7.health.take 8, unitReads h = false) := by
  and_intros <;> first | exact booked_canProgram .inSession _ (by decide) _ rfl | decide +kernel

/-- The booking's roster being loaded at a minute. -/
def loadingAt (n : Nat) : State := atMinute n (reading (.roster 7) (meeting .pending .loading))

theorem test_witness_RosterLoadEntersMeeting :
    (∀ n ∈ [999, 1000, 1004, 1005], (loadingAt n).powered = true ∧ (loadingAt n).store.engine = .idle
      ∧ (loadingAt n).store.reads = [.roster 7] ∧ (loadingAt n).seq.index = [entry7 .pending]
      ∧ (loadingAt n).seq.current = some ⟨7, .loading, false, false, Policy.walkIn⟩
      ∧ (loadingAt n).now = some n)
    ∧ (loadingAt 999).recordAt ⟨0, 1⟩ = some record7 ∧ (∀ h ∈ record7.health, unitReads h = true)
    ∧ (loadingAt 999).floor.isOpen = false
    ∧ State.CanProgram 1 { loadingAt 1005 with store := { (loadingAt 1005).store with reads := [] } } := by
  and_intros <;> first | exact booked_canProgram .pending _ (by decide) _ rfl | decide +kernel

/-- A load that finds the end passed has every label re-evaluated, so that one on the line is marked again (R145). -/
theorem test_lateLoadMarksLabels :
    let s := seated 3 .delegate (loadingAt 1005)
    inService (s.seat 3).presence = true ∧ (s.seat 3).labelSent = none ∧ (s.seat 3).marks.label = false
    ∧ (after (.rosterLoadComplete []) s).seq.roster = none
    ∧ ((after (.rosterLoadComplete []) s).seat 3).marks.label = true := by decide +kernel

/-- The roster load of a record whose first unit fails, while a reply is on the host line. -/
def failingLoad : State :=
  let s := sending (loadingAt 999)
  { s with store := { s.store with medium := s.store.medium.set 0 ⟨.valid 1 false, [badRecord7]⟩ } }

theorem test_witness_RosterLoadEntersMeeting_marks :
    failingLoad.powered = true ∧ failingLoad.link.queue = [] ∧ failingLoad.link.onLine.isSome = true
    ∧ failingLoad.recordAt ⟨0, 1⟩ = some badRecord7 ∧ (∃ h ∈ badRecord7.health, unitReads h = false)
    ∧ (after (.rosterLoadComplete []) failingLoad).link.marks.fault = true := by decide +kernel

/-- The erase of sector 0 after a COMPACT. -/
def erasing : State := { worn with store := { worn.store with
  engine := .erasing, pass := some ⟨0, 0, 255, some 4⟩ } }

theorem test_witness_EraseEndsPass :
    erasing.powered = true ∧ erasing.link.queue = [] ∧ erasing.TransmitterSettled
    ∧ erasing.store.engine = .erasing ∧ erasing.store.pass = some ⟨0, 0, 255, some 4⟩
    ∧ erasing.store.table.length = 16 ∧ 3 ≤ (erasing.sectorsIn .erased).length ∧ 0 ∈ erasing.sectorsIn .full
    ∧ (erasing.sectorsIn .retired).length ≤ 11 := by decide +kernel

theorem test_witness_EraseEndsPass_marks :
    (sending erasing).TransmitterSettled ∧ (sending erasing).link.onLine.isSome = true
    ∧ (after (.eraseComplete .failedHeaderValid) (sending erasing)).link.marks.store = true
    ∧ (after (.eraseComplete .failedHeaderValid) (sending erasing)).link.marks.fault = true := by decide +kernel

theorem test_witness_ScanRebuildsIndex :
    let s : State := { State.reset with store := { State.reset.store with medium := (booked .pending).store.medium } }
    State.reset.powered = true ∧ State.reset.store.engine = .scanning ∧ State.reset.store.orphan = none
    ∧ State.reset.clock = none ∧ (∀ i : Fin 16, State.reset.store.medium[i] = ⟨.erased, []⟩)
    ∧ s.store.medium[(0 : Fin 16)] = ⟨.valid 1 false, [⟨1, 7, 1, 0, false, true, .booking five,
        List.replicate (8 + 3 * five.attendees.length) .clean⟩]⟩
    ∧ (∀ j : Fin 16, j ≠ 0 → s.store.medium[j] = ⟨.erased, []⟩) ∧ five.attendees.length ≤ 24 := by decide +kernel

/-- A screen in service has its title re-evaluated at the completion of the scan, also over an empty store (R150). -/
theorem test_scanMarksTitle :
    let s := State.reset.modScreen 0 fun c => { c with presence := .present }
    inService (s.screen 0).presence = true ∧ (s.screen 0).itemMarks[(0 : Fin 16)] = false
    ∧ ((after (.scanComplete [] []) s).screen 0).itemMarks[(0 : Fin 16)] = true := by decide +kernel

/-- A store whose sector 5 alone is not erased, its header invalid. -/
def abandoned : State := { State.reset with store := { State.reset.store with
  medium := State.reset.store.medium.set 5 ⟨.invalid, [record7]⟩ } }

theorem test_witness_ScanRebuildsIndex_invalid :
    abandoned.store.medium[(5 : Fin 16)] = ⟨.invalid, [record7]⟩
    ∧ (∀ j : Fin 16, j ≠ 5 → abandoned.store.medium[j] = ⟨.erased, []⟩)
    ∧ (after (.scanComplete [] [5]) abandoned).store.lastOutcome = .storeFault
    ∧ (after (.scanComplete [] []) abandoned).sector 5 = ⟨.erased, 0⟩
    ∧ (sending abandoned).link.onLine.isSome = true
    ∧ (after (.scanComplete [] [5]) (sending abandoned)).link.marks.fault = true := by decide +kernel

/-- A store whose sector 2 alone is in use, with one record in it. -/
def holding (r : MediumRecord) : State := { State.reset with store := { State.reset.store with
  medium := State.reset.store.medium.set 2 ⟨.valid 4 false, [r]⟩ } }

/-- The record of a booking of 25 attendees. -/
def record25 : MediumRecord :=
  { record7 with
    body := .booking { five with attendees := List.replicate 25 ⟨[0x41], none, none, none⟩ }
    health := List.replicate 83 .clean }

theorem test_witness_ScanRebuildsIndex_unusable :
    ∀ r ∈ [{ record7 with headKnown := false }, record25], r.health.head? = some .clean
      ∧ (holding r).store.medium[(2 : Fin 16)] = ⟨.valid 4 false, [r]⟩
      ∧ (∀ j : Fin 16, j ≠ 2 → (holding r).store.medium[j] = ⟨.erased, []⟩)
      ∧ (after (.scanComplete [] []) (holding r)).sector 2 = ⟨.full, 4⟩
      ∧ (after (.scanComplete [] []) (holding r)).seq.index = [] := by decide +kernel

/-! ### Time -/

/-- A room without limits, a FAULT line B, and only a LOST unit on line A. -/
def quiet : State :=
  let s := (roomUnder { Policy.walkIn with speechLimit := 0, allowance := 0 })
  { s with lineB := { s.lineB with state := .fault, seatsFound := 2 } }

theorem test_witness_SecondEventCounts :
    quiet.Calm ∧ quiet.floor.policy.speechLimit = 0 ∧ quiet.floor.policy.allowance = 0
    ∧ (quiet.floor.speakers.map (·.seat)).Nodup ∧ quiet.clock = none ∧ quiet.lineB.activity = .none
    ∧ quiet.lineB.state = .fault ∧ quiet.lineA.activity = .none ∧ quiet.lostAddresses .a = [] := by decide +kernel

theorem test_witness_SecondEventCounts_probe :
    let s := State.modSeat { ready with lineA := { ready.lineA with state := .running, seatsFound := 5 } } 4
      fun r => { r with presence := .lost }
    s.Calm ∧ s.servedAddresses .a = [] ∧ s.lostAddresses .a = [5] ∧ s.floor.speakers = []
    ∧ (59939 < 4294967295 ∧ (59939 + 1) % 60 = 0) := by decide +kernel

/-- The idle room at minute 999, line A RUNNING and idle for 14 minutes. -/
def idleRoom : State := { room with
  clock := some 59940, seq := { Sequencer.initial with resumeMark := false }
  lineA := { room.lineA with idle := 14, minuteLast := some 998 } }

theorem test_witness_MinuteCountsIdle :
    idleRoom.Calm ∧ idleRoom.now = some 999 ∧ idleRoom.NothingDue ∧ idleRoom.lineA.state = .running
    ∧ idleRoom.lineB.state ≠ .running ∧ idleRoom.seq.room.idleTime = 15 ∧ idleRoom.lineA.idle + (999 - 998) = 15
    ∧ room.Calm ∧ room.clock = none :=
  by decide +kernel

/-- The room 10 s before, at, and past its limit of 50 s. -/
def limited (a : LimitAction) (elapsed : Nat) : State :=
  let s := roomUnder { Policy.walkIn with speechLimit := 50, warningLead := 10, atLimit := a, allowance := 100 }
  { s with floor := { s.floor with speakers := [{ speech 0 with elapsed := elapsed }, chairSpeech 1] } }

/-- A limited speech of a bound attendee who has spoken for 100 s. -/
def barred : State :=
  let s := limited .warn 40
  let x : RosterEntry := ⟨⟨[0x41], none, none, none⟩, some 0, 100⟩
  State.modSeat { s with seq := { s.seq with roster := some [x] } } 0 fun r =>
    { r with card := ⟨.bound, some [1, 2, 3, 4], some 0, some 0, false⟩ }

theorem test_witness_SpeechChecksAct :
    (limited .warn 40).Calm ∧ (limited .warn 40).floor.isOpen = true ∧ (limited .warn 40).floor.Sound
    ∧ speech 0 ∈ (limited .warn 40).floor.speakers ∧ (limited .warn 40).floor.policy.speechLimit
        - (limited .warn 40).floor.policy.warningLead = 40
    ∧ (limited .close 50).Calm ∧ (limited .close 50).floor.Sound
    ∧ barred.Calm ∧ barred.floor.Sound ∧ (barred.seat 0).card.attendee = some 0
    ∧ barred.seq.roster.map (·.map (·.total)) = some [100]
    ∧ (∀ e ∈ (limited .warn 40).floor.speakers, e.seat = 1 → e.chairClass = true) := by
  and_intros <;> first | exact sound_of_checks (by decide +kernel) | decide +kernel

/-! ### Exchanges -/

theorem five_ends : ∀ c ∈ (answer (pollReply 1 0x50 0 1 0)).chars.take 5,
    c.framingError = false ∧ c.marker = false ∧ c.endsAt ≤ 94 := by decide +kernel

theorem test_witness_AnswersJudged :
    silence.startAt = none ∧ Carries (pollReply 1 0x50 0 1 0) 94 (answer (pollReply 1 0x50 0 1 0))
    ∧ Carries [0x85] 38 (answer [0x85]) ∧ Carries [25] 388 (answer [25]) ∧ Carries [24] 388 (answer [24])
    ∧ Carries [1, 0xFD] 52 (answer [1, 0xFD]) ∧ (1 : Byte) ≠ 3 := by
  refine ⟨rfl, ⟨⟨4, rfl, by decide⟩, by decide +kernel, five_ends⟩, ?_, ?_, ?_, ?_, by decide⟩ <;>
    exact ⟨⟨4, rfl, by decide⟩, by decide, by decide⟩

/-- R158, R223: a POLL of position 5 and the UNASSIGN, each with its check and its markers. -/
theorem test_witness_AnswersJudged_sent :
    (exchangeChars (.poll 5 false)).map (fun c => (c.data, c.marker)) = [(5, true), (0, false), (0, false), (0xFA, false)]
    ∧ (exchangeChars .unassign).map (·.data) = [0x40, 0x0F, 0, 0xB0] ∧ ([0x41] : Text).length ≤ 35 := by decide +kernel

/-- No byte, and no five bytes, in an answer cut off after its start. -/
theorem test_witness_AnswersJudged_incomplete :
    (⟨some 24, []⟩ : LineAnswer).startAt = some 24
    ∧ (¬ ∃ l : List Byte, l.length = 5 ∧ Carries l 94 ⟨some 24, []⟩)
    ∧ ¬ ∃ b : Byte, Carries [b] 38 ⟨some 24, []⟩ := by
  refine ⟨rfl, ?_, ?_⟩
  · rintro ⟨l, h, _, e, _⟩
    simp only [List.take_nil, List.map_nil] at e
    subst e; cases h
  · rintro ⟨b, _, e, _⟩
    simp at e

/-- The room with its poll of address 1 on line A. -/
def polled : State := doing (.exchange (.poll 1 false)) room

/-- The room whose first seat is LOST and probed. -/
def probed : State :=
  State.modSeat (doing (.exchange (.poll 3 true)) running) 2 fun r => { r with presence := .lost }

theorem test_witness_PollAnswerTaken :
    polled.Calm ∧ polled.floor.Sound ∧ lineOfSeat 0 = .a ∧ positionOfSeat 0 = 1
    ∧ Carries (pollReply 1 0 0 1 0) 94 (answer (pollReply 1 0 0 1 0)) ∧ OnLine .a (.poll 1 false) (lineIs .running polled)
    ∧ inService (polled.seat 0).presence = true ∧ (polled.seat 0).kind = some .delegate
    ∧ (polled.seat 0).heldMic = some 3 ∧ (polled.seat 0).heldNext = some 0 ∧ (polled.seat 0).heldCard = some 0
    ∧ (polled.seat 0).card.state = .none ∧ (polled.seat 0).heldPriority = false := by
  refine ⟨by decide +kernel, sound_of_checks (by decide +kernel), by decide, by decide,
    ⟨⟨4, rfl, by decide⟩, by decide +kernel, by decide +kernel⟩, by decide +kernel, by decide +kernel,
    by decide +kernel, by decide +kernel, by decide +kernel, by decide +kernel, by decide +kernel, by decide +kernel⟩

/-- The chair A02 presses NEXT once and MIC three times, and holds PRIORITY: 0x86. -/
theorem test_witness_PollAnswerTaken_keys :
    let s := lineIs .running (doing (.exchange (.poll 2 false)) room)
    s.Calm ∧ OnLine .a (.poll 2 false) s ∧ (s.seat 1).kind = some .chair ∧ (s.seat 1).heldPriority = false
    ∧ (s.seat 1).heldMic = some 3 ∧ (s.seat 1).heldNext = some 0 ∧ (s.seat 1).heldCard = some 0
    ∧ ((0x86 : Byte).toNat % 4 + 4 - 3) % 4 = 3 ∧ ((0x86 : Byte).toNat / 4 % 4 + 4 - 0) % 4 = 1
    ∧ ((after (.pollAnswer .a (answer (pollReply 2 0x86 0 2 0))) s).seat 1).heldPriority = true
    ∧ (after (.pollAnswer .a (answer (pollReply 2 0x86 0 2 0))) s).floor.holders = [1] := by decide +kernel

theorem test_witness_PollAnswerTaken_returns :
    (lineIs .running probed).Calm ∧ (lineIs .running probed).floor.Sound
    ∧ OnLine (lineOfSeat 2) (.poll (positionOfSeat 2) true) (lineIs .running probed)
    ∧ ((lineIs .running probed).seat 2).presence = .lost
    ∧ Carries (pollReply 3 0x41 1 2 0) 94 (answer (pollReply 3 0x41 1 2 0)) ∧ (0x41 : Byte).getLsbD 7 = false := by
  refine ⟨by decide +kernel, sound_of_checks (by decide +kernel), by decide +kernel, by decide +kernel,
    ⟨⟨4, rfl, by decide⟩, by decide +kernel, by decide +kernel⟩, by decide⟩

/-- The chair A03 returns in the open room with PRIORITY held: 0x80. -/
def returning : State :=
  let s := State.modSeat (doing (.exchange (.poll 4 true)) room) 3 fun r =>
    { r with presence := .lost, kind := some .chair, defaultRole := 1, frozen := true }
  s

theorem test_witness_PollAnswerTaken_priority :
    returning.Calm ∧ returning.floor.Sound ∧ OnLine .a (.poll 4 true) returning
    ∧ (returning.seat 3).presence = .lost ∧ returning.speaking 3 = false ∧ returning.requesting 3 = false
    ∧ (returning.seat 3).card = ⟨.none, none, none, none, false⟩ ∧ (0x80 : Byte).getLsbD 7 = true
    ∧ (after (.pollAnswer .a (answer (pollReply 4 0x80 1 2 0))) returning).floor.holders = [3] := by
  and_intros <;> first | exact sound_of_checks (by decide +kernel) | decide +kernel

/-- The room with a poll of A01 on the line and a card part there, and a roster with one attendee bound where given. -/
def carded (c : CardPart) (bound : Option (Option SeatId)) : State :=
  let s := polled.modSeat 0 fun r => { r with card := c }
  { s with seq := { s.seq with
    roster := bound.map fun b => [⟨⟨[0x41], some [1, 2, 3, 4], none, none⟩, b, 0⟩] } }

/-- A card that has been read at A01, BOUND or in another state. -/
def readCard (x : CardState) : CardPart :=
  ⟨x, some [1, 2, 3, 4], some 0, if x = .bound then some 0 else none, false⟩

/-- The same with a DUPLICATE at A04. -/
def duplicated : State :=
  (carded (readCard .bound) (some (some 0))).modSeat 3 fun r =>
    { r with card := ⟨.duplicate, some [1, 2, 3, 4], some 0, some 0, false⟩ }

theorem test_witness_PollAnswerTaken_cards :
    (carded ⟨.none, none, none, none, false⟩ none).Calm ∧ (carded ⟨.none, none, none, none, true⟩ none).Calm
    ∧ (carded ⟨.reading, none, none, none, false⟩ none).Calm ∧ (carded (readCard .held) none).Calm
    ∧ (carded (readCard .bound) (some (some 0))).Calm ∧ duplicated.Calm
    ∧ soundChecks (carded (readCard .held) none).floor = true ∧ soundChecks duplicated.floor = true
    ∧ (polled.seat 0).heldMic = some ((0x43 : Byte).toNat % 4) ∧ (polled.seat 0).heldCard = some 0
    ∧ (0x53 : Byte).toNat / 16 % 4 ≠ 0 ∧ (0x43 : Byte).toNat / 16 % 4 = 0 ∧ (0x53 : Byte).getLsbD 6 = true
    ∧ (0x03 : Byte).getLsbD 6 = false := by
  and_intros <;> decide +kernel

/-- A speaker whose card is taken out is closed CARD_OUT, and the first DUPLICATE of its attendee is BOUND (R80, R81). -/
theorem test_cardOut :
    (after (.pollAnswer .a (answer (pollReply 1 0x03 0 1 0))) duplicated).log.records.map (·.reason) = [.cardOut]
    ∧ ((after (.pollAnswer .a (answer (pollReply 1 0x03 0 1 0))) duplicated).seat 3).card.state = .bound
    ∧ ((after (.pollAnswer .a (answer (pollReply 1 0x53 0 1 0))) (carded (readCard .held) none)).seat 0).card.state
        = .reading := by decide +kernel

/-- The room with a poll of the screen S-A1 on the line. -/
def screenPolled (p : Presence) : State :=
  State.modScreen (doing (.exchange (.poll 48 (decide (p = .lost)))) room) 0 fun c =>
    { c with presence := p, kind := some .screen }

theorem test_witness_PollAnswerTaken_screen :
    (∀ p ∈ [Presence.silent, .lost], (screenPolled p).Calm ∧ (screenPolled p).lineA.second = none)
    ∧ Carries (pollReply 48 0 0 3 0) 94 (answer (pollReply 48 0 0 3 0)) ∧ addressOf (.screen 0) = 48
    ∧ ((after (.pollAnswer .a (answer (pollReply 48 0 1 3 0))) (screenPolled .lost)).screen 0).presence = .present := by
  refine ⟨by decide +kernel, ⟨⟨4, rfl, by decide⟩, by decide +kernel, by decide +kernel⟩, by decide +kernel, by decide +kernel⟩

/-- The room with a FETCH at A01 on the line, the card READING. -/
def fetching : State :=
  State.modSeat (doing (.exchange (.fetch 0)) room) 0 fun r =>
    { r with card := ⟨.reading, none, none, none, false⟩ }

/-- The clean answer of an identity to a FETCH at address 1. -/
def identityAnswer (id : List Byte) : LineAnswer :=
  let n := BitVec.ofNat 8 id.length
  answer ([n] ++ id ++ [~~~(id.foldl (· + ·) (BitVec.ofNat 8 1 + 0x80 + n))])

/-- The same with a roster whose second attendee has that card. -/
def fetchingListed (bound : Option SeatId) : State :=
  let r : List RosterEntry :=
    [⟨⟨[0x41], none, none, none⟩, none, 0⟩, ⟨⟨[0x42], some [1, 2, 3, 4], none, none⟩, bound, 0⟩]
  { fetching with seq := { fetching.seq with roster := some r } }

theorem test_witness_FetchAnswerTaken :
    fetching.Calm ∧ OnLine .a (.fetch 0) fetching ∧ inService (fetching.seat 0).presence = true
    ∧ (fetching.seat 0).card.state = .reading ∧ fetching.seq.roster = none
    ∧ (∀ n ∈ [0, 3, 4, 16, 17], (judgeFetch 1 (identityAnswer (List.replicate n 7))).toOption
        = some (List.replicate n 7))
    ∧ (fetchingListed none).Calm ∧ (fetchingListed (some 9)).Calm
    ∧ ((fetchingListed none).seq.roster.bind fun r => r[1]?.bind fun x => x.attendee.card) = some [1, 2, 3, 4] := by
  and_intros <;> decide +kernel

/-- The same under an allowance of 60 seconds that the attendee has used up, and at a seat that needs a card. -/
def fetchingBarred : State :=
  let s := fetchingListed none
  { s with
    floor := { s.floor with policy := { Policy.walkIn with allowance := 60 } }
    seq := { s.seq with roster := s.seq.roster.map fun r => r.map fun x => { x with total := 60 } } }

theorem test_witness_FetchAnswerTaken_roles :
    fetching.floor.Sound ∧ fetching.effRole 0 = ⟨0, false⟩ ∧ (fetchingListed none).cardRole [1, 2, 3, 4] = 2
    ∧ speech 0 ∈ fetching.floor.speakers ∧ fetching.floor.isOpen = true ∧ fetchingBarred.Calm
    ∧ fetchingBarred.floor.Sound ∧ fetchingBarred.roles.defs[2].maySpeak = true
    ∧ (after (.fetchAnswer .a (identityAnswer [1, 2, 3, 4])) fetchingBarred).log.records.map (·.reason) = [.allowance]
    ∧ (after (.fetchAnswer .a (identityAnswer [1, 2, 3, 4])) (fetchingListed (some 9))).log.records.map (·.reason)
        = [.role] := by
  and_intros <;> first | exact sound_of_checks (by decide +kernel) | decide +kernel

/-- The room with an order on line A. -/
def ordering (u : Station) (c : OrderContent) (seg : Segment) (others : Nat) : State :=
  let s := doing (.exchange (.order u c seg)) room
  { s with lineA := { s.lineA with others := others } }

theorem test_witness_OrderAcknowledgedRecords :
    (ordering (.seat 0) .confirm .whole 3).Calm
    ∧ OnLine .a (.order (.seat 0) .confirm .whole) (ordering (.seat 0) .confirm .whole 3)
    ∧ (ordering (.seat 0) .confirm .whole 3).lineA.second = none
    ∧ inService ((ordering (.seat 0) .confirm .whole 3).presence (.seat 0)) = true
    ∧ (judgeOrder (orderCheck (.seat 0) .confirm .whole)
        (answer [orderCheck (.seat 0) .confirm .whole])).toOption = some () := by decide +kernel

/-- The room with level orders pending at A01, a CONFIRM at A02, a fetch at A03, displays at A04, and screen S-A1 with
two items, each by itself; and the round begun with its poll of address 1. -/
def pendingAt (n : Nat) : State :=
  let s := lineIs .running room
  if n = 0 then s.modSeat 0 fun r => { r with marks := { r.marks with mic := true }, targetMic := .gain 36 }
  else if n = 1 then s.modSeat 1 fun r => { r with marks := { r.marks with confirm := true } }
  else if n = 2 then s.modSeat 2 fun r => { r with fetchMark := true }
  else if n = 3 then s.modSeat 3 fun r => { r with marks := { r.marks with status := true, label := true } }
  else if n = 4 then s.modScreen 0 fun c => { c with
    presence := .present, itemMarks := (c.itemMarks.set 1 true).set 2 true }
  else { s with lineA := { s.lineA with round := ⟨0, true, false, 1, 0⟩ } }

/-- What the arbiter sends of these, the claims being the only ones. -/
theorem test_witness_OrderAcknowledgedRecords_turn :
    ((nextExchange .a (pendingAt 0)).line .a).activity = .exchange (.order (.seat 0) (.mic (.gain 36)) .whole)
    ∧ ((nextExchange .a (pendingAt 1)).line .a).activity = .exchange (.order (.seat 1) .confirm .whole)
    ∧ ((nextExchange .a (pendingAt 2)).line .a).activity = .exchange (.fetch 2)
    ∧ ((nextExchange .a (pendingAt 3)).line .a).activity
        = .exchange (.order (.seat 3) (.status ((pendingAt 3).statusKey 3) 0) .whole)
    ∧ ((nextExchange .a (pendingAt 4)).line .a).activity
        = .exchange (.order (.screen 0) (.item 1 ((pendingAt 4).itemKey 1) 0) .whole)
    ∧ ((nextExchange .a (pendingAt 5)).line .a).activity = .exchange (.poll 2 false) := by decide +kernel

/-- The hypotheses of the choice at those states. -/
theorem test_witness_OrderAcknowledgedRecords_claims :
    (∀ n < 6, ((pendingAt n).line .a).second = none ∧ ((pendingAt n).line .a).others < 4
      ∧ ((pendingAt n).line .a).urgentPtr = none)
    ∧ (pendingAt 0).urgentClaim (.seat 0) = true ∧ (pendingAt 1).urgentClaim (.seat 1) = true
    ∧ (∀ n ∈ [2, 3, 4], (∀ i : SeatId, (pendingAt n).urgentClaim (.seat i) = false)
        ∧ ∀ j : ScreenId, (pendingAt n).urgentClaim (.screen j) = false)
    ∧ (pendingAt 2).fetchDue (.seat 2) = true ∧ (pendingAt 3).bulkClaim (.seat 3) = true
    ∧ (pendingAt 4).bulkClaim (.screen 0) = true ∧ (pendingAt 4).servedAddresses .a = [1, 2, 3, 4, 48] := by
  decide +kernel

/-- A judgement is this failure. -/
def failsWith (k : FailureKind) {α : Type} : Except FailureKind α → Bool
  | .error x => decide (x = k)
  | .ok _ => false

theorem test_witness_ExchangeFailureIsMiss :
    polled.Calm ∧ polled.floor.Sound ∧ OnLine .a (.poll 1 false) polled ∧ polled.lineA.second = none
    ∧ polled.lineA.rescans = [] ∧ polled.lineA.sleepDue = false ∧ addressOf (.seat 0) = 1
    ∧ failsWith .noResponse (judgePoll 1 silence) = true
    ∧ false = decide (polled.presence (.seat 0) = .lost) ∧ polled.presence (.seat 0) = .present :=
  ⟨by decide +kernel, sound_of_checks (by decide +kernel), by decide +kernel⟩

theorem test_witness_ExchangeFailureIsMiss_others :
    fetching.Calm ∧ fetching.floor.Sound ∧ OnLine .a (.fetch 0) fetching
    ∧ failsWith .noResponse (judgeFetch 1 silence) = true
    ∧ (ordering (.seat 0) .confirm .whole 3).floor.Sound ∧ 3 ≤ (ordering (.seat 0) .confirm .whole 3).lineA.others
    ∧ failsWith .orderMismatch (judgeOrder 0x84 (answer [0x85])) = true ∧ orderFor (.seat 0) .confirm = true := by
  and_intros <;> first | exact sound_of_checks (by decide +kernel) | decide +kernel

/-- Line A with bit errors in a row. -/
def errors (n : Nat) (s : State) : State := { s with lineA := { s.lineA with consecutive := n } }

theorem test_witness_BitErrorAbandons :
    (∀ n ∈ [14, 15], (errors n polled).Calm ∧ (errors n polled).lineA.activity = .exchange (.poll 1 false)
      ∧ (errors n polled).lineA.consecutive = n)
    ∧ (doing (.gap (.poll 1 false)) room).Calm ∧ (lineIs .enumerating (doing (.gap .unassign) room)).Calm
    ∧ (doing (.gap (.fetch 0)) (ordering (.seat 0) .confirm .whole 4)).Calm
    ∧ (doing (.gap (.fetch 0)) (ordering (.seat 0) .confirm .whole 4)).servedAddresses .a ≠ [] := by
  and_intros <;> decide +kernel

/-- The second segment of an item that a bit error abandons counts among the four exchanges, and no other exchange does
(R193, R195, R197). -/
theorem test_abandonedCount :
    (after (.bitError .a) (ordering (.screen 0) (.item 0 .titleNone 0) .second 3)).lineA.others = 4
    ∧ (after (.bitError .a) (ordering (.screen 0) (.item 0 .titleNone 0) .first 3)).lineA.others = 3 := by decide +kernel

/-- Line A in enumeration, one seat found. -/
def enumerating (x : Exchange) : State :=
  let s := lineIs .enumerating (doing (.exchange x) ready)
  { s with lineA := { s.lineA with enumOwed := true, enumeration := ⟨2, 2, 1, false, 0, [.delegate], [48]⟩ } }

theorem test_witness_LineFaultLosesUnits :
    polled.Calm ∧ polled.floor.Sound ∧ polled.lineA.begun = false ∧ polled.lineA.activity ≠ .none
    ∧ polled.lineA.rescans = [] ∧ polled.lineA.reportOwed = false ∧ (errors 16 room).Calm
    ∧ 16 ≤ (errors 16 room).lineA.consecutive ∧ (enumerating (.assign 2)).Calm
    ∧ (enumerating (.assign 2)).floor.Sound ∧ (lineIs .waking ready).Calm ∧ ¬ 16 ≤ room.lineA.consecutive := by
  and_intros <;> first | exact sound_of_checks (by decide +kernel) | decide +kernel

/-- A START in flight: line B has reported, line A enumerates with a clear line to wait for. -/
def startingA : State :=
  let s := enumerating (.assign 2)
  { s with
    lineA := { s.lineA with reportOwed := true }
    lineB := { s.lineB with state := .running, reported := some ⟨.running, 3, [48]⟩ }
    link := { s.link with startTag := some 1 } }

/-- START keeps what a line reported at its FAULT, also after a retry has taken it up again (R175, R177, R212). -/
theorem test_witness_LineFaultLosesUnits_report :
    let t := after (.lineFault .a .shorted) startingA
    startingA.Calm ∧ startingA.floor.Sound ∧ startingA.lineA.reportOwed = true ∧ startingA.lineA.rescans = []
    ∧ startingA.lineA.activity ≠ .none ∧ startingA.lineA.begun = false ∧ startingA.clock = none
    ∧ startingA.lineB.reportOwed = false ∧ t.lineA.reported = some ⟨.fault, 1, []⟩ ∧ t.link.run = true
    ∧ (after (.lineRetryEnd .a .quiet) (after .secondEvent t)).lineA.state = .enumerating
    ∧ (after (.lineRetryEnd .a .quiet) (after .secondEvent t)).lineA.reported = some ⟨.fault, 1, []⟩ := by
  dsimp only
  and_intros <;> first | exact sound_of_checks (by decide +kernel) | decide +kernel

theorem test_witness_LinesWakeAndSleep :
    let w : State := { lineIs .waking ready with lineA := { (lineIs .waking ready).lineA with reportOwed := true } }
    let d : State := doing (.exchange .sleep) room
    (lineIs .asleep ready).Calm ∧ (lineIs .asleep ready).lineA.state = .asleep ∧ w.Calm ∧ w.lineA.reportOwed = true
    ∧ (lineIs .waking room).Calm ∧ (lineIs .waking room).lineA.reportOwed = false
    ∧ (lineIs .waking room).servedAddresses .a = [1, 2, 3, 4] ∧ d.Calm ∧ OnLine .a .sleep d
    ∧ d.lineA.sleepDue = false ∧ ({ d.lineA with sleepDue := true } : Line).activity = .exchange .sleep := by
  dsimp only
  and_intros <;> decide +kernel

/-- Line A in FAULT, a retry made, with some seats known. -/
def retrying (seats : Nat) (owed : Bool) : State :=
  let s := State.modSeat (lineIs .fault (doing .retry running)) 0 fun r => { r with presence := .lost }
  { s with lineA := { s.lineA with seatsFound := seats, enumOwed := owed, cause := some .bitErrors } }

theorem test_witness_RetryEndsFault :
    (∀ owed, (retrying 0 owed).Calm ∧ (retrying 0 owed).lineA.state = .fault
      ∧ (retrying 0 owed).lineA.activity = .retry ∧ (retrying 0 owed).lineA.rescans = [])
    ∧ (retrying 0 false).lineA.screensFound = [] ∧ (retrying 1 false).Calm
    ∧ stationAt .a 1 = some (.seat 0) ∧ (retrying 1 false).presence (.seat 0) = .lost
    ∧ (judgePoll 1 (answer (pollReply 1 0 1 1 0))).toOption.isSome = true
    ∧ (after (.lineRetryEnd .a .pulseLost) (retrying 1 false)).lineA.cause = some .bitErrors
    ∧ failsWith .noResponse (judgePoll 1 silence) = true ∧ (lineIs .fault ready).lineA.activity ≠ .retry := by
  and_intros <;> decide +kernel

theorem test_witness_RescanLosesUnits :
    room.Ready ∧ room.link.run = true ∧ room.lineA.state = .running ∧ room.lineA.rescans = []
    ∧ room.lineA.activity = .none ∧ room.lineA.second = none ∧ room.floor.Sound ∧ polled.Ready
    ∧ (lineIs .asleep room).Ready ∧ (lineIs .waking room).Ready ∧ (lineIs .enumerating room).Ready ∧ ready.Ready := by
  and_intros <;> first | exact room_ready | exact sound_of_checks (by decide +kernel) | exact ready_ready | decide +kernel

/-- A RESCAN that waits on line A. -/
def rescanning (s : State) : State := { s with lineA := { s.lineA with rescans := [3] } }

theorem test_witness_RescanLosesUnits_second :
    (rescanning polled).Ready ∧ (rescanning polled).floor.Sound ∧ (rescanning polled).link.run = true
    ∧ (rescanning (lineIs .waking room)).Ready
    ∧ (after (.rescan 4 [0]) (rescanning polled)).lineA.rescans = [3, 4]
    ∧ result (.rescan 4 [0]) (rescanning (lineIs .waking room)) = some 6 := by
  and_intros <;> first | exact sound_of_checks (by decide +kernel) | decide +kernel

theorem test_witness_EnumerationSteps :
    (∀ x ∈ [Exchange.unassign, .assign 2, .assign 32, .confirmPoll 2, .screenPoll 48, .screenPoll 49],
      (enumerating x).Calm ∧ (enumerating x).lineA.state = .enumerating
        ∧ (enumerating x).lineA.activity = .exchange x)
    ∧ (judgeAssign 2 (answer [1, ~~~(0xFF + 2 + 0 + 1)])).toOption.isSome = true
    ∧ failsWith .noResponse (judgeAssign 2 silence) = true ∧ failsWith .noResponse (judgePoll 48 silence) = true
    ∧ failsWith .incomplete (judgePoll 49 (answer [1])) = true
    ∧ (enumerating (.screenPoll 49)).lineA.enumeration.polls < 2
    ∧ (judgePoll 48 (answer (pollReply 48 0 1 3 0))).toOption.isSome = true := by
  and_intros <;> decide +kernel

theorem test_witness_EnumerationEnds :
    (enumerating (.screenPoll 49)).Calm ∧ (enumerating (.screenPoll 49)).floor.Sound
    ∧ (enumerating (.screenPoll 49)).lineA.second = none
    ∧ (∀ f, judgePoll 49 silence = .error f → f = .noResponse ∨ 2 ≤ (0 : Nat))
    ∧ (enumerating (.screenPoll 49)).lineA.enumeration.kinds.length ≤ 32
    ∧ (enumerating (.screenPoll 49)).clock = none
    ∧ State.NothingDue { enumerating (.screenPoll 49) with
        clock := some 59940, seq := { Sequencer.initial with resumeMark := false } } :=
  ⟨by decide +kernel, sound_of_checks (by decide +kernel), by decide +kernel,
    fun f h => by cases h; exact .inl rfl, by decide +kernel⟩

/-- Two RESCANs that wait are answered by one enumeration. -/
theorem test_witness_EnumerationEnds_rescans :
    (rescanning (enumerating (.screenPoll 49))).Calm ∧ (rescanning (enumerating (.screenPoll 49))).link.startTag = none
    ∧ (after (.screenPoll .a silence) (rescanning (enumerating (.screenPoll 49)))).lineA.rescans = []
    ∧ (after (.screenPoll .a silence) (rescanning (enumerating (.screenPoll 49)))).link.onLine.map (·.frame.tag)
        = some 3 := by decide +kernel

/-! ### Roles, forms and invariants -/

/-- A filter entry that takes identities of 4 bytes that begin with 1. -/
def filtered : State := { ready with roles := { ready.roles with
  filters := ready.roles.filters.set 3 ⟨true, [1, 0, 0, 0, 0, 0, 0, 0], [255, 0, 0, 0, 0, 0, 0, 0], some 4, 1⟩ } }

theorem test_witness_CardAndSeatRoles :
    filtered.roles.filters[(3 : Fin 16)].enabled = true ∧ ([1, 2, 3, 4] : List Byte).length = 4
    ∧ (∀ m : Fin 16, m < 3 → filtered.roles.filters[m].enabled = false)
    ∧ (∀ n : Fin 16, ready.roles.filters[n].enabled = false)
    ∧ (barred.seat 0).card.state = .bound ∧ (barred.seat 0).card.role = some 0
    ∧ (room.seat 0).card.state = .none ∧ room.seq.roster = none := by decide +kernel

/-- A change that gives A01 a host label and role 1, and closes the floor of a room with a screen. -/
theorem test_witness_CardAndSeatRoles_change :
    let s := pendingAt 4
    let t := change (fun s => closeFloor (s.modSeat 0 fun r => { r with defaultRole := 1, hostLabel := some [0x41] })) s
    t.effRole 0 ≠ s.effRole 0 ∧ 0 ∈ t.link.marks.seats ∧ inService (t.seat 0).presence = true
    ∧ t.labelOf 0 ≠ s.labelOf 0 ∧ t.statusKey 0 ≠ s.statusKey 0 ∧ (t.seat 0).labelSent = none
    ∧ (t.seat 0).marks.label = true ∧ (t.seat 0).marks.status = true
    ∧ t.itemKey 2 ≠ s.itemKey 2 ∧ inService (t.screen 0).presence = true := by decide +kernel

/-- The label of a speaking seat has the speaker slots re-evaluated alone, and that of a waiting seat the queue slots
(R152). -/
theorem test_slotsDue :
    let named := fun i : SeatId => room.modSeat i fun r => { r with hostLabel := some [0x41] }
    (itemsDue room (named 0) 2 = true ∧ itemsDue room (named 0) 10 = false)
    ∧ itemsDue room (named 2) 2 = false ∧ itemsDue room (named 2) 10 = true
    ∧ room.floorReport = (named 0).floorReport := by decide +kernel

/-- A refused press that leaves its seat the code it had has the seat's status re-evaluated (R149). -/
theorem test_refusedAgain :
    let s := room.modSeat 1 fun r => { r with refusal := some .noneWaiting }
    let t := keyEvent 1 true (nextPress 1) { s with floor := { s.floor with requests := [] } }
    (t.seat 1).refusal = some .noneWaiting ∧ inService (t.seat 1).presence = true
    ∧ (t.seat 1).statusSent = none ∧ (t.seat 1).marks.status = true := by decide +kernel

theorem test_witness_BookingFormsReadBack : Policy.walkIn.Carried ∧ five.Carried := ⟨five_carried.policy, five_carried⟩

theorem test_witness_FloorSoundKept :
    ({ room with pending := [.speechWarning 0] } : State).FloorSound
    ∧ (match step { room with pending := [.speechWarning 0] } with | .next _ => true | _ => false) = true :=
  ⟨⟨sound_of_checks (by decide +kernel), by decide +kernel⟩, by decide +kernel⟩

theorem test_witness_CapacitiesKept : room.link.Sound ∧ room.log.Sound ∧ State.reset.link.Sound :=
  ⟨⟨by decide +kernel, by decide +kernel, by decide +kernel, by decide +kernel, by decide +kernel⟩,
    ⟨by decide +kernel, by decide +kernel⟩,
    ⟨by decide +kernel, by decide +kernel, by decide +kernel, by decide +kernel, by decide +kernel⟩⟩

end Sys2Proof.Tests
end

section
/-! The rules of the floor: what holds after power-on, and a step that breaks the class of an entry. -/

open Sys2Proof Sys2Proof.Machine

namespace Sys2Proof.Machine

/-! ## After power-on -/

theorem Floor.initial_sound : Floor.initial.Sound where
  chairs := by decide
  others := by decide
  requestCount := by decide
  once := .nil
  ordered := .nil
  holdersOnce := .nil
  holdersSpeak := by simp [Floor.initial]
  mutingHeld := by simp [Floor.initial]
  muted := by simp [Floor.initial]
  closed := by simp [Floor.initial]

theorem HostLink.initial_sound : HostLink.initial.Sound where
  queue := by decide
  rejects := by decide
  lostRejects := by decide
  outstanding := by decide
  busy := fun _ => rfl

/-- Settles O60: the floor and the log are empty and the link holds no frame. -/
theorem soundAfterPowerOn : Obligations.SoundAfterPowerOn :=
  ⟨⟨Floor.initial_sound, by simp [State.reset, Floor.initial]⟩, HostLink.initial_sound, ⟨by decide, by decide⟩⟩

theorem reset_seat (i : SeatId) : State.reset.seat i = SeatRec.initial := by
  simp [State.seat, State.reset]

theorem reset_screen (j : ScreenId) : State.reset.screen j = ScreenRec.initial := by
  simp [State.screen, State.reset]

theorem reset_line (l : LineId) : State.reset.line l = Line.initial := by
  cases l <;> rfl

theorem RoleUnit.initial_filter (n : Fin 16) : RoleUnit.initial.filters[n] = FilterEntry.initial := by
  simp [RoleUnit.initial]

/-- Settles O2: each block after power-on is the named initial value of its kind, and every seat, screen, filter and
line has the same one. -/
theorem powerOnValues : Obligations.PowerOnValues := by
  unfold Obligations.PowerOnValues
  intro s
  have hseat : ∀ i, s.seat i = SeatRec.initial := reset_seat
  have hscreen : ∀ j, s.screen j = ScreenRec.initial := reset_screen
  have hline : ∀ l, s.line l = Line.initial := reset_line
  have hfilter : ∀ n : Fin 16, s.roles.filters[n] = FilterEntry.initial := RoleUnit.initial_filter
  simp only [hseat, hscreen, hline, hfilter]
  refine ⟨rfl, rfl, rfl, rfl, rfl, rfl, rfl, rfl, rfl, rfl, rfl, rfl, rfl, by decide, by decide, fun _ => rfl,
    fun _ => by and_intros <;> rfl, fun _ => ⟨rfl, rfl, rfl, rfl, rfl, fun k => by simp [ScreenRec.initial]⟩,
    rfl, rfl, rfl, rfl, rfl, rfl, rfl, rfl, rfl, rfl, rfl, rfl, rfl, rfl, rfl, rfl, rfl, rfl,
    fun _ => by and_intros <;> rfl, ?_⟩
  and_intros <;> rfl

/-! ## A card cleared twice in one change -/

/-- The card part of a seat whose card names the one attendee of `twiceUnbound`. -/
def CardPart.naming (c : CardState) : CardPart := ⟨c, none, some 0, some 0, false⟩

/-- An open floor, A02 speaking and B01 waiting, with 16 bit errors in a row on line A as it enumerates. The one
attendee of the roster gives B01, which has no card, the role CHAIR as long as the attendee is bound nowhere. A01 holds
a BOUND card of the attendee and A03 a DUPLICATE one, while the roster has the attendee bound nowhere. -/
def State.twiceUnbound : State :=
  let s : State := { State.reset with
    floor := { Floor.initial with
      isOpen := true
      speakers := [⟨1, 0, 0, 0, false, false, false, false, false⟩]
      requests := [⟨32, 0, 0⟩] }
    seq := { Sequencer.initial with roster := some [⟨⟨[], none, some 32, some 1⟩, none, 0⟩] }
    lineA := { Line.initial with state := .enumerating, consecutive := 16 }
    pending := [.lineFault .a .bitErrors] }
  ((s.modSeat 0 fun r => { r with card := .naming .bound }).modSeat 2
    fun r => { r with card := .naming .duplicate }).modSeat 32 fun r => { r with presence := .present }

/-- The state after the FAULT of line A in `State.twiceUnbound`. -/
def State.twiceUnboundNext : State :=
  match step State.twiceUnbound with
  | .next t => t
  | _ => State.twiceUnbound

theorem step_twiceUnbound : step State.twiceUnbound = .next State.twiceUnboundNext := rfl

theorem twiceUnbound_floorSound : State.twiceUnbound.FloorSound where
  floor := {
    chairs := by decide
    others := by decide
    requestCount := by decide
    once := by decide
    ordered := by simp [State.twiceUnbound, Floor.initial]
    holdersOnce := .nil
    holdersSpeak := by simp [State.twiceUnbound, Floor.initial]
    mutingHeld := by simp [State.twiceUnbound, Floor.initial]
    muted := by decide
    closed := by simp [State.twiceUnbound, Floor.initial] }
  classes := by decide +kernel

/-- B01 speaks as an ordinary seat, though its effective role is the CHAIR's. -/
theorem twiceUnboundNext_classes : ¬ ∀ e ∈ State.twiceUnboundNext.floor.speakers, e.chairClass =
    State.twiceUnboundNext.roles.defs[(State.twiceUnboundNext.effRole e.seat).number].chairClass := by
  decide +kernel

/-- Refutes O58: the class of an entry is lost when a role changes and changes back within one change. The FAULT of line
A in `State.twiceUnbound` makes the seats A01 to A32 ABSENT one after the other. Clearing A01 binds the attendee at A03,
which takes the role CHAIR from B01; closing A02 then opens B01 as an ordinary entry; clearing A03 leaves the attendee
unbound, which gives B01 the role CHAIR again. Its role before and after the change is the same, so R86 and R87 do not
look at its entry. `State.FloorSound` does not say that the roster's bindings agree with the seats' cards, which this
state breaks. -/
theorem not_floorSoundKept : ¬ Obligations.FloorSoundKept := by
  intro h
  exact twiceUnboundNext_classes (h _ _ twiceUnbound_floorSound step_twiceUnbound).classes

end Sys2Proof.Machine
end

section
/-! What an operation of the floor leaves: the roles, the cards and the meeting, so that eligibility and effective
roles stay as they were. -/

open Sys2Proof Sys2Proof.Machine

namespace Sys2Proof.Machine

/-! ## Steady states -/

/-- A seat record less its refusal code. -/
def SeatRec.unrefused (r : SeatRec) : SeatRec := { r with refusal := none }

/-- A floor operation leads from `s` to `t`: beside the lists, the holders, the muting mark and the counters of the
floor, only the log, the refusal codes, the notice marks and the close summary may differ (R7 to R13). -/
structure Steady (s t : State) : Prop where
  outer : t.outer = s.outer
  seq : t.seq = s.seq
  seats : ∀ i, (t.seat i).unrefused = (s.seat i).unrefused
  policy : t.floor.policy = s.floor.policy
  isOpen : t.floor.isOpen = s.floor.isOpen

theorem Steady.refl (s : State) : Steady s s := ⟨rfl, rfl, fun _ => rfl, rfl, rfl⟩

theorem Steady.trans {s t u : State} (h : Steady s t) (k : Steady t u) : Steady s u where
  outer := k.outer.trans h.outer
  seq := k.seq.trans h.seq
  seats i := (k.seats i).trans (h.seats i)
  policy := k.policy.trans h.policy
  isOpen := k.isOpen.trans h.isOpen

/-- A choice between two steady outcomes. -/
theorem Steady.ite {s t u : State} {c : Prop} [Decidable c] (h : Steady s t) (k : Steady s u) :
    Steady s (if c then t else u) := by
  split
  · exact h
  · exact k

/-- A fold of steady steps. -/
theorem Steady.foldl {α : Type} {f : State → α → State} (h : ∀ s a, Steady s (f s a)) (l : List α) (s : State) :
    Steady s (l.foldl f s) := by
  induction l generalizing s with
  | nil => exact .refl s
  | cons a l ih => exact (h s a).trans (ih _)

/-! ## What a steady state reads the same -/

namespace Steady

variable {s t : State} (h : Steady s t)
include h

theorem roles : t.roles = s.roles := outer_roles h.outer
theorem clock : t.clock = s.clock := outer_clock h.outer
theorem card (i : SeatId) : (t.seat i).card = (s.seat i).card := congrArg (·.card) (h.seats i)
theorem presence (i : SeatId) : (t.seat i).presence = (s.seat i).presence := congrArg (·.presence) (h.seats i)
theorem kind (i : SeatId) : (t.seat i).kind = (s.seat i).kind := congrArg (·.kind) (h.seats i)
theorem defaultRole (i : SeatId) : (t.seat i).defaultRole = (s.seat i).defaultRole :=
  congrArg (·.defaultRole) (h.seats i)

theorem rosterEntry (a : Nat) : t.rosterEntry a = s.rosterEntry a := by simp [State.rosterEntry, h.seq]

theorem rosterEntry_eq : t.rosterEntry = s.rosterEntry := funext h.rosterEntry

theorem assignedAttendee (i : SeatId) : t.assignedAttendee i = s.assignedAttendee i := by
  simp [State.assignedAttendee, h.seq]

theorem uncardedRole (i : SeatId) : t.uncardedRole i = s.uncardedRole i := by
  simp [State.uncardedRole, h.assignedAttendee, h.defaultRole]

theorem effRole (i : SeatId) : t.effRole i = s.effRole i := by
  simp [State.effRole, h.card, h.defaultRole, h.policy, h.uncardedRole, h.rosterEntry_eq]

theorem seatDef (i : SeatId) : t.seatDef i = s.seatDef i := by
  simp [State.seatDef, State.roleDef, h.roles, h.effRole]

theorem roleKey (i : SeatId) : t.roleKey i = s.roleKey i := by
  simp [State.roleKey, State.roleDef, h.roles, h.effRole]

theorem boundAttendee (i : SeatId) : t.boundAttendee i = s.boundAttendee i := by
  simp [State.boundAttendee, h.card]

theorem boundAttendee_eq : t.boundAttendee = s.boundAttendee := funext h.boundAttendee

theorem attendeeBarred (i : SeatId) : t.attendeeBarred i = s.attendeeBarred i := by
  simp [State.attendeeBarred, h.boundAttendee, h.rosterEntry_eq, h.policy]

theorem barred (i : SeatId) : t.barred i = s.barred i := by
  simp [State.barred, h.attendeeBarred, h.seatDef]

theorem eligibleToSpeak (i : SeatId) : t.eligibleToSpeak i = s.eligibleToSpeak i := by
  simp [State.eligibleToSpeak, h.presence, h.effRole, h.seatDef, h.barred]

theorem eligibleToRequest (i : SeatId) : t.eligibleToRequest i = s.eligibleToRequest i := by
  simp [State.eligibleToRequest, h.presence, h.effRole, h.seatDef, h.barred]

theorem refusalFor (i : SeatId) : t.refusalFor i = s.refusalFor i := by
  simp [State.refusalFor, h.card, h.effRole, h.barred]

theorem logRecordFor (a : Option Nat) (e : SpeakerEntry) (r : CloseReason) :
    t.logRecordFor a e r = s.logRecordFor a e r := by simp [State.logRecordFor, h.seq]

theorem logRecord (e : SpeakerEntry) (r : CloseReason) : t.logRecord e r = s.logRecord e r := by
  simp [State.logRecord, h.boundAttendee, h.logRecordFor]

end Steady

/-! ## Writes -/

theorem Steady.ofSeats {s t : State} (ho : t.outer = s.outer) (hq : t.seq = s.seq) (hf : t.floor = s.floor)
    (hs : ∀ i, (t.seat i).unrefused = (s.seat i).unrefused) : Steady s t :=
  ⟨ho, hq, hs, by rw [hf], by rw [hf]⟩

theorem Steady.ofFloor {s : State} {f : Floor} (hp : f.policy = s.floor.policy) (ho : f.isOpen = s.floor.isOpen) :
    Steady s (s.setFloor f) := ⟨rfl, rfl, fun _ => rfl, hp, ho⟩

theorem refuse_steady (i : SeatId) (c : RefusalCode) (s : State) : Steady s (refuse i c s) :=
  .ofSeats rfl rfl rfl fun j => by
    unfold refuse
    rw [State.modSeat_seat]
    split
    · next h => rw [h]; rfl
    · rfl

theorem clearRefusal_steady (i : SeatId) (s : State) : Steady s (clearRefusal i s) :=
  .ofSeats rfl rfl rfl fun j => by
    unfold clearRefusal
    rw [State.modSeat_seat]
    split
    · next h => rw [h]; rfl
    · rfl

theorem setSpeakers_steady (l : List SpeakerEntry) (s : State) : Steady s (setSpeakers l s) := .ofFloor rfl rfl
theorem setRequests_steady (l : List RequestEntry) (s : State) : Steady s (setRequests l s) := .ofFloor rfl rfl
theorem modSpeaker_steady (i : SeatId) (f : SpeakerEntry → SpeakerEntry) (s : State) : Steady s (modSpeaker i f s) :=
  setSpeakers_steady _ s
theorem unmuteAll_steady (s : State) : Steady s (unmuteAll s) := .ofFloor rfl rfl
theorem logSpeech_steady (a : Option Nat) (e : SpeakerEntry) (r : CloseReason) (s : State) :
    Steady s (logSpeech a e r s) := .ofSeats rfl rfl rfl fun _ => rfl
theorem noteClose_steady (i : SeatId) (r : CloseReason) (s : State) : Steady s (noteClose i r s) :=
  .ofSeats rfl rfl rfl fun _ => rfl
theorem markSpeech_steady (i : SeatId) (s : State) : Steady s (markSpeech i s) :=
  .ofSeats rfl rfl rfl fun _ => rfl

/-! ## The shared steps -/

theorem dropHolder_steady (i : SeatId) (s : State) : Steady s (dropHolder i s) := by
  unfold dropHolder
  split
  · have h : Steady s (s.setFloor { s.floor with holders := s.floor.holders.filter fun j => !(j == i) }) :=
      .ofFloor rfl rfl
    exact .ite (h.trans (unmuteAll_steady _)) h
  · exact .refl s

theorem openSeat_steady (i : SeatId) (s : State) : Steady s (openSeat i s) := by
  have h : Steady s (clearRefusal i (s.setFloor { s.floor with
      speakers := s.floor.speakers ++ [s.newSpeaker i]
      requests := s.floor.requests.filter (fun r => !(r.seat == i))
      speechCount := s.floor.speechCount + 1 })) :=
    (Steady.ofFloor (f := { s.floor with
      speakers := s.floor.speakers ++ [s.newSpeaker i]
      requests := s.floor.requests.filter (fun r => !(r.seat == i))
      speechCount := s.floor.speechCount + 1 }) rfl rfl).trans (clearRefusal_steady i _)
  exact .ite (h.trans (markSpeech_steady i _)) h

theorem closeSeatAs_steady (w : SeatId → Option Nat) (r : CloseReason) (i : SeatId) (s : State) :
    Steady s (closeSeatAs w r i s) := by
  unfold closeSeatAs
  split
  · exact .refl s
  · next e _ =>
    exact ((((logSpeech_steady (w i) e r s).trans (noteClose_steady i r _)).trans (setSpeakers_steady _ _)).trans
      (clearRefusal_steady i _)).trans (dropHolder_steady i _)

theorem closeSeat_steady (r : CloseReason) (i : SeatId) (s : State) : Steady s (closeSeat r i s) :=
  closeSeatAs_steady _ r i s

theorem withdrawSeat_steady (i : SeatId) (s : State) : Steady s (withdrawSeat i s) :=
  .ite ((setRequests_steady _ s).trans (clearRefusal_steady i _)) (.refl s)

theorem closeOldest_steady (r : CloseReason) (s : State) : Steady s (closeOldest r s) := by
  unfold closeOldest
  split
  · exact closeSeat_steady r _ s
  · exact .refl s

theorem grantHeadLoop_steady (fuel : Nat) (r : Option CloseReason) (s : State) :
    Steady s (grantHeadLoop fuel r s).2 := by
  induction fuel generalizing s with
  | zero => exact .refl s
  | succ n ih =>
    unfold grantHeadLoop
    split
    · exact .refl s
    · next q _ _ =>
      split
      · exact ((withdrawSeat_steady q.seat s).trans (refuse_steady q.seat .notPermitted _)).trans (ih _)
      · split
        · exact openSeat_steady q.seat s
        · split
          · next reason =>
            split
            · exact .refl s
            · exact (closeOldest_steady reason s).trans (openSeat_steady q.seat _)
          · exact .refl s

theorem grantHead_steady (r : Option CloseReason) (s : State) : Steady s (grantHead r s).2 :=
  grantHeadLoop_steady _ r s

theorem advance_steady (s : State) : Steady s (advance s) := by
  unfold advance
  split
  · exact .ite (.refl s) (grantHead_steady none s)
  · exact .ite (grantHead_steady none s) (.refl s)

theorem closeAdvanceAs_steady (w : SeatId → Option Nat) (r : CloseReason) (i : SeatId) (s : State) :
    Steady s (closeAdvanceAs w r i s) := by
  unfold closeAdvanceAs
  split
  · exact .refl s
  · exact .ite (closeSeatAs_steady w r i s) ((closeSeatAs_steady w r i s).trans (advance_steady _))

theorem closeAdvance_steady (r : CloseReason) (i : SeatId) (s : State) : Steady s (closeAdvance r i s) :=
  closeAdvanceAs_steady _ r i s

theorem closeAll_steady (r : CloseReason) (l : List SeatId) (s : State) : Steady s (closeAll r l s) :=
  .foldl (fun s i => closeSeat_steady r i s) l s

theorem emptyRequests_steady (s : State) : Steady s (emptyRequests s) :=
  .foldl (fun s (r : RequestEntry) => withdrawSeat_steady r.seat s) _ s

/-! ## The speech timer and SET_FLOOR -/

theorem setTiming_steady (i : SeatId) (w o : Bool) (s : State) : Steady s (setTiming i w o s) := by
  unfold setTiming
  split
  · exact .refl s
  · exact .ite (.refl s) ((modSpeaker_steady i _ s).trans (markSpeech_steady i _))

theorem warningCheck_steady (i : SeatId) (s : State) : Steady s (warningCheck i s) := by
  unfold warningCheck
  split
  · exact .refl s
  · exact .ite (setTiming_steady i _ _ s) (.refl s)

theorem limitCheckAs_steady (w : SeatId → Option Nat) (i : SeatId) (s : State) : Steady s (limitCheckAs w i s) := by
  unfold limitCheckAs
  split
  · exact .refl s
  · split
    · split
      · exact closeAdvanceAs_steady w _ i s
      · exact setTiming_steady i _ _ s
    · exact .refl s

theorem allowanceCheckAs_steady (w : SeatId → Option Nat) (i : SeatId) (s : State) :
    Steady s (allowanceCheckAs w i s) := by
  unfold allowanceCheckAs
  split
  · exact .refl s
  · exact .ite (closeAdvanceAs_steady w _ i s) (.refl s)

theorem barCheckAs_steady (w : SeatId → Option Nat) (i : SeatId) (s : State) : Steady s (barCheckAs w i s) :=
  .ite (allowanceCheckAs_steady w i s)
    (.ite ((withdrawSeat_steady i s).trans (refuse_steady i .timeUsed _)) (.refl s))

theorem timingCheckAs_steady (w : SeatId → Option Nat) (i : SeatId) (s : State) : Steady s (timingCheckAs w i s) :=
  ((allowanceCheckAs_steady w i s).trans (limitCheckAs_steady w i _)).trans (warningCheck_steady i _)

theorem policyCheck_steady (s : State) (e : SpeakerEntry) : Steady s (policyCheck s e) := by
  unfold policyCheck
  split
  · exact .refl s
  · refine .ite (.refl s) (.ite (closeAdvance_steady _ _ s) (.ite (setTiming_steady _ _ _ s) (.ite ?_ ?_)))
    · split
      · exact closeAdvance_steady _ _ s
      · exact setTiming_steady _ _ _ s
    · exact setTiming_steady _ _ _ s

theorem policyChecks_steady (s : State) : Steady s (policyChecks s) :=
  (Steady.foldl policyCheck_steady _ s).trans (.foldl (fun s (r : RequestEntry) => barCheckAs_steady _ r.seat s) _ _)

theorem closeExcess_steady (s : State) : Steady s (closeExcess s) := closeAll_steady _ _ s

theorem drainRequests_steady (fuel : Nat) (s : State) : Steady s (drainRequests fuel s) := by
  induction fuel generalizing s with
  | zero => exact .refl s
  | succ n ih =>
    unfold drainRequests
    have h := grantHead_steady none s
    split
    · next heq => rw [heq] at h; exact h.trans (ih _)
    · next heq => rw [heq] at h; exact h

/-! ## Role changes -/

theorem becomeChair_steady (w : SeatId → Option Nat) (i : SeatId) (s : State) : Steady s (becomeChair w i s) :=
  .ite ((setTiming_steady i _ _ s).trans (modSpeaker_steady i _ _)) (closeAdvanceAs_steady w _ i s)

theorem ceaseChair_steady (w : SeatId → Option Nat) (i : SeatId) (s : State) : Steady s (ceaseChair w i s) :=
  .ite (((dropHolder_steady i s).trans (modSpeaker_steady i _ _)).trans (timingCheckAs_steady w i _))
    ((dropHolder_steady i s).trans (closeSeatAs_steady w _ i _))

theorem requestRolePass_steady (c : SeatId → Bool) (s : State) (r : RequestEntry) :
    Steady s (requestRolePass c s r) :=
  .ite (.ite ((withdrawSeat_steady r.seat s).trans (refuse_steady r.seat _ _)) (.ite (setRequests_steady _ s) (.refl s)))
    (.refl s)

theorem speakerRolePass_steady (w : SeatId → Option Nat) (c : SeatId → Bool) (s : State) (e : SpeakerEntry) :
    Steady s (speakerRolePass w c s e) := by
  unfold speakerRolePass
  split
  · exact .refl s
  · exact .ite (.refl s) (.ite (closeAdvanceAs_steady w _ _ s)
      ((Steady.ite (.refl s) (.ite (becomeChair_steady w _ s) (ceaseChair_steady w _ s))).trans
        (allowanceCheckAs_steady w _ _)))

theorem roleConsequences_steady (s0 s1 : State) : Steady s1 (roleConsequences s0 s1) :=
  .ite (.refl s1) (((Steady.foldl (requestRolePass_steady _) _ s1).trans
    (.foldl (speakerRolePass_steady _ _) _ _)).trans (.foldl (fun s i => barCheckAs_steady _ i s) _ _))

end Sys2Proof.Machine
end

section
/-! What the operations of the floor do to its lists, to the log and to the refusal codes, one equation for each. -/

open Sys2Proof Sys2Proof.Machine

namespace Sys2Proof.Machine

/-! ## Reading the lists -/

theorem not_seat_beq (i j : SeatId) : (!(j == i)) = decide (j ≠ i) := by
  by_cases h : j = i <;> simp [h]

theorem speaking_iff (s : State) (i : SeatId) : s.speaking i = true ↔ ∃ e ∈ s.floor.speakers, e.seat = i := by
  simp [State.speaking]

theorem not_speaking_iff (s : State) (i : SeatId) : s.speaking i = false ↔ ∀ e ∈ s.floor.speakers, e.seat ≠ i := by
  simp [State.speaking]

theorem requesting_iff (s : State) (i : SeatId) : s.requesting i = true ↔ ∃ r ∈ s.floor.requests, r.seat = i := by
  simp [State.requesting]

theorem not_requesting_iff (s : State) (i : SeatId) :
    s.requesting i = false ↔ ∀ r ∈ s.floor.requests, r.seat ≠ i := by
  simp [State.requesting]

theorem speaking_of_floor {s t : State} (h : t.floor = s.floor) (i : SeatId) : t.speaking i = s.speaking i := by
  simp [State.speaking, h]

theorem find?_seat_of_mem {l : List SpeakerEntry} (hn : (l.map (·.seat)).Nodup) {e : SpeakerEntry} (he : e ∈ l) :
    l.find? (fun x => x.seat == e.seat) = some e := by
  induction l with
  | nil => simp at he
  | cons x l ih =>
    obtain ⟨hx, hl⟩ := List.nodup_cons.mp hn
    rcases List.mem_cons.mp he with rfl | he
    · simp
    · have : x.seat ≠ e.seat := fun h => hx (List.mem_map.mpr ⟨e, he, h.symm⟩)
      simpa [this] using ih hl he

/-- A seat's entry is the one entry that names it. -/
theorem speaker_of_mem {s : State} (hn : (s.floor.speakers.map (·.seat)).Nodup) {e : SpeakerEntry}
    (he : e ∈ s.floor.speakers) : s.speaker e.seat = some e := find?_seat_of_mem hn he

theorem speaker_eq_none_iff (s : State) (i : SeatId) : s.speaker i = none ↔ s.speaking i = false := by
  simp [State.speaker, State.speaking]

/-! ## The rules of the floor, read -/

namespace Floor.Sound

variable {f : Floor} (h : f.Sound)
include h

theorem speakersOnce : (f.speakers.map (·.seat)).Nodup := (List.nodup_append.mp h.once).1

theorem requestsOnce : (f.requests.map (·.seat)).Nodup := (List.nodup_append.mp h.once).2.1

/-- A seat that waits does not speak (R4). -/
theorem requester_not_speaker {r : RequestEntry} (hr : r ∈ f.requests) {e : SpeakerEntry} (he : e ∈ f.speakers) :
    e.seat ≠ r.seat :=
  (List.nodup_append.mp h.once).2.2 _ (List.mem_map_of_mem he) _ (List.mem_map_of_mem hr)

/-- Two entries of one seat are the same entry (R4). -/
theorem entry_unique {e e' : SpeakerEntry} (he : e ∈ f.speakers) (he' : e' ∈ f.speakers) (hs : e.seat = e'.seat) :
    e = e' := List.inj_on_of_nodup_map h.speakersOnce he he' hs

/-- An ordinary entry's seat holds no priority (R24). -/
theorem ordinary_not_holder {e : SpeakerEntry} (he : e ∈ f.speakers) (hc : e.chairClass = false) :
    e.seat ∉ f.holders := by
  intro hh
  obtain ⟨e', he', hs, hc'⟩ := h.holdersSpeak _ hh
  rw [h.entry_unique he' he hs, hc] at hc'
  exact Bool.false_ne_true hc'

/-- While the muting mark is clear no entry is muted (R25). -/
theorem unmuted {e : SpeakerEntry} (he : e ∈ f.speakers) (hm : f.muting = false) : e.muted = false := by
  rw [h.muted e he, hm, Bool.false_and]

theorem requests_behind_head {r : RequestEntry} {rest : List RequestEntry} (hq : f.requests = r :: rest) :
    f.requests.filter (fun x => decide (x.seat ≠ r.seat)) = rest := by
  have hnd := h.requestsOnce
  rw [hq, List.map_cons, List.nodup_cons] at hnd
  rw [hq, List.filter_cons_of_neg (by simp)]
  exact List.filter_eq_self.mpr fun x hx => decide_eq_true fun h => hnd.1 (List.mem_map.mpr ⟨x, hx, h⟩)

end Floor.Sound

/-! ## Refusal codes -/

section refusals
variable (s : State) (i j : SeatId)

theorem refuse_refusal (c : RefusalCode) :
    ((refuse i c s).seat j).refusal = if j = i then some c else (s.seat j).refusal := by
  unfold refuse
  rw [State.modSeat_seat]
  split <;> rfl

theorem clearRefusal_refusal :
    ((clearRefusal i s).seat j).refusal = if j = i then none else (s.seat j).refusal := by
  unfold clearRefusal
  rw [State.modSeat_seat]
  split <;> rfl

@[simp] theorem refuse_floor (c : RefusalCode) : (refuse i c s).floor = s.floor := rfl
@[simp] theorem refuse_log (c : RefusalCode) : (refuse i c s).log = s.log := rfl
@[simp] theorem refuse_link (c : RefusalCode) : (refuse i c s).link = s.link := rfl
@[simp] theorem clearRefusal_floor : (clearRefusal i s).floor = s.floor := rfl
@[simp] theorem clearRefusal_log : (clearRefusal i s).log = s.log := rfl
@[simp] theorem clearRefusal_link : (clearRefusal i s).link = s.link := rfl

@[simp] theorem refuse_refusal_same (c : RefusalCode) : ((refuse i c s).seat i).refusal = some c := by
  simp [refuse_refusal]

@[simp] theorem clearRefusal_refusal_same : ((clearRefusal i s).seat i).refusal = none := by
  simp [clearRefusal_refusal]

@[simp] theorem setFloor_seat (f : Floor) : (s.setFloor f).seat j = s.seat j := rfl

end refusals

/-! ## Opening a seat (R8) -/

section openSeat
variable (i : SeatId) (s : State)

theorem openSeat_floor : (openSeat i s).floor = { s.floor with
    speakers := s.floor.speakers ++ [s.newSpeaker i]
    requests := s.floor.requests.filter fun r => decide (r.seat ≠ i)
    speechCount := s.floor.speechCount + 1 } := by
  simp only [← not_seat_beq]
  unfold openSeat
  dsimp only
  split <;> rfl

@[simp] theorem openSeat_log : (openSeat i s).log = s.log := by
  unfold openSeat
  dsimp only
  split <;> rfl

theorem openSeat_refusal (j : SeatId) :
    ((openSeat i s).seat j).refusal = if j = i then none else (s.seat j).refusal := by
  unfold openSeat
  dsimp only
  split <;> exact clearRefusal_refusal _ i j

@[simp] theorem openSeat_closeCount : (openSeat i s).link.closeCount = s.link.closeCount := by
  unfold openSeat
  dsimp only
  split <;> rfl

@[simp] theorem openSeat_lastClose : (openSeat i s).link.lastClose = s.link.lastClose := by
  unfold openSeat
  dsimp only
  split <;> rfl

end openSeat

/-- The entry that an opening makes depends on the steady part of the state, the muting mark and the speech count. -/
theorem Steady.newSpeaker {s t : State} (h : Steady s t) (hm : t.floor.muting = s.floor.muting)
    (hn : t.floor.speechCount = s.floor.speechCount) (i : SeatId) : t.newSpeaker i = s.newSpeaker i := by
  simp [State.newSpeaker, State.stamp, h.seatDef, h.clock, h.policy, hm, hn]

/-! ## Withdrawing (R11) -/

section withdrawSeat
variable (i : SeatId) (s : State)

theorem withdrawSeat_floor : (withdrawSeat i s).floor = { s.floor with
    requests := s.floor.requests.filter fun r => decide (r.seat ≠ i) } := by
  unfold withdrawSeat
  split
  · simp only [← not_seat_beq]; rfl
  · next h =>
    rw [Bool.not_eq_true, not_requesting_iff] at h
    rw [List.filter_eq_self.mpr fun r hr => by simp [h r hr]]

@[simp] theorem withdrawSeat_log : (withdrawSeat i s).log = s.log := by
  unfold withdrawSeat
  split <;> rfl

theorem withdrawSeat_refusal (j : SeatId) : ((withdrawSeat i s).seat j).refusal
    = if s.requesting i = true ∧ j = i then none else (s.seat j).refusal := by
  unfold withdrawSeat
  split
  · next h => simp [clearRefusal_refusal, h, setRequests]
  · next h => simp [h]

end withdrawSeat

/-! ## Ending a hold (R25) -/

/-- An entry that is not muted. -/
def SpeakerEntry.unmuted (e : SpeakerEntry) : SpeakerEntry := { e with muted := false }

namespace Floor

variable {f : Floor} {i : SeatId}

theorem released_of_not_holder (hi : i ∉ f.holders) : f.released i = f := by
  have hf : f.holders.filter (fun j => decide (j ≠ i)) = f.holders :=
    List.filter_eq_self.mpr fun j hj => decide_eq_true fun h => hi (h ▸ hj)
  simp only [released, hi, hf, false_and, decide_false, Bool.not_false, Bool.and_true, Bool.false_eq_true, if_false,
    List.map_id']

theorem released_of_others (h : f.holders.filter (fun j => decide (j ≠ i)) ≠ []) :
    f.released i = { f with holders := f.holders.filter fun j => decide (j ≠ i) } := by
  simp only [released, h, and_false, decide_false, Bool.not_false, Bool.and_true, Bool.false_eq_true, if_false,
    List.map_id']

theorem released_of_last (hi : i ∈ f.holders) (h : f.holders.filter (fun j => decide (j ≠ i)) = []) :
    f.released i = { f with holders := [], muting := false, speakers := f.speakers.map SpeakerEntry.unmuted } := by
  simp only [released, hi, h, and_self, decide_true, Bool.not_true, Bool.and_false, if_true]
  rfl

end Floor

theorem map_unmuted {l : List SpeakerEntry} (h : ∀ e ∈ l, e.muted = false) : l.map SpeakerEntry.unmuted = l := by
  refine (List.map_congr_left fun e he => ?_).trans l.map_id
  rw [SpeakerEntry.unmuted, ← h e he]
  rfl

theorem dropHolder_of_not_holder {i : SeatId} {s : State} (hi : i ∉ s.floor.holders) : dropHolder i s = s := by
  simp [dropHolder, hi]

/-- What is unmuted by the last release is all muted entries, of which there are none where nothing is muted. -/
theorem dropHolder_floor (i : SeatId) {s : State}
    (hm : s.floor.muting = false → ∀ e ∈ s.floor.speakers, e.muted = false) :
    (dropHolder i s).floor = s.floor.released i := by
  by_cases hi : i ∈ s.floor.holders
  · by_cases hl : s.floor.holders.filter (fun j => decide (j ≠ i)) = []
    · rw [Floor.released_of_last hi hl]
      cases hmute : s.floor.muting with
      | true =>
        simp only [dropHolder, hi, not_seat_beq, hl, hmute, State.setFloor_floor, and_self, if_true]
        rfl
      | false =>
        simp only [dropHolder, hi, not_seat_beq, hl, hmute, State.setFloor_floor, and_false, if_true,
          Bool.false_eq_true, if_false, map_unmuted (hm hmute)]
    · rw [Floor.released_of_others hl]
      simp only [dropHolder, hi, not_seat_beq, hl, State.setFloor_floor, false_and, if_true, if_false]
  · rw [dropHolder_of_not_holder hi, Floor.released_of_not_holder hi]

section dropHolder
variable (i : SeatId) (s : State)

@[simp] theorem dropHolder_log : (dropHolder i s).log = s.log := by
  unfold dropHolder; dsimp only; split
  · split <;> rfl
  · rfl

@[simp] theorem dropHolder_link : (dropHolder i s).link = s.link := by
  unfold dropHolder; dsimp only; split
  · split <;> rfl
  · rfl

@[simp] theorem dropHolder_seat (j : SeatId) : (dropHolder i s).seat j = s.seat j := by
  unfold dropHolder; dsimp only; split
  · split <;> rfl
  · rfl

@[simp] theorem dropHolder_requests : (dropHolder i s).floor.requests = s.floor.requests := by
  unfold dropHolder; dsimp only; split
  · split <;> rfl
  · rfl

/-- The seats of the entries, and their classes, are left by a release. -/
theorem dropHolder_speakers {β : Type} (g : SpeakerEntry → β) (hg : ∀ e b, g { e with muted := b } = g e) :
    (dropHolder i s).floor.speakers.map g = s.floor.speakers.map g := by
  unfold dropHolder; dsimp only; split
  · split
    · simp [unmuteAll, Function.comp_def, hg]
    · rfl
  · rfl

end dropHolder

/-! ## Closing a seat (R9) -/

section closeSeatAs
variable {w : SeatId → Option Nat} {r : CloseReason} {i : SeatId} {s : State} {e : SpeakerEntry}

theorem closeSeatAs_of_not_speaking (w : SeatId → Option Nat) (r : CloseReason) (h : s.speaking i = false) :
    closeSeatAs w r i s = s := by
  simp [closeSeatAs, (speaker_eq_none_iff s i).mpr h]

theorem closeSeatAs_log (h : s.speaker i = some e) :
    (closeSeatAs w r i s).log = s.log.push (s.logRecordFor (w i) e r) := by
  simp only [closeSeatAs, h, dropHolder_log]
  rfl

theorem closeSeatAs_closes (h : s.speaker i = some e) :
    (closeSeatAs w r i s).link.closeCount = min 255 (s.link.closeCount + 1)
      ∧ (closeSeatAs w r i s).link.lastClose = some (i, r) := by
  simp only [closeSeatAs, h, dropHolder_link]
  exact ⟨rfl, rfl⟩

theorem closeSeatAs_refusal (h : s.speaker i = some e) (j : SeatId) :
    ((closeSeatAs w r i s).seat j).refusal = if j = i then none else (s.seat j).refusal := by
  simp only [closeSeatAs, h, dropHolder_seat, clearRefusal_refusal]
  rfl

/-- A close drops the entry and its hold, and the last release unmutes the others (R9, R25). -/
theorem closeSeatAs_floor (h : s.speaker i = some e)
    (hm : s.floor.muting = false → ∀ x ∈ s.floor.speakers, x.muted = false) :
    (closeSeatAs w r i s).floor = { s.floor.released i with
      speakers := (s.floor.released i).speakers.filter fun x => decide (x.seat ≠ i) } := by
  simp only [closeSeatAs, h]
  rw [dropHolder_floor]
  · simp only [Floor.released, clearRefusal_floor, setSpeakers, State.setFloor_floor, List.filter_map, not_seat_beq]
    congr 1
    refine congrArg _ (List.filter_congr fun x _ => ?_)
    dsimp only [Function.comp]
    split <;> rfl
  · intro hf x hx
    exact hm hf x (List.mem_of_mem_filter hx)

/-- A close of an entry that holds no priority drops the entry alone. -/
theorem closeSeatAs_floor_of_not_holder (h : s.speaker i = some e) (hi : i ∉ s.floor.holders) :
    (closeSeatAs w r i s).floor = { s.floor with
      speakers := s.floor.speakers.filter fun x => decide (x.seat ≠ i) } := by
  simp only [closeSeatAs, h]
  rw [dropHolder_of_not_holder (by exact hi)]
  simp only [← not_seat_beq]
  rfl

end closeSeatAs

/-! ## Closing several seats and emptying the requests -/

/-- The records of some entries join the log in their order. -/
def State.logAll (s : State) (reason : CloseReason) (es : List SpeakerEntry) (l : SpeechLog) : SpeechLog :=
  es.foldl (fun l e => l.push (s.logRecord e reason)) l

theorem Steady.logAll {s t : State} (h : Steady s t) (r : CloseReason) (es : List SpeakerEntry) (l : SpeechLog) :
    t.logAll r es l = s.logAll r es l := by
  simp [State.logAll, h.logRecord]

theorem emptyRequests_eq (l : List RequestEntry) (s : State) :
    (l.foldl (fun s r => withdrawSeat r.seat s) s).floor
      = { s.floor with requests := s.floor.requests.filter fun x => decide (∀ r ∈ l, x.seat ≠ r.seat) } := by
  induction l generalizing s with
  | nil => simp
  | cons r l ih =>
    simp only [List.foldl_cons, ih, withdrawSeat_floor, List.filter_filter, List.forall_mem_cons, Bool.decide_and,
      Bool.and_comm]

theorem emptyRequests_floor (s : State) : (emptyRequests s).floor = { s.floor with requests := [] } := by
  unfold emptyRequests
  rw [emptyRequests_eq, List.filter_eq_nil_iff.mpr]
  intro x hx
  simpa using ⟨x, hx, rfl⟩

@[simp] theorem emptyRequests_log (s : State) : (emptyRequests s).log = s.log := by
  unfold emptyRequests
  generalize s.floor.requests = l
  induction l generalizing s with
  | nil => rfl
  | cons r l ih => rw [List.foldl_cons, ih, withdrawSeat_log]

/-- Closing entries that hold no priority drops those entries, oldest first, one log record each (R9, R49). -/
theorem closeAll_of_not_holders (r : CloseReason) (es : List SpeakerEntry) (s : State)
    (hn : (s.floor.speakers.map (·.seat)).Nodup) (hes : (es.map (·.seat)).Nodup) (hm : ∀ e ∈ es, e ∈ s.floor.speakers)
    (hh : ∀ e ∈ es, e.seat ∉ s.floor.holders) :
    (closeAll r (es.map (·.seat)) s).floor = { s.floor with
        speakers := s.floor.speakers.filter fun x => decide (x ∉ es) }
      ∧ (closeAll r (es.map (·.seat)) s).log = s.logAll r es s.log := by
  induction es generalizing s with
  | nil => exact ⟨by simp [closeAll], rfl⟩
  | cons e es ih =>
    obtain ⟨hnot, hes⟩ := List.nodup_cons.mp hes
    obtain ⟨he, hm⟩ := List.forall_mem_cons.mp hm
    obtain ⟨hhe, hh⟩ := List.forall_mem_cons.mp hh
    have hsp := speaker_of_mem hn he
    have hfl : (closeSeat r e.seat s).floor = _ := closeSeatAs_floor_of_not_holder hsp hhe
    have hlog : (closeSeat r e.seat s).log = _ := closeSeatAs_log hsp
    have hne : ∀ x ∈ es, x.seat ≠ e.seat := fun x hx hxe => hnot (List.mem_map.mpr ⟨x, hx, hxe⟩)
    obtain ⟨ihf, ihl⟩ := ih (closeSeat r e.seat s)
      (by rw [hfl]; exact hn.sublist (List.filter_sublist.map _)) hes
      (by rw [hfl]; exact fun x hx => List.mem_filter.mpr ⟨hm x hx, by simp [hne x hx]⟩)
      (by rw [hfl]; exact hh)
    refine ⟨?_, ?_⟩
    · rw [List.map_cons]
      refine ihf.trans ?_
      rw [hfl]
      simp only [List.filter_filter]
      refine congrArg (fun l => { s.floor with speakers := l }) (List.filter_congr fun x hx => ?_)
      have : x.seat = e.seat ↔ x = e :=
        ⟨fun h => List.inj_on_of_nodup_map hn hx he h, fun h => by rw [h]⟩
      simp [this, Bool.and_comm]
    · rw [List.map_cons]
      refine ihl.trans ?_
      rw [(closeSeat_steady r e.seat s).logAll, hlog]
      rfl

end Sys2Proof.Machine
end

section
/-! What a completed change of the floor hands on leaves the floor, the log and the refusal codes, and a request of the
floor is answered after its change. -/

open Sys2Proof Sys2Proof.Machine

namespace Sys2Proof.Machine

/-! ## Handing on (R14, R85) -/

/-- A fold of steps that keep a reading keeps it. -/
theorem foldl_keeps {α β : Type} (g : State → β) {f : State → α → State} (h : ∀ s a, g (f s a) = g s) (l : List α)
    (s : State) : g (l.foldl f s) = g s := by
  induction l generalizing s with
  | nil => rfl
  | cons a l ih => rw [List.foldl_cons, ih, h]

/-- Marking the SEAT notices keeps a reading that a mark keeps. -/
theorem markSeatNotices_keeps {β : Type} (g : State → β) (h : ∀ u s, g (markSeat u s) = g s) (s0 s1 : State) :
    g (markSeatNotices s0 s1) = g s1 := by
  unfold markSeatNotices
  refine (foldl_keeps g (fun s j => ?_) _ _).trans (foldl_keeps g (fun s i => ?_) _ _)
  · split
    · rfl
    · exact h _ s
  · split
    · rfl
    · exact h _ s

/-- What a change hands on keeps a reading that the marks of its notices and writes of the seats and screens keep. -/
theorem finishChange_keeps {β : Type} (g : State → β) (hu : ∀ u s, g (markSeat u s) = g s)
    (hf : ∀ s, g (markFloor s) = g s) (hs : ∀ v s, g (State.setSeats s v) = g s)
    (hc : ∀ v s, g (State.setScreens s v) = g s) (b : Bool) (s0 s1 : State) :
    g (finishChange b s0 s1) = g (roleConsequences s0 s1) := by
  have hr : ∀ s, g (recompute s) = g s := fun s => by unfold recompute; exact hs _ s
  have hn : ∀ s, g (markSeatNotices s0 s) = g s := markSeatNotices_keeps g hu s0
  have hd : ∀ s, g (markDisplays s0 s) = g s := fun s => by unfold markDisplays; exact (hc _ _).trans (hs _ s)
  have hf' : ∀ s, g (if s0.floorReport = s.floorReport then s else markFloor s) = g s := fun s => by
    split
    · rfl
    · exact hf s
  unfold finishChange
  dsimp only
  rw [hd, hf', hn]
  split
  · exact hr _
  · rfl

section finishChange
variable (b : Bool) (s0 s1 : State)

theorem finishChange_floor : (finishChange b s0 s1).floor = (roleConsequences s0 s1).floor :=
  finishChange_keeps (·.floor) (fun _ _ => rfl) (fun _ => rfl) (fun _ _ => rfl) (fun _ _ => rfl) b s0 s1

theorem finishChange_log : (finishChange b s0 s1).log = (roleConsequences s0 s1).log :=
  finishChange_keeps (·.log) (fun _ _ => rfl) (fun _ => rfl) (fun _ _ => rfl) (fun _ _ => rfl) b s0 s1

theorem finishChange_closeCount : (finishChange b s0 s1).link.closeCount = (roleConsequences s0 s1).link.closeCount :=
  finishChange_keeps (·.link.closeCount) (fun _ _ => rfl) (fun _ => rfl) (fun _ _ => rfl) (fun _ _ => rfl) b s0 s1

theorem finishChange_lastClose : (finishChange b s0 s1).link.lastClose = (roleConsequences s0 s1).link.lastClose :=
  finishChange_keeps (·.link.lastClose) (fun _ _ => rfl) (fun _ => rfl) (fun _ _ => rfl) (fun _ _ => rfl) b s0 s1

theorem finishChange_faultMark : (finishChange b s0 s1).link.marks.fault = (roleConsequences s0 s1).link.marks.fault :=
  finishChange_keeps (·.link.marks.fault) (fun _ _ => rfl) (fun _ => rfl) (fun _ _ => rfl) (fun _ _ => rfl) b s0 s1

theorem finishChange_meetingMark :
    (finishChange b s0 s1).link.marks.meeting = (roleConsequences s0 s1).link.marks.meeting :=
  finishChange_keeps (·.link.marks.meeting) (fun _ _ => rfl) (fun _ => rfl) (fun _ _ => rfl) (fun _ _ => rfl) b s0 s1

end finishChange

theorem markLevels_refusal (r : SeatRec) : (markLevels r).refusal = r.refusal := by
  have hm : (markMicStage r).refusal = r.refusal := by unfold markMicStage; repeat' split <;> try rfl
  have hs : ∀ r, (markSpeakerStage r).refusal = r.refusal := fun r => by unfold markSpeakerStage; split <;> rfl
  unfold markLevels
  split
  · rw [hs, hm]
  · rfl

theorem retargeted_refusal (s : State) (l : List SeatId) (i : SeatId) :
    (s.retargeted l i).refusal = (s.seat i).refusal := by
  unfold State.retargeted
  dsimp only
  split <;> rfl

theorem recompute_refusal (s : State) (i : SeatId) : ((recompute s).seat i).refusal = (s.seat i).refusal := by
  unfold recompute
  simp only [State.seat, State.setSeats, Fin.getElem_fin, Vector.getElem_ofFn]
  split
  · rw [markLevels_refusal]; exact retargeted_refusal s _ i
  · exact retargeted_refusal s _ i

theorem markDisplays_refusal (s0 s1 : State) (i : SeatId) :
    ((markDisplays s0 s1).seat i).refusal = (s1.seat i).refusal := by
  unfold markDisplays
  simp only [State.seat, State.setSeats, State.setScreens, Fin.getElem_fin, Vector.getElem_ofFn]
  unfold markSeatDisplays
  split <;> rfl

theorem finishChange_refusal (b : Bool) (s0 s1 : State) (i : SeatId) :
    ((finishChange b s0 s1).seat i).refusal = ((roleConsequences s0 s1).seat i).refusal := by
  unfold finishChange
  dsimp only
  rw [markDisplays_refusal]
  have hn : ∀ s, ((markSeatNotices s0 s).seat i).refusal = (s.seat i).refusal :=
    markSeatNotices_keeps (fun s => (s.seat i).refusal) (fun _ _ => rfl) s0
  have hf : ∀ s, ((if s0.floorReport = s.floorReport then s else markFloor s).seat i).refusal = (s.seat i).refusal :=
    fun s => by split <;> rfl
  rw [hf, hn]
  split
  · exact recompute_refusal _ i
  · rfl

/-! ## A change that leaves every role -/

/-- A steady change has no consequence of role changes. -/
theorem Steady.roleConsequences {s t : State} (h : Steady s t) : roleConsequences s t = t :=
  roleConsequences_same (fun i => (h.roleKey i).symm) fun i => (h.boundAttendee i).symm

/-- What a change leaves behind of the floor, the log, the refusal codes and the close summary is what its step left. -/
structure Handed (u t : State) : Prop where
  floor : t.floor = u.floor
  log : t.log = u.log
  refusal : ∀ i, (t.seat i).refusal = (u.seat i).refusal
  closeCount : t.link.closeCount = u.link.closeCount
  lastClose : t.link.lastClose = u.link.lastClose

theorem change_handed (f : State → State) (s : State) : Handed (roleConsequences s (f s)) (change f s) :=
  ⟨finishChange_floor _ _ _, finishChange_log _ _ _, finishChange_refusal _ _ _, finishChange_closeCount _ _ _,
    finishChange_lastClose _ _ _⟩

theorem Steady.handed {f : State → State} {s : State} (h : Steady s (f s)) : Handed (f s) (change f s) := by
  have := change_handed f s
  rwa [h.roleConsequences] at this

theorem floorReport_of_floor {s t : State} (h : t.floor = s.floor) : t.floorReport = s.floorReport := by
  simp [State.floorReport, h]

theorem markDisplays_floor (s0 s1 : State) : (markDisplays s0 s1).floor = s1.floor := by
  unfold markDisplays
  exact (State.setScreens_floor _ _).trans (State.setSeats_floor _ _)

theorem markDisplays_link (s0 s1 : State) : (markDisplays s0 s1).link = s1.link := by
  unfold markDisplays
  exact (State.setScreens_link _ _).trans (State.setSeats_link _ _)

/-- The last step of a change marks FLOOR where the report differs (R14). -/
theorem markDisplays_marks_floor {s0 s1 : State}
    (h : s0.floorReport ≠ (markDisplays s0 (if s0.floorReport = s1.floorReport then s1 else markFloor s1)).floorReport) :
    (markDisplays s0 (if s0.floorReport = s1.floorReport then s1 else markFloor s1)).link.marks.floor = true := by
  rw [floorReport_of_floor (markDisplays_floor s0 _)] at h
  rw [markDisplays_link]
  by_cases he : s0.floorReport = s1.floorReport
  · rw [if_pos he] at h
    exact absurd he h
  · rw [if_neg he]
    rfl

theorem change_marks_floor {f : State → State} {s : State} (h : s.floorReport ≠ (change f s).floorReport) :
    (change f s).link.marks.floor = true := markDisplays_marks_floor h

/-! ## Requests of the floor -/

/-- A block that holds the same may be left out of a frame's list. -/
theorem KeptBut.drop {b : Block} {l : List Block} {s t : State} (h : KeptBut (b :: l) s t) (hb : b.Same s t) :
    KeptBut l s t := fun c hc => by
  by_cases hcb : c = b
  · exact hcb ▸ hb
  · exact h c fun hm => (List.mem_cons.mp hm).elim hcb hc

/-- Handing a frame to the transmitter touches the transmitter alone. -/
theorem send_keptBut (f : OutFrame) (s : State) : KeptBut [.transmitter] s (s.send f) := by
  intro b hb
  unfold State.send
  cases b <;> simp at hb <;> split <;> simp [Block.Same]

theorem taken_keptBut (s : State) : KeptBut [.transmitter] s s.taken := by
  intro b hb
  cases b <;> simp at hb <;> simp [Block.Same, State.taken]

/-- A request that a ready part takes has led to `t`: its change, from the state with the request taken, came to `u`. -/
structure FloorReply (kind tag : Byte) (r : Result) (body : List Byte) (s u t : State) : Prop where
  kept : KeptBut [.floor, .log, .seats, .screens, .transmitter, .marks] s t
  answered : Answered kind tag r body s t
  handed : Handed u t

/-- A request of the floor that a ready part takes and answers after its change (R202, R203). -/
theorem hostRequest_floorReply {s : State} (fr : Frame) {f g : State → State} {kind tag : Byte} {r : Result}
    {body : List Byte} (h : s.Ready) (hf : f s.taken = reply kind tag r body (change g s.taken))
    (ho : (g s.taken).outer = s.outer.taken) (hq : (g s.taken).seq = s.seq) :
    FloorReply kind tag r body s (roleConsequences s.taken (g s.taken)) (hostRequest fr f s) := by
  obtain ⟨he, ha⟩ := hostRequest_outer fr h hf ((outer_change g s.taken).trans ho)
  have hk : KeptBut [.floor, .log, .seats, .screens, .marks] s.taken (change g s.taken) :=
    outer_keptBut ((outer_change g s.taken).trans ho) ((seq_change g s.taken).trans hq)
  have hc := change_handed g s.taken
  refine ⟨?_, he ▸ ha, ?_⟩
  · rw [he]
    refine (((taken_keptBut s).mono ?_).trans (hk.mono ?_)).trans ((send_keptBut _ _).mono ?_) <;> decide
  · rw [he]
    set k := replyFrame kind tag r body
    exact ⟨by simp [hc.floor], by simp [hc.log],
      fun i => (congrArg (fun v : Vector SeatRec 64 => v[i].refusal) (send_seats _ _)).trans (hc.refusal i),
      (by unfold State.send; split <;> exact hc.closeCount), by unfold State.send; split <;> exact hc.lastClose⟩

/-- A request of the floor whose change leaves every role. -/
theorem hostRequest_steadyReply {s : State} (fr : Frame) {f g : State → State} {kind tag : Byte} {r : Result}
    {body : List Byte} (h : s.Ready) (hf : f s.taken = reply kind tag r body (change g s.taken))
    (hg : Steady s.taken (g s.taken)) : FloorReply kind tag r body s (g s.taken) (hostRequest fr f s) := by
  have := hostRequest_floorReply fr h hf hg.outer hg.seq
  rwa [hg.roleConsequences] at this

end Sys2Proof.Machine
end

section
/-! GRANT, CLOSE and WITHDRAW. -/

open Sys2Proof Sys2Proof.Machine

namespace Sys2Proof.Machine

/-! ## The request's form -/

theorem exec_grant (tag : Byte) (p : List Byte) (s : State) :
    exec (.grant tag p) s = .next (hostRequest ⟨0x01, tag, p⟩ (reqGrant tag p) s) := rfl

theorem exec_close (tag : Byte) (p : List Byte) (s : State) :
    exec (.close tag p) s = .next (hostRequest ⟨0x02, tag, p⟩ (reqClose tag p) s) := rfl

theorem exec_withdraw (tag : Byte) (p : List Byte) (s : State) :
    exec (.withdraw tag p) s = .next (hostRequest ⟨0x03, tag, p⟩ (reqWithdraw tag p) s) := rfl

/-- A payload of another length than the one a request has is BAD_LENGTH (R203). -/
theorem fixedForm_badLength {kind tag : Byte} {n : Nat} {p : List Byte} (h : p.length ≠ n) (f : State → State)
    (s : State) : fixedForm kind tag n p f s = reply kind tag .badLength [] s := if_neg h

theorem seatOf_ofNat (i : SeatId) : seatOf (byteAt [BitVec.ofNat 8 i.val] 0) = some i := by
  have h : (BitVec.ofNat 8 i.val).toNat = i.val := by
    rw [BitVec.toNat_ofNat]; exact Nat.mod_eq_of_lt (by omega)
  simp [seatOf, byteAt, h, i.isLt]

theorem seatOf_eq_none {b : Byte} (h : 64 ≤ b.toNat) : seatOf (byteAt [b] 0) = none := by
  simp [seatOf, byteAt, h]

/-! ## Replacing the oldest ordinary entry (R20, R22, R27) -/

section replaced
variable {s : State} {old : SpeakerEntry} (hs : s.floor.Sound)
  (ho : s.floor.speakers.find? (fun e => !e.chairClass) = some old) (r : CloseReason)
include hs ho

/-- Closing the oldest ordinary entry drops it alone, with its log record. -/
theorem closeOldest_eq : (closeOldest r s).floor = { s.floor with
      speakers := s.floor.speakers.filter fun e => decide (e.seat ≠ old.seat) }
    ∧ (closeOldest r s).log = s.log.push (s.logRecord old r) := by
  have hmem : old ∈ s.floor.speakers := List.mem_of_find?_eq_some ho
  have hc : old.chairClass = false := by simpa using List.find?_some ho
  have hsp := speaker_of_mem hs.speakersOnce hmem
  have hcl : closeOldest r s = closeSeat r old.seat s := by simp [closeOldest, State.oldestOrdinary, ho]
  rw [hcl]
  exact ⟨closeSeatAs_floor_of_not_holder hsp (hs.ordinary_not_holder hmem hc), closeSeatAs_log hsp⟩

/-- A seat that replaces the oldest ordinary entry joins at the tail. -/
theorem openSeat_closeOldest_eq (i : SeatId) : (openSeat i (closeOldest r s)).floor = { s.floor with
      speakers := s.floor.speakers.filter (fun e => decide (e.seat ≠ old.seat)) ++ [s.newSpeaker i]
      requests := s.floor.requests.filter fun q => decide (q.seat ≠ i)
      speechCount := s.floor.speechCount + 1 }
    ∧ (openSeat i (closeOldest r s)).log = s.log.push (s.logRecord old r) := by
  obtain ⟨hf, hl⟩ := closeOldest_eq hs ho r
  rw [openSeat_floor, openSeat_log, hl,
    (closeOldest_steady r s).newSpeaker (by rw [hf]) (by rw [hf]), hf]
  exact ⟨rfl, rfl⟩

end replaced

/-! ## GRANT (R27) -/

theorem grantSeat_steady (i : SeatId) (s : State) : Steady s (grantSeat i s) :=
  .ite (.refl s) (.ite (openSeat_steady i s) ((closeOldest_steady _ s).trans (openSeat_steady i _)))

theorem grantSeat_of_refused {i : SeatId} {s : State} (h : s.speaking i = true ∨ grantResult i s ≠ .ok) :
    grantSeat i s = s := if_pos h

theorem grantSeat_of_room {i : SeatId} {s : State} (hn : s.speaking i = false) (hr : grantResult i s = .ok)
    (h : s.roomFor (s.seatDef i).chairClass = true) : grantSeat i s = openSeat i s := by
  simp [grantSeat, hn, hr, h]

theorem grantSeat_of_noRoom {i : SeatId} {s : State} (hn : s.speaking i = false) (hr : grantResult i s = .ok)
    (h : s.roomFor (s.seatDef i).chairClass = false) : grantSeat i s = openSeat i (closeOldest .replaced s) := by
  simp [grantSeat, hn, hr, h]

theorem grantSeat_refusal {i : SeatId} {s : State} (hn : s.speaking i = false) (hr : grantResult i s = .ok) :
    ((grantSeat i s).seat i).refusal = none := by
  cases h : s.roomFor (s.seatDef i).chairClass with
  | true => simp [grantSeat_of_room hn hr h, openSeat_refusal]
  | false => simp [grantSeat_of_noRoom hn hr h, openSeat_refusal]

/-- A closing for a replacement leaves the requests and the holders: an ordinary entry holds no priority. -/
theorem closeOldest_lists {s : State} (hs : s.floor.Sound) (r : CloseReason) :
    (closeOldest r s).floor.requests = s.floor.requests ∧ (closeOldest r s).floor.holders = s.floor.holders := by
  cases ho : s.floor.speakers.find? (fun e => !e.chairClass) with
  | some old => rw [(closeOldest_eq hs ho r).1]; exact ⟨rfl, rfl⟩
  | none =>
    have : closeOldest r s = s := by simp only [closeOldest, State.oldestOrdinary, ho]
    rw [this]
    exact ⟨rfl, rfl⟩

/-- A seat that GRANT opens leaves the requests; the holders stay (R27). -/
theorem grantSeat_lists {i : SeatId} {s : State} (hs : s.floor.Sound) (hn : s.speaking i = false)
    (hr : grantResult i s = .ok) :
    (grantSeat i s).floor.requests = s.floor.requests.filter (fun q => decide (q.seat ≠ i))
      ∧ (grantSeat i s).floor.holders = s.floor.holders := by
  cases h : s.roomFor (s.seatDef i).chairClass with
  | true =>
    rw [grantSeat_of_room hn hr h, openSeat_floor]
    exact ⟨rfl, rfl⟩
  | false =>
    obtain ⟨hq, hh⟩ := closeOldest_lists hs .replaced
    rw [grantSeat_of_noRoom hn hr h, openSeat_floor, hq, hh]
    exact ⟨rfl, rfl⟩

theorem not_inService_iff (p : Presence) : inService p = false ↔ p ≠ .present ∧ p ≠ .silent := by
  simp [inService]

theorem reqGrant_open (tag : Byte) (i : SeatId) {s : State} (h : s.floor.isOpen = true) :
    reqGrant tag [BitVec.ofNat 8 i.val] s
      = reply 0x01 tag (grantResult i s) (floorStateByte (change (grantSeat i) s) i) (change (grantSeat i) s) := by
  simp [reqGrant, fixedForm, seatOf_ofNat, h]

theorem reqGrant_closed (tag : Byte) (i : SeatId) {s : State} (h : s.floor.isOpen = false) :
    reqGrant tag [BitVec.ofNat 8 i.val] s = reply 0x01 tag .wrongState [] s := by
  simp [reqGrant, fixedForm, seatOf_ofNat, h]

theorem reqGrant_badValue (tag : Byte) {b : Byte} (h : 64 ≤ b.toNat) (s : State) :
    reqGrant tag [b] s = reply 0x01 tag .badValue [] s := by
  simp [reqGrant, fixedForm, seatOf_eq_none h]

theorem floorStateByte_of_floor {s t : State} (h : t.floor = s.floor) (i : SeatId) :
    floorStateByte t i = floorStateByte s i := by
  simp [floorStateByte, State.speaking, State.requesting, h]

/-- Settles O20: GRANT's change is steady, so the floor it leaves is the one that `grantSeat` makes. -/
theorem grantOpensSeat : Obligations.GrantOpensSeat := by
  unfold Obligations.GrantOpensSeat
  intro s tag hready
  refine ⟨fun i hopen hsound => ?_, fun i hclosed => ?_, fun b hb => ?_, fun p hp => ?_⟩
  · intro chair entry r
    have hr : grantResult i s = r := by
      simp [grantResult, r, chair, State.seatDef, State.roleDef, not_inService_iff]
    obtain ⟨hkept, hans, hh⟩ := hostRequest_steadyReply ⟨0x01, tag, [BitVec.ofNat 8 i.val]⟩ hready
      (reqGrant_open tag i (s := s.taken) hopen) (grantSeat_steady i s.taken)
    have hfloor := hh.floor
    have hsteady := grantSeat_steady i s.taken
    refine ⟨_, exec_grant _ _ _, hkept, ?_, fun href => ?_, fun hns hok => ?_⟩
    · have hst : floorStateByte (change (grantSeat i) s.taken) i = floorStateByte (hostRequest _ _ s) i :=
        floorStateByte_of_floor (hsteady.handed.floor.trans hfloor.symm) i
      rw [hst] at hans
      exact hr ▸ hans
    · rw [hfloor, hh.log, grantSeat_of_refused (by rw [← hr] at href; exact href)]
      exact ⟨rfl, rfl⟩
    · rw [← hr] at hok
      rw [hfloor, hh.log, hh.refusal]
      obtain ⟨hq, hholders⟩ := grantSeat_lists (s := s.taken) hsound hns hok
      refine ⟨hq, grantSeat_refusal (s := s.taken) hns hok, hholders, hsteady.policy, fun hroom => ?_,
        fun old hroom hold => ?_⟩
      · rw [grantSeat_of_room (s := s.taken) hns hok hroom, openSeat_floor, openSeat_log]
        exact ⟨rfl, rfl⟩
      · obtain ⟨hf, hl⟩ := openSeat_closeOldest_eq (s := s.taken) hsound hold .replaced i
        rw [grantSeat_of_noRoom (s := s.taken) hns hok hroom, hf, hl]
        exact ⟨rfl, rfl⟩
  · exact congrArg _ (hostRequest_answer _ hready (reqGrant_closed tag i (s := s.taken) hclosed))
  · exact congrArg _ (hostRequest_answer _ hready (reqGrant_badValue tag hb s.taken))
  · exact congrArg _ (hostRequest_answer _ hready (fixedForm_badLength hp _ s.taken))

end Sys2Proof.Machine
end

section
/-! Granting the head, advancing, and what a close with its advancing comes to; CLOSE and WITHDRAW. -/

open Sys2Proof Sys2Proof.Machine

namespace Sys2Proof.Machine

/-! ## Granting the head (R12) -/

section grantHead
variable {s : State} {r : RequestEntry} {rest : List RequestEntry} (replace : Option CloseReason)

theorem grantHead_of_empty (h : s.floor.requests = []) : grantHead replace s = (.empty, s) := by
  simp [grantHead, grantHeadLoop, h]

theorem grantHead_of_room (h : s.floor.requests = r :: rest) (he : s.eligibleToSpeak r.seat = true)
    (hr : s.roomFor (s.seatDef r.seat).chairClass = true) : grantHead replace s = (.opened, openSeat r.seat s) := by
  simp [grantHead, grantHeadLoop, h, he, hr]

/-- Without room nothing changes where no replacement is permitted, or the head is chair-class. -/
theorem grantHead_of_noRoom (h : s.floor.requests = r :: rest) (he : s.eligibleToSpeak r.seat = true)
    (hr : s.roomFor (s.seatDef r.seat).chairClass = false) (hn : replace = none ∨ (s.seatDef r.seat).chairClass = true) :
    grantHead replace s = (.noRoom, s) := by
  rcases hn with rfl | hc
  · simp [grantHead, grantHeadLoop, h, he, hr]
  · rw [hc] at hr
    cases replace <;> simp [grantHead, grantHeadLoop, h, he, hr, hc]

theorem grantHead_of_replace (reason : CloseReason) (h : s.floor.requests = r :: rest)
    (he : s.eligibleToSpeak r.seat = true) (hr : s.roomFor (s.seatDef r.seat).chairClass = false)
    (hc : (s.seatDef r.seat).chairClass = false) :
    grantHead (some reason) s = (.opened, openSeat r.seat (closeOldest reason s)) := by
  rw [hc] at hr
  simp [grantHead, grantHeadLoop, h, he, hr, hc]

/-- An ineligible head is withdrawn with NOT_PERMITTED, and the granting goes on behind it. -/
theorem grantHead_of_ineligible (h : s.floor.requests = r :: rest) (he : s.eligibleToSpeak r.seat = false) :
    grantHead replace s
      = grantHeadLoop (rest.length + 1) replace (refuse r.seat .notPermitted (withdrawSeat r.seat s)) := by
  unfold grantHead
  conv_lhs => unfold grantHeadLoop
  simp [h, he]

end grantHead

/-- What withdrawing, refusing and opening keep, granting the head without a replacement keeps. -/
theorem grantHeadLoop_keeps {β : Type} (g : State → β) (hw : ∀ i s, g (withdrawSeat i s) = g s)
    (hr : ∀ i c s, g (refuse i c s) = g s) (ho : ∀ i s, g (openSeat i s) = g s) (fuel : Nat) (s : State) :
    g (grantHeadLoop fuel none s).2 = g s := by
  induction fuel generalizing s with
  | zero => rfl
  | succ n ih =>
    unfold grantHeadLoop
    split
    · rfl
    · split
      · rw [ih, hr, hw]
      · split
        · exact ho _ s
        · rfl

/-- Whoever speaks after the head was granted without a replacement spoke before or waited. -/
theorem grantHeadLoop_speakers (fuel : Nat) (s : State) :
    ∀ e ∈ (grantHeadLoop fuel none s).2.floor.speakers,
      e ∈ s.floor.speakers ∨ ∃ r ∈ s.floor.requests, r.seat = e.seat := by
  induction fuel generalizing s with
  | zero => exact fun e he => .inl he
  | succ n ih =>
    intro e he
    unfold grantHeadLoop at he
    split at he
    · exact .inl he
    · next r rest hq =>
      have hr : r ∈ s.floor.requests := hq ▸ List.mem_cons_self
      split at he
      · rcases ih _ e he with h | ⟨q, hq, hqe⟩
        · rw [refuse_floor, withdrawSeat_floor] at h
          exact .inl h
        · rw [refuse_floor, withdrawSeat_floor] at hq
          exact .inr ⟨q, List.mem_of_mem_filter hq, hqe⟩
      · split at he
        · rw [openSeat_floor] at he
          rcases List.mem_append.mp he with h | h
          · exact .inl h
          · exact .inr ⟨r, hr, by rw [List.mem_singleton.mp h]; rfl⟩
        · exact .inl he

/-! ## Advancing (R13) -/

theorem advance_eq (s : State) : advance s = s ∨ advance s = (grantHead none s).2 := by
  unfold advance
  split <;> split
  · exact .inl rfl
  · exact .inr rfl
  · exact .inr rfl
  · exact .inl rfl

theorem advance_keeps {β : Type} (g : State → β) (hw : ∀ i s, g (withdrawSeat i s) = g s)
    (hr : ∀ i c s, g (refuse i c s) = g s) (ho : ∀ i s, g (openSeat i s) = g s) (s : State) :
    g (advance s) = g s := by
  rcases advance_eq s with h | h
  · rw [h]
  · rw [h]; exact grantHeadLoop_keeps g hw hr ho _ s

theorem advance_log (s : State) : (advance s).log = s.log :=
  advance_keeps (·.log) withdrawSeat_log (fun _ _ _ => rfl) openSeat_log s

theorem advance_holders (s : State) : (advance s).floor.holders = s.floor.holders :=
  advance_keeps (·.floor.holders) (fun i s => by rw [withdrawSeat_floor]) (fun _ _ _ => rfl)
    (fun i s => by rw [openSeat_floor]) s

theorem withdrawSeat_link (i : SeatId) (s : State) : (withdrawSeat i s).link = s.link := by
  unfold withdrawSeat
  split <;> rfl

theorem advance_closeCount (s : State) : (advance s).link.closeCount = s.link.closeCount :=
  advance_keeps (·.link.closeCount) (fun i s => by rw [withdrawSeat_link]) (fun _ _ _ => rfl) openSeat_closeCount s

theorem advance_lastClose (s : State) : (advance s).link.lastClose = s.link.lastClose :=
  advance_keeps (·.link.lastClose) (fun i s => by rw [withdrawSeat_link]) (fun _ _ _ => rfl) openSeat_lastClose s

/-- Nobody is advanced where nobody waits, or in mode REQUEST without auto advance. -/
theorem advance_of_quiet {s : State} (h : s.floor.requests = []
    ∨ (s.floor.policy.mode = .requestMode ∧ s.floor.policy.autoAdvance = false)) : advance s = s := by
  rcases h with h | ⟨hm, ha⟩
  · unfold advance
    split <;> simp [grantHead_of_empty none h]
  · simp [advance, hm, ha]

/-- The eligible head opens where there is room for its class. -/
theorem advance_of_head {s : State} {r : RequestEntry} {rest : List RequestEntry} (h : s.floor.requests = r :: rest)
    (he : s.eligibleToSpeak r.seat = true) (hm : s.floor.policy.mode = .openMode ∨ s.floor.policy.autoAdvance = true)
    (hr : s.roomFor (s.seatDef r.seat).chairClass = true) : advance s = openSeat r.seat s := by
  unfold advance
  split
  · simp [h, grantHead_of_room none h he hr]
  · next hq =>
    have ha : s.floor.policy.autoAdvance = true := by rcases hm with h | h <;> simp_all
    simp [ha, grantHead_of_room none h he hr]

theorem advance_speaking {s : State} {i : SeatId} (h : s.speaking i = false)
    (hq : ∀ r ∈ s.floor.requests, r.seat ≠ i) : (advance s).speaking i = false := by
  rcases advance_eq s with ha | ha
  · rwa [ha]
  · rw [not_speaking_iff] at h ⊢
    rw [ha]
    intro e he
    rcases grantHeadLoop_speakers _ s e he with h' | ⟨r, hr, hre⟩
    · exact h e h'
    · exact hre ▸ hq r hr

/-! ## Closing with the advancing (R9, R13) -/

/-- A close of one entry takes one of its class. -/
theorem classCount_close {l : List SpeakerEntry} (hn : (l.map (·.seat)).Nodup) {e : SpeakerEntry} (he : e ∈ l)
    (c : Bool) : classCount c l
      = classCount c (l.filter fun x => decide (x.seat ≠ e.seat)) + if e.chairClass = c then 1 else 0 := by
  induction l with
  | nil => simp at he
  | cons x l ih =>
    obtain ⟨hx, hl⟩ := List.nodup_cons.mp hn
    unfold classCount at ih ⊢
    rcases List.mem_cons.mp he with rfl | he
    · have hall : l.filter (fun y => decide (y.seat ≠ e.seat)) = l :=
        List.filter_eq_self.mpr fun y hy => decide_eq_true fun h => hx (List.mem_map.mpr ⟨y, hy, h⟩)
      rw [List.filter_cons_of_neg (p := fun y : SpeakerEntry => decide (y.seat ≠ e.seat)) (by simp), hall]
      by_cases hc : e.chairClass = c <;> simp [hc]
    · have hne : x.seat ≠ e.seat := fun h => hx (List.mem_map.mpr ⟨e, he, h.symm⟩)
      rw [List.filter_cons_of_pos (p := fun y : SpeakerEntry => decide (y.seat ≠ e.seat)) (by simpa using hne)]
      have := ih hl he
      by_cases hc : x.chairClass = c <;> simp [hc] at this ⊢ <;> omega

theorem closeAdvanceAs_of_chair {w : SeatId → Option Nat} {r : CloseReason} {i : SeatId} {s : State}
    {e : SpeakerEntry} (h : s.speaker i = some e) (hc : e.chairClass = true) :
    closeAdvanceAs w r i s = closeSeatAs w r i s := by
  simp [closeAdvanceAs, h, hc]

theorem closeAdvanceAs_of_ordinary {w : SeatId → Option Nat} {r : CloseReason} {i : SeatId} {s : State}
    {e : SpeakerEntry} (h : s.speaker i = some e) (hc : e.chairClass = false) :
    closeAdvanceAs w r i s = advance (closeSeatAs w r i s) := by
  simp [closeAdvanceAs, h, hc]

theorem closeAdvanceAs_eq {w : SeatId → Option Nat} {r : CloseReason} {i : SeatId} {s : State} {e : SpeakerEntry}
    (h : s.speaker i = some e) : closeAdvanceAs w r i s = closeSeatAs w r i s
      ∨ closeAdvanceAs w r i s = advance (closeSeatAs w r i s) := by
  cases hc : e.chairClass with
  | true => exact .inl (closeAdvanceAs_of_chair h hc)
  | false => exact .inr (closeAdvanceAs_of_ordinary h hc)

section closed
variable {s : State} (hs : s.floor.Sound) {e : SpeakerEntry} (he : e ∈ s.floor.speakers) (r : CloseReason)
include hs he

theorem closeSeat_floor : (closeSeat r e.seat s).floor = { s.floor.released e.seat with
    speakers := (s.floor.released e.seat).speakers.filter fun x => decide (x.seat ≠ e.seat) } :=
  closeSeatAs_floor (speaker_of_mem hs.speakersOnce he) fun hm _ hx => hs.unmuted hx hm

theorem closeSeat_floor_of_ordinary (hc : e.chairClass = false) : (closeSeat r e.seat s).floor = { s.floor with
    speakers := s.floor.speakers.filter fun x => decide (x.seat ≠ e.seat) } :=
  closeSeatAs_floor_of_not_holder (speaker_of_mem hs.speakersOnce he) (hs.ordinary_not_holder he hc)

theorem closeSeat_log : (closeSeat r e.seat s).log = s.log.push (s.logRecord e r) :=
  closeSeatAs_log (speaker_of_mem hs.speakersOnce he)

theorem closeSeat_not_speaking : (closeSeat r e.seat s).speaking e.seat = false := by
  rw [not_speaking_iff, closeSeat_floor hs he]
  intro x hx
  simpa using (List.mem_filter.mp hx).2

theorem closeSeat_requests : (closeSeat r e.seat s).floor.requests = s.floor.requests := by
  rw [closeSeat_floor hs he]
  rfl

/-- What closing an entry with its advancing comes to. -/
theorem closeAdvance_closed : Closed e r s (closeAdvance r e.seat s) := by
  have hsp := speaker_of_mem hs.speakersOnce he
  have hq : ∀ q ∈ (closeSeat r e.seat s).floor.requests, q.seat ≠ e.seat := by
    rw [closeSeat_requests hs he]
    exact fun q hq => (hs.requester_not_speaker hq he).symm
  refine ⟨?_, ?_, fun hquiet => ?_, fun q others hc hreq helig hmode hroom => ?_⟩
  · rcases closeAdvanceAs_eq (w := s.boundAttendee) (r := r) hsp with h | h
    · exact (congrArg State.log h).trans (closeSeat_log hs he r)
    · exact (congrArg State.log h).trans ((advance_log _).trans (closeSeat_log hs he r))
  · rcases closeAdvanceAs_eq (w := s.boundAttendee) (r := r) hsp with h | h
    · exact (congrArg (·.speaking e.seat) h).trans (closeSeat_not_speaking hs he r)
    · exact (congrArg (·.speaking e.seat) h).trans (advance_speaking (closeSeat_not_speaking hs he r) hq)
  · have hsame : closeAdvance r e.seat s = closeSeat r e.seat s := by
      cases hc : e.chairClass with
      | true => exact closeAdvanceAs_of_chair hsp hc
      | false =>
        refine (closeAdvanceAs_of_ordinary hsp hc).trans (advance_of_quiet ?_)
        have hp := (closeSeat_steady r e.seat s).policy
        rw [hc] at hquiet
        have := hquiet.resolve_left Bool.false_ne_true
        rwa [← hp, ← closeSeat_requests hs he r] at this
    rw [hsame, closeSeat_floor hs he]
  · have hst := closeSeat_steady r e.seat s
    have hfl := closeSeat_floor_of_ordinary hs he r hc
    have hcount := classCount_close hs.speakersOnce he
    have hq' : (closeSeat r e.seat s).floor.requests = q :: others := by rw [hfl]; exact hreq
    have hroom' : (closeSeat r e.seat s).roomFor ((closeSeat r e.seat s).seatDef q.seat).chairClass = true := by
      rw [hst.seatDef]
      have hdef : (s.seatDef q.seat).chairClass = s.roles.defs[(s.effRole q.seat).number].chairClass := rfl
      rw [← hdef] at hroom
      cases hd : (s.seatDef q.seat).chairClass with
      | true =>
        have := hcount true
        rw [hd, if_pos rfl] at hroom
        simp only [hc, Bool.false_eq_true, if_false, Nat.add_zero] at this
        simp only [State.roomFor, if_true, hfl, ← this]
        exact decide_eq_true hroom
      | false =>
        have := hcount false
        rw [hd, if_neg Bool.false_ne_true] at hroom
        simp only [hc, if_true] at this
        simp only [State.roomFor, Bool.false_eq_true, if_false, hfl]
        exact decide_eq_true (by omega)
    have hadv : closeAdvance r e.seat s = openSeat q.seat (closeSeat r e.seat s) :=
      (closeAdvanceAs_of_ordinary hsp hc).trans
        (advance_of_head hq' ((hst.eligibleToSpeak _).trans helig) (hst.policy.symm ▸ hmode) hroom')
    rw [hadv, openSeat_floor, hfl]
    refine ⟨hs.requests_behind_head hreq, ?_⟩
    · simp only [List.map_append, List.map_cons, List.map_nil, List.filter_map]
      rfl

theorem closeAdvance_closes : (closeAdvance r e.seat s).link.closeCount = min 255 (s.link.closeCount + 1)
    ∧ (closeAdvance r e.seat s).link.lastClose = some (e.seat, r) := by
  have hsp := speaker_of_mem hs.speakersOnce he
  obtain ⟨hc, hl⟩ := closeSeatAs_closes (w := s.boundAttendee) (r := r) hsp
  unfold closeAdvance
  rcases closeAdvanceAs_eq (w := s.boundAttendee) (r := r) hsp with h | h
  · rw [h]; exact ⟨hc, hl⟩
  · rw [h, advance_closeCount, advance_lastClose]; exact ⟨hc, hl⟩

theorem closeAdvance_holders :
    (closeAdvance r e.seat s).floor.holders = s.floor.holders.filter fun j => decide (j ≠ e.seat) := by
  have hsp := speaker_of_mem hs.speakersOnce he
  have hh : (closeSeat r e.seat s).floor.holders = s.floor.holders.filter fun j => decide (j ≠ e.seat) := by
    rw [closeSeat_floor hs he]
    rfl
  rcases closeAdvanceAs_eq (w := s.boundAttendee) (r := r) hsp with h | h
  · exact (congrArg (·.floor.holders) h).trans hh
  · exact (congrArg (·.floor.holders) h).trans ((advance_holders _).trans hh)

end closed

/-! ## CLOSE (R28) -/

theorem reqClose_speaking (tag : Byte) {i : SeatId} {s : State} (h : s.floor.isOpen = true)
    (hi : s.speaking i = true) : reqClose tag [BitVec.ofNat 8 i.val] s
      = reply 0x02 tag .ok [] (change (closeAdvance .host i) s) := by
  simp [reqClose, fixedForm, seatOf_ofNat, h, hi]

theorem reqClose_notFound (tag : Byte) {i : SeatId} {s : State} (h : s.floor.isOpen = true)
    (hi : s.speaking i = false) : reqClose tag [BitVec.ofNat 8 i.val] s = reply 0x02 tag .notFound [] s := by
  simp [reqClose, fixedForm, seatOf_ofNat, h, hi]

theorem reqClose_closed (tag : Byte) (i : SeatId) {s : State} (h : s.floor.isOpen = false) :
    reqClose tag [BitVec.ofNat 8 i.val] s = reply 0x02 tag .wrongState [] s := by
  simp [reqClose, fixedForm, seatOf_ofNat, h]

theorem reqClose_badValue (tag : Byte) {b : Byte} (h : 64 ≤ b.toNat) (s : State) :
    reqClose tag [b] s = reply 0x02 tag .badValue [] s := by
  simp [reqClose, fixedForm, seatOf_eq_none h]

/-- The entries left by a close are those of the other seats, unmuted where the last holder has gone. -/
theorem released_rest (f : Floor) (i : SeatId) :
    (f.released i).speakers.filter (fun x => decide (x.seat ≠ i))
      = (f.speakers.filter fun x => decide (x.seat ≠ i)).map fun x =>
          if f.holders.filter (fun j => decide (j ≠ i)) = [] ∧ i ∈ f.holders then { x with muted := false } else x := by
  by_cases hc : i ∈ f.holders ∧ f.holders.filter (fun j => decide (j ≠ i)) = []
  · rw [Floor.released_of_last hc.1 hc.2, List.filter_map]
    simp only [if_pos hc.symm]
    rfl
  · have hsp : (f.released i).speakers = f.speakers := by
      simp only [Floor.released, hc, decide_false, Bool.false_eq_true, if_false, List.map_id']
    simp only [hsp, if_neg (fun h => hc (And.symm h)), List.map_id']

/-- Settles O21: CLOSE's change closes the entry and advances as `Closed` says. -/
theorem closeClosesSeat : Obligations.CloseClosesSeat := by
  unfold Obligations.CloseClosesSeat
  intro s tag hready
  refine ⟨fun i e hopen hsound he hei => ?_, fun i hopen hn => ?_, fun i hclosed => ?_, fun b hb => ?_, fun p hp => ?_⟩
  · subst hei
    intro rest held unmuted
    have hi : s.speaking e.seat = true := (speaking_iff s _).mpr ⟨e, he, rfl⟩
    obtain ⟨hkept, hans, hh⟩ := hostRequest_steadyReply ⟨0x02, tag, [BitVec.ofNat 8 e.seat.val]⟩ hready
      (reqClose_speaking tag (s := s.taken) hopen hi) (closeAdvance_steady .host e.seat s.taken)
    have hcl : Closed e .host s.taken _ := closeAdvance_closed (s := s.taken) hsound he .host
    obtain ⟨hcount, hlast⟩ := closeAdvance_closes (s := s.taken) hsound he .host
    refine ⟨_, exec_close _ _ _, hkept, hans, hh.log.trans hcl.log, (speaking_of_floor hh.floor _).trans hcl.gone, ?_,
      hh.closeCount.trans hcount, hh.lastClose.trans hlast, fun hquiet => ?_, ?_⟩
    · rw [hh.floor]; exact closeAdvance_holders (s := s.taken) hsound he .host
    · rw [hh.floor, hcl.quiet hquiet]
      exact ⟨released_rest s.floor e.seat, rfl⟩
    · intro q others hc hreq helig hmode hroom
      obtain ⟨hothers, hseats⟩ := hcl.advance q others hc hreq helig hmode hroom
      rw [hh.floor]
      refine ⟨hseats.trans ?_, hothers⟩
      simp only [rest, List.filter_map]
      rfl
  · exact congrArg _ (hostRequest_answer _ hready (reqClose_notFound tag (s := s.taken) hopen hn))
  · exact congrArg _ (hostRequest_answer _ hready (reqClose_closed tag i (s := s.taken) hclosed))
  · exact congrArg _ (hostRequest_answer _ hready (reqClose_badValue tag hb s.taken))
  · exact congrArg _ (hostRequest_answer _ hready (fixedForm_badLength hp _ s.taken))

/-! ## WITHDRAW (R29) -/

theorem reqWithdraw_requesting (tag : Byte) {i : SeatId} {s : State} (h : s.floor.isOpen = true)
    (hi : s.requesting i = true) : reqWithdraw tag [BitVec.ofNat 8 i.val] s
      = reply 0x03 tag .ok [] (change (withdrawSeat i) s) := by
  simp [reqWithdraw, fixedForm, seatOf_ofNat, h, hi]

theorem reqWithdraw_notFound (tag : Byte) {i : SeatId} {s : State} (h : s.floor.isOpen = true)
    (hi : s.requesting i = false) : reqWithdraw tag [BitVec.ofNat 8 i.val] s = reply 0x03 tag .notFound [] s := by
  simp [reqWithdraw, fixedForm, seatOf_ofNat, h, hi]

theorem reqWithdraw_closed (tag : Byte) (i : SeatId) {s : State} (h : s.floor.isOpen = false) :
    reqWithdraw tag [BitVec.ofNat 8 i.val] s = reply 0x03 tag .wrongState [] s := by
  simp [reqWithdraw, fixedForm, seatOf_ofNat, h]

theorem reqWithdraw_badValue (tag : Byte) {b : Byte} (h : 64 ≤ b.toNat) (s : State) :
    reqWithdraw tag [b] s = reply 0x03 tag .badValue [] s := by
  simp [reqWithdraw, fixedForm, seatOf_eq_none h]

theorem not_requesting_of_withdrawn {i : SeatId} {s t : State}
    (h : t.floor.requests = s.floor.requests.filter fun r => decide (r.seat ≠ i)) : t.requesting i = false := by
  rw [not_requesting_iff, h]
  intro r hr
  simpa using (List.mem_filter.mp hr).2

/-- Settles O22: WITHDRAW's change takes the seat's entry out of the request list. -/
theorem withdrawRemovesRequest : Obligations.WithdrawRemovesRequest := by
  unfold Obligations.WithdrawRemovesRequest
  intro s tag hready
  refine ⟨fun i hopen hi => ?_, fun i hopen hn => ?_, fun i hclosed => ?_, fun b hb => ?_, fun p hp => ?_⟩
  · obtain ⟨hkept, hans, hh⟩ := hostRequest_steadyReply ⟨0x03, tag, [BitVec.ofNat 8 i.val]⟩ hready
      (reqWithdraw_requesting tag (s := s.taken) hopen hi) (withdrawSeat_steady i s.taken)
    have hfloor := hh.floor.trans (withdrawSeat_floor i s.taken)
    have hrefusal := (hh.refusal i).trans (withdrawSeat_refusal i s.taken i)
    rw [if_pos ⟨hi, rfl⟩] at hrefusal
    refine ⟨_, exec_withdraw _ _ _, hfloor, not_requesting_of_withdrawn (s := s) (by rw [hfloor]; rfl), hrefusal, ?_,
      hans⟩
    refine KeptBut.drop (b := .log) (hkept.mono (by decide)) ?_
    exact hh.log.trans (withdrawSeat_log i s.taken)
  · exact congrArg _ (hostRequest_answer _ hready (reqWithdraw_notFound tag (s := s.taken) hopen hn))
  · exact congrArg _ (hostRequest_answer _ hready (reqWithdraw_closed tag i (s := s.taken) hclosed))
  · exact congrArg _ (hostRequest_answer _ hready (reqWithdraw_badValue tag hb s.taken))
  · exact congrArg _ (hostRequest_answer _ hready (fixedForm_badLength hp _ s.taken))

end Sys2Proof.Machine
end

section
/-! The MIC, NEXT and PRIORITY keys. -/

open Sys2Proof Sys2Proof.Machine

namespace Sys2Proof.Machine

/-! ## The request list -/

theorem mem_insertRequest {e x : RequestEntry} {l : List RequestEntry} :
    x ∈ insertRequest e l ↔ x = e ∨ x ∈ l := by
  induction l with
  | nil => simp [insertRequest]
  | cons y l ih =>
    unfold insertRequest
    split
    · simp
    · simp [ih, or_left_comm]

theorem position_ne_none_iff (s : State) (i : SeatId) : s.position i ≠ none ↔ s.requesting i = true := by
  simp [State.position, State.requesting, List.findIdx?_eq_none_iff]

theorem requests_filter_of_not_requesting {s : State} {i : SeatId} (h : s.requesting i = false) :
    s.floor.requests.filter (fun r => decide (r.seat ≠ i)) = s.floor.requests :=
  List.filter_eq_self.mpr fun r hr => decide_eq_true ((not_requesting_iff s i).mp h r hr)

theorem queueSeat_floor {i : SeatId} {s : State} (h : s.floor.requests.length < 24) :
    (queueSeat i s).floor = { s.floor with
      requests := insertRequest ⟨i, (s.seatDef i).band, s.floor.arrivalCounter⟩ s.floor.requests
      arrivalCounter := (s.floor.arrivalCounter + 1) % 65536 } := by
  unfold queueSeat
  rw [if_pos (show s.floor.requests.length < Config.maxRequests from h)]
  rfl

theorem queueSeat_refusal {i : SeatId} {s : State} (h : s.floor.requests.length < 24) :
    ((queueSeat i s).seat i).refusal = none := by
  unfold queueSeat
  rw [if_pos (show s.floor.requests.length < Config.maxRequests from h)]
  exact clearRefusal_refusal_same _ i

theorem queueSeat_of_full {i : SeatId} {s : State} (h : 24 ≤ s.floor.requests.length) :
    queueSeat i s = refuse i .queueFull s := if_neg (Nat.not_lt.mpr h)

theorem queueSeat_requesting {i : SeatId} {s : State} (h : s.floor.requests.length < 24) :
    (queueSeat i s).requesting i = true := by
  rw [requesting_iff, queueSeat_floor h]
  exact ⟨_, mem_insertRequest.mpr (.inl rfl), rfl⟩

/-- Whoever waits after the head was granted waited before. -/
theorem grantHeadLoop_requests (fuel : Nat) (s : State) :
    ∀ r ∈ (grantHeadLoop fuel none s).2.floor.requests, r ∈ s.floor.requests := by
  induction fuel generalizing s with
  | zero => exact fun r hr => hr
  | succ n ih =>
    intro r hr
    unfold grantHeadLoop at hr
    split at hr
    · exact hr
    · split at hr
      · have := ih _ r hr
        rw [refuse_floor, withdrawSeat_floor] at this
        exact List.mem_of_mem_filter this
      · split at hr
        · rw [openSeat_floor] at hr
          exact List.mem_of_mem_filter hr
        · exact hr

theorem closeAdvance_requests {s : State} (hs : s.floor.Sound) {e : SpeakerEntry} (he : e ∈ s.floor.speakers)
    (r : CloseReason) : ∀ q ∈ (closeAdvance r e.seat s).floor.requests, q ∈ s.floor.requests := by
  have hsp := speaker_of_mem hs.speakersOnce he
  have hq := closeSeat_requests hs he r
  intro q h
  unfold closeAdvance at h
  rcases closeAdvanceAs_eq (w := s.boundAttendee) (r := r) hsp with hc | hc
  · rw [hc] at h; exact hq ▸ h
  · rw [hc] at h
    rcases advance_eq (closeSeatAs s.boundAttendee r e.seat s) with ha | ha
    · rw [ha] at h; exact hq ▸ h
    · rw [ha] at h; exact hq ▸ grantHeadLoop_requests _ _ q h

/-! ## MIC (R19 to R21) -/

theorem micPress_of_closed {i : SeatId} {s : State} (h : s.floor.isOpen = false) : micPress i s = s := by
  simp [micPress, h]

/-- What opening a seat that does not wait makes of the floor. -/
theorem openSeat_idle {i : SeatId} {s : State} (h : s.requesting i = false) :
    (openSeat i s).speaking i = true ∧ (openSeat i s).floor.requests = s.floor.requests := by
  rw [speaking_iff, openSeat_floor]
  exact ⟨⟨s.newSpeaker i, by simp, rfl⟩, requests_filter_of_not_requesting h⟩

section mic
variable {s : State} {i : SeatId} (ho : s.floor.isOpen = true)
include ho

theorem micPress_speaking (h : s.speaking i = true) : micPress i s
    = if s.floor.policy.ownClose then closeAdvance .own i (clearRefusal i s)
      else refuse i .noOwnClose (clearRefusal i s) := by
  have h' : (clearRefusal i s).speaking i = true := h
  simp only [micPress, ho, h', Bool.not_true, Bool.false_eq_true, if_false, if_true]
  rfl

theorem micPress_requesting (hn : s.speaking i = false) (h : s.requesting i = true) :
    micPress i s = withdrawSeat i (clearRefusal i s) := by
  have h' : (clearRefusal i s).requesting i = true := h
  have hn' : (clearRefusal i s).speaking i = false := hn
  simp [micPress, ho, h', hn']

variable (hidle : s.speaking i = false ∧ s.requesting i = false)
include hidle

theorem micPress_requestMode (hm : s.floor.policy.mode = .requestMode) :
    micPress i s = micRequestMode i (clearRefusal i s) := by
  have h' : (clearRefusal i s).requesting i = false := hidle.2
  have hn' : (clearRefusal i s).speaking i = false := hidle.1
  simp [micPress, ho, h', hn', hm]

theorem micPress_openMode (hm : s.floor.policy.mode = .openMode) :
    micPress i s = micOpenMode i (clearRefusal i s) := by
  have h' : (clearRefusal i s).requesting i = false := hidle.2
  have hn' : (clearRefusal i s).speaking i = false := hidle.1
  simp [micPress, ho, h', hn', hm]

end mic

/-- What the press of an eligible seat comes to where there is no room: the full action decides (R20). The state `t`
is that after the press has cleared the seat's refusal code. -/
def micWithoutRoom (i : SeatId) (s t : State) : State :=
  match s.floor.policy.fullAction with
  | .refuse => refuse i .full t
  | .queue => if s.eligibleToRequest i then queueSeat i t else refuse i .full t
  | .replaceOldest => if (s.seatDef i).chairClass then refuse i .full t else openSeat i (closeOldest .replaced t)

section micOpen
variable {s : State} {i : SeatId}

theorem micOpenMode_ineligible (h : s.eligibleToSpeak i = false) :
    micOpenMode i s = refuse i (s.refusalFor i) s := by
  simp [micOpenMode, h]

theorem micOpenMode_room (h : s.eligibleToSpeak i = true) (hr : s.roomFor (s.seatDef i).chairClass = true) :
    micOpenMode i s = openSeat i s := by
  simp [micOpenMode, h, hr]

theorem micOpenMode_noRoom (h : s.eligibleToSpeak i = true) (hr : s.roomFor (s.seatDef i).chairClass = false) :
    micOpenMode i s = micWithoutRoom i s s := by
  simp only [micOpenMode, h, hr, Bool.not_true, Bool.false_eq_true, if_false]
  rfl

theorem micRequestMode_eligible (h : s.eligibleToRequest i = true) : micRequestMode i s = queueSeat i s := by
  simp [micRequestMode, h]

end micOpen

/-- What a press at a SPEAKING seat does with own close. -/
theorem micPress_own {s : State} {i : SeatId} (ho : s.floor.isOpen = true) (hs : s.floor.Sound)
    (h : s.speaking i = true) (hown : s.floor.policy.ownClose = true) :
    (micPress i s).speaking i = false ∧ (micPress i s).requesting i = false
      ∧ ∃ e ∈ s.floor.speakers, e.seat = i ∧ (micPress i s).log = s.log.push (s.logRecord e .own) := by
  obtain ⟨e, he, rfl⟩ := (speaking_iff s i).mp h
  rw [micPress_speaking ho h, if_pos hown]
  have hcl := closeAdvance_closed (s := clearRefusal e.seat s) hs he .own
  refine ⟨hcl.gone, ?_, e, he, rfl, hcl.log.trans ?_⟩
  · rw [not_requesting_iff]
    exact fun q hq => (hs.requester_not_speaker
      (closeAdvance_requests (s := clearRefusal e.seat s) hs he .own q hq) he).symm
  · rw [(clearRefusal_steady e.seat s).logRecord]
    rfl

/-! ## PRIORITY (R23 to R25) -/

/-- The state in which the priority action is done: the seat is a holder, and opened where it did not speak. -/
def State.held1 (i : SeatId) (s : State) : State :=
  let s1 := (clearRefusal i s).setFloor { s.floor with
    holders := if i ∈ s.floor.holders then s.floor.holders else s.floor.holders ++ [i] }
  if s1.speaking i then s1 else openSeat i s1

theorem priorityHeld_eq {s : State} {i : SeatId} (ho : s.floor.isOpen = true) (hk : (s.seat i).kind = some .chair)
    (hc : (s.seatDef i).chairClass = true) (he : s.eligibleToSpeak i = true)
    (hr : s.speaking i = true ∨ s.roomFor true = true) : priorityHeld i s = applyPriority (s.held1 i) := by
  have hst := clearRefusal_steady i s
  have h1 : ((clearRefusal i s).seatDef i).chairClass = true := by rw [hst.seatDef, hc]
  have h2 : (clearRefusal i s).eligibleToSpeak i = true := by rw [hst.eligibleToSpeak, he]
  have h3 : (!(clearRefusal i s).speaking i && !(clearRefusal i s).roomFor true) = false := by
    rcases hr with h | h
    · have : (clearRefusal i s).speaking i = true := h
      simp [this]
    · have : (clearRefusal i s).roomFor true = true := h
      simp [this]
  simp only [priorityHeld, ho, hk, h1, h2, h3, Bool.not_true, Bool.false_eq_true, ne_eq, not_true_eq_false, or_self,
    if_false]
  rfl

/-- What the seat's becoming a holder makes of the floor. -/
structure HeldFloor (i : SeatId) (s u : State) : Prop where
  holds : i ∈ u.floor.holders
  holders : ∀ j ∈ u.floor.holders, j = i ∨ j ∈ s.floor.holders
  entries : ∀ e ∈ u.floor.speakers, e ∈ s.floor.speakers ∨ (e.seat = i ∧ e.chairClass = true)
  kept : ∀ e ∈ s.floor.speakers, e ∈ u.floor.speakers
  once : (u.floor.speakers.map (·.seat)).Nodup
  speaks : u.speaking i = true
  requests : u.floor.requests = s.floor.requests.filter fun r => decide (r.seat ≠ i)
  muting : u.floor.muting = s.floor.muting
  policy : u.floor.policy = s.floor.policy
  log : u.log = s.log

theorem held1_floor {s : State} {i : SeatId} (hs : s.floor.Sound) (hc : (s.seatDef i).chairClass = true) :
    HeldFloor i s (s.held1 i) := by
  have hh : i ∈ (if i ∈ s.floor.holders then s.floor.holders else s.floor.holders ++ [i]) := by
    split
    · assumption
    · simp
  have hhs : ∀ j ∈ (if i ∈ s.floor.holders then s.floor.holders else s.floor.holders ++ [i]),
      j = i ∨ j ∈ s.floor.holders := by
    intro j hj
    split at hj
    · exact .inr hj
    · simpa [or_comm] using hj
  set s1 := (clearRefusal i s).setFloor { s.floor with
    holders := if i ∈ s.floor.holders then s.floor.holders else s.floor.holders ++ [i] } with hs1
  have hst : Steady s s1 := (clearRefusal_steady i s).trans (Steady.ofFloor rfl rfl)
  have hsp : s1.speaking i = s.speaking i := rfl
  have hheld : s.held1 i = if s1.speaking i then s1 else openSeat i s1 := rfl
  cases h : s.speaking i with
  | true =>
    rw [hheld, hsp, h, if_pos rfl]
    obtain ⟨e, he, hei⟩ := (speaking_iff s i).mp h
    have hq : s.requesting i = false :=
      (not_requesting_iff s i).mpr fun r hr => hei ▸ (hs.requester_not_speaker hr he).symm
    exact ⟨hh, hhs, fun _ he => .inl he, fun _ he => he, hs.speakersOnce, h,
      (requests_filter_of_not_requesting hq).symm, rfl, rfl, rfl⟩
  | false =>
    rw [hheld, hsp, h, if_neg Bool.false_ne_true]
    have hfl := openSeat_floor i s1
    have hnew : (s1.newSpeaker i).seat = i ∧ (s1.newSpeaker i).chairClass = true :=
      ⟨rfl, by rw [← hc, ← hst.seatDef]; rfl⟩
    have hnot := (not_speaking_iff s i).mp h
    refine ⟨?_, ?_, ?_, ?_, ?_, ?_, ?_, ?_, ?_, (openSeat_log i s1).trans rfl⟩
    · rw [hfl]; exact hh
    · rw [hfl]; exact hhs
    · rw [hfl]
      intro e he
      rcases List.mem_append.mp he with he | he
      · exact .inl he
      · rw [List.mem_singleton.mp he]; exact .inr hnew
    · rw [hfl]; exact fun e he => List.mem_append_left _ he
    · rw [hfl, List.map_append]
      refine List.nodup_append.mpr ⟨hs.speakersOnce, List.nodup_singleton _, fun j hj k hk => ?_⟩
      obtain ⟨e, he, rfl⟩ := List.mem_map.mp hj
      rw [List.mem_singleton.mp hk]
      exact hnot e he
    · rw [speaking_iff, hfl]; exact ⟨_, List.mem_append_right _ (List.mem_singleton_self _), rfl⟩
    all_goals rw [hfl]; rfl

/-- The requests are emptied and then every ordinary entry is closed (R24, R30). -/
def clearOrdinary (r : CloseReason) (s : State) : State :=
  closeAll r (emptyRequests s).ordinarySeats (emptyRequests s)

theorem clearOrdinary_eq (r : CloseReason) {u : State} (hn : (u.floor.speakers.map (·.seat)).Nodup)
    (hh : ∀ e ∈ u.floor.speakers, e.chairClass = false → e.seat ∉ u.floor.holders) :
    (clearOrdinary r u).floor = { u.floor with
      requests := []
      speakers := u.floor.speakers.filter fun e => e.chairClass }
    ∧ (clearOrdinary r u).log = u.logAll r (u.floor.speakers.filter fun e => !e.chairClass) u.log := by
  have hq := emptyRequests_floor u
  set es := u.floor.speakers.filter fun e => !e.chairClass with hes
  have hord : (emptyRequests u).ordinarySeats = es.map (·.seat) := by
    simp only [State.ordinarySeats, hq, hes]
  have hmem : ∀ e ∈ es, e ∈ u.floor.speakers ∧ e.chairClass = false := fun e he => by
    simpa using List.mem_filter.mp he
  obtain ⟨hf, hl⟩ := closeAll_of_not_holders r es (emptyRequests u) (by rw [hq]; exact hn)
    (hn.sublist (List.filter_sublist.map _)) (by rw [hq]; exact fun e he => (hmem e he).1)
    (by rw [hq]; exact fun e he => hh e (hmem e he).1 (hmem e he).2)
  rw [clearOrdinary, hord]
  refine ⟨?_, hl.trans ?_⟩
  · rw [hf, hq]
    refine congrArg (fun l => { u.floor with requests := [], speakers := l }) (List.filter_congr fun e he => ?_)
    cases hc : e.chairClass <;> simp [hes, he, hc]
  · rw [(emptyRequests_steady u).logAll, emptyRequests_log]

/-- Under CANCEL the requests are emptied and every ordinary entry is closed (R24). -/
theorem applyPriority_cancel {u : State} (hp : u.floor.policy.priorityAction = .cancel)
    (hn : (u.floor.speakers.map (·.seat)).Nodup)
    (hh : ∀ e ∈ u.floor.speakers, e.chairClass = false → e.seat ∉ u.floor.holders) :
    (applyPriority u).floor = { u.floor with
      requests := []
      speakers := u.floor.speakers.filter fun e => e.chairClass } := by
  have heq : applyPriority u = clearOrdinary .priority u := by simp only [applyPriority, hp, clearOrdinary]
  rw [heq]
  exact (clearOrdinary_eq .priority hn hh).1

theorem priorityReleased_floor {s : State} {i : SeatId} (ho : s.floor.isOpen = true) (hs : s.floor.Sound)
    (hk : (s.seat i).kind = some .chair) (hh : s.floor.holders = [i]) :
    (priorityReleased i s).floor = { s.floor with
      holders := [], muting := false, speakers := s.floor.speakers.map fun e => { e with muted := false } } := by
  have hr : priorityReleased i s = dropHolder i s := by simp [priorityReleased, ho, hk]
  rw [hr, dropHolder_floor i fun hm _ he => hs.unmuted he hm,
    Floor.released_of_last (by simp [hh]) (by simp [hh])]
  rfl

/-! ## NEXT (R22) -/

/-- What the pressing seat gets by what granting the head came to. -/
def afterGrant (i : SeatId) (p : GrantOutcome × State) : State :=
  match p.1 with
  | .opened => p.2
  | .empty => refuse i .noneWaiting p.2
  | .noRoom => refuse i .full p.2

section next
variable {s : State} {i : SeatId} (ho : s.floor.isOpen = true) (hk : (s.seat i).kind = some .chair)
include ho hk

theorem nextPress_notChair (hc : (s.seatDef i).chairClass = false) :
    nextPress i s = refuse i .notPermitted (clearRefusal i s) := by
  have h1 : ((clearRefusal i s).seatDef i).chairClass = false := by rw [(clearRefusal_steady i s).seatDef, hc]
  simp [nextPress, ho, hk, h1]

/-- A chair's press acts by what granting the head comes to. -/
theorem nextPress_chair (hc : (s.seatDef i).chairClass = true) : nextPress i s = afterGrant i
    (grantHead (if s.floor.policy.fullAction = .replaceOldest then some .chair else none) (clearRefusal i s)) := by
  have h1 : ((clearRefusal i s).seatDef i).chairClass = true := by rw [(clearRefusal_steady i s).seatDef, hc]
  simp only [nextPress, ho, hk, h1, Bool.not_true, Bool.false_eq_true, ne_eq, not_true_eq_false, or_self, if_false]
  show _ = afterGrant i (grantHead (if (clearRefusal i s).floor.policy.fullAction = .replaceOldest
    then some .chair else none) (clearRefusal i s))
  rcases grantHead _ (clearRefusal i s) with ⟨_ | _ | _, u⟩ <;> rfl

end next

/-! ## What a MIC press comes to -/

section micActs
variable {s : State} {i : SeatId} (ho : s.floor.isOpen = true)
include ho

theorem micPress_noOwnClose (h : s.speaking i = true) (hown : s.floor.policy.ownClose = false) :
    (micPress i s).floor = s.floor ∧ (micPress i s).log = s.log
      ∧ ((micPress i s).seat i).refusal = some .noOwnClose := by
  rw [micPress_speaking ho h, hown, if_neg Bool.false_ne_true]
  exact ⟨rfl, rfl, refuse_refusal_same _ _ _⟩

theorem micPress_withdraws (hs : s.floor.Sound) (h : s.requesting i = true) :
    (micPress i s).floor = { s.floor with requests := s.floor.requests.filter fun r => decide (r.seat ≠ i) }
      ∧ (micPress i s).log = s.log ∧ ((micPress i s).seat i).refusal = none := by
  obtain ⟨r, hr, hri⟩ := (requesting_iff s i).mp h
  have hn : s.speaking i = false :=
    (not_speaking_iff s i).mpr fun e he => hri ▸ hs.requester_not_speaker hr he
  rw [micPress_requesting ho hn h, withdrawSeat_floor, withdrawSeat_log, withdrawSeat_refusal]
  exact ⟨rfl, rfl, if_pos ⟨h, rfl⟩⟩

variable (hidle : s.speaking i = false ∧ s.requesting i = false)
include hidle

section requestMode
variable (hm : s.floor.policy.mode = .requestMode) (he : s.eligibleToRequest i = true)
include hm he

theorem micPress_queueSeat : micPress i s = queueSeat i (clearRefusal i s) := by
  rw [micPress_requestMode ho hidle hm,
    micRequestMode_eligible ((clearRefusal_steady i s).eligibleToRequest i |>.trans he)]

theorem micPress_queues (h24 : s.floor.requests.length < 24) :
    (micPress i s).requesting i = true ∧ (micPress i s).position i ≠ none
      ∧ (micPress i s).floor.speakers = s.floor.speakers
      ∧ (micPress i s).floor.arrivalCounter = (s.floor.arrivalCounter + 1) % 65536
      ∧ ((micPress i s).seat i).refusal = none := by
  have hq : (clearRefusal i s).floor.requests.length < 24 := h24
  rw [micPress_queueSeat ho hidle hm he, position_ne_none_iff, queueSeat_floor hq]
  exact ⟨queueSeat_requesting hq, queueSeat_requesting hq, rfl, rfl, queueSeat_refusal hq⟩

theorem micPress_queueFull (h24 : 24 ≤ s.floor.requests.length) :
    (micPress i s).floor = s.floor ∧ ((micPress i s).seat i).refusal = some .queueFull := by
  have hq : 24 ≤ (clearRefusal i s).floor.requests.length := h24
  rw [micPress_queueSeat ho hidle hm he, queueSeat_of_full hq]
  exact ⟨rfl, refuse_refusal_same _ _ _⟩

end requestMode

section openMode
variable (hm : s.floor.policy.mode = .openMode)
include hm

theorem micPress_ineligible (he : s.eligibleToSpeak i = false) :
    (micPress i s).floor = s.floor ∧ ((micPress i s).seat i).refusal = some (s.refusalFor i) := by
  have hst := clearRefusal_steady i s
  rw [micPress_openMode ho hidle hm, micOpenMode_ineligible ((hst.eligibleToSpeak i).trans he), hst.refusalFor]
  exact ⟨rfl, refuse_refusal_same _ _ _⟩

variable (he : s.eligibleToSpeak i = true)
include he

theorem micPress_opens (hr : s.roomFor (s.seatDef i).chairClass = true) :
    (micPress i s).speaking i = true ∧ (micPress i s).floor.requests = s.floor.requests
      ∧ ((micPress i s).seat i).refusal = none
      ∧ ∃ e : SpeakerEntry, e.seat = i ∧ e.elapsed = 0 ∧ e.chairClass = (s.seatDef i).chairClass
        ∧ (micPress i s).floor.speakers = s.floor.speakers ++ [e] := by
  have hst := clearRefusal_steady i s
  have hr' : (clearRefusal i s).roomFor ((clearRefusal i s).seatDef i).chairClass = true := by
    rw [hst.seatDef]; exact hr
  rw [micPress_openMode ho hidle hm, micOpenMode_room ((hst.eligibleToSpeak i).trans he) hr']
  obtain ⟨hsp, hq⟩ := openSeat_idle (s := clearRefusal i s) hidle.2
  refine ⟨hsp, hq, by simp [openSeat_refusal], (clearRefusal i s).newSpeaker i, rfl, rfl, ?_, by rw [openSeat_floor]; rfl⟩
  rw [← hst.seatDef]
  rfl

variable (hr : s.roomFor (s.seatDef i).chairClass = false)
include hr

theorem micPress_noRoom : micPress i s = micWithoutRoom i s (clearRefusal i s) := by
  have hst := clearRefusal_steady i s
  have hr' : (clearRefusal i s).roomFor ((clearRefusal i s).seatDef i).chairClass = false := by
    rw [hst.seatDef]; exact hr
  rw [micPress_openMode ho hidle hm, micOpenMode_noRoom ((hst.eligibleToSpeak i).trans he) hr']
  simp only [micWithoutRoom, hst.seatDef, hst.eligibleToRequest, clearRefusal_floor]

theorem micPress_refused (hf : s.floor.policy.fullAction = .refuse) :
    (micPress i s).floor = s.floor ∧ ((micPress i s).seat i).refusal = some .full := by
  rw [micPress_noRoom ho hidle hm he hr, micWithoutRoom, hf]
  exact ⟨rfl, refuse_refusal_same _ _ _⟩

theorem micPress_queuesWithoutRoom (hf : s.floor.policy.fullAction = .queue) (hq : s.eligibleToRequest i = true)
    (h24 : s.floor.requests.length < 24) :
    (micPress i s).requesting i = true ∧ (micPress i s).floor.speakers = s.floor.speakers := by
  have h24' : (clearRefusal i s).floor.requests.length < 24 := h24
  have : micPress i s = queueSeat i (clearRefusal i s) := by
    rw [micPress_noRoom ho hidle hm he hr, micWithoutRoom, hf]; exact if_pos hq
  rw [this]
  exact ⟨queueSeat_requesting h24', by rw [queueSeat_floor h24']; rfl⟩

theorem micPress_chairRefused (hf : s.floor.policy.fullAction = .replaceOldest)
    (hc : (s.seatDef i).chairClass = true) : (micPress i s).floor = s.floor ∧ (micPress i s).log = s.log
      ∧ ((micPress i s).seat i).refusal = some .full := by
  have : micPress i s = refuse i .full (clearRefusal i s) := by
    rw [micPress_noRoom ho hidle hm he hr, micWithoutRoom, hf]; exact if_pos hc
  rw [this]
  exact ⟨rfl, rfl, refuse_refusal_same _ _ _⟩

theorem micPress_replaces (hs : s.floor.Sound) (hf : s.floor.policy.fullAction = .replaceOldest)
    (hc : (s.seatDef i).chairClass = false) {old : SpeakerEntry}
    (hold : s.floor.speakers.find? (fun e => !e.chairClass) = some old) :
    (micPress i s).speaking i = true ∧ (micPress i s).floor.requests = s.floor.requests
      ∧ (micPress i s).log = s.log.push (s.logRecord old .replaced)
      ∧ ∃ e : SpeakerEntry, e.seat = i ∧ e.elapsed = 0 ∧ e.chairClass = false
        ∧ (micPress i s).floor.speakers
          = s.floor.speakers.filter (fun x => decide (x.seat ≠ old.seat)) ++ [e] := by
  have hst := clearRefusal_steady i s
  have heq : micPress i s = openSeat i (closeOldest .replaced (clearRefusal i s)) := by
    rw [micPress_noRoom ho hidle hm he hr, micWithoutRoom, hf]
    exact if_neg (by rw [hc]; exact Bool.false_ne_true)
  obtain ⟨hfl, hlog⟩ := openSeat_closeOldest_eq (s := clearRefusal i s) hs hold .replaced i
  rw [heq, speaking_iff, hfl, hlog, hst.logRecord]
  refine ⟨⟨_, List.mem_append_right _ (List.mem_singleton_self _), rfl⟩, requests_filter_of_not_requesting hidle.2,
    rfl, _, rfl, rfl, ?_, rfl⟩
  rw [← hc, ← hst.seatDef]
  rfl

end openMode
end micActs

/-! ## What PRIORITY comes to -/

theorem priorityHeld_acts {s : State} {i : SeatId} (ho : s.floor.isOpen = true) (hs : s.floor.Sound)
    (hk : (s.seat i).kind = some .chair) (hc : (s.seatDef i).chairClass = true) (he : s.eligibleToSpeak i = true)
    (hr : s.speaking i = true ∨ s.roomFor true = true)
    (hown : ∀ e ∈ s.floor.speakers, e.seat = i → e.chairClass = true) :
    let t := priorityHeld i s
    i ∈ t.floor.holders ∧ t.speaking i = true
    ∧ (s.floor.policy.priorityAction = .mute →
        t.floor.muting = true ∧ t.log = s.log
        ∧ (∀ e ∈ t.floor.speakers, e.chairClass = false → e.muted = true ∧ e.wasMuted = true)
        ∧ (∀ e ∈ s.floor.speakers, ∃ e' ∈ t.floor.speakers, e'.seat = e.seat ∧ e'.elapsed = e.elapsed)
        ∧ t.floor.requests = s.floor.requests.filter fun r => decide (r.seat ≠ i))
    ∧ (s.floor.policy.priorityAction = .cancel →
        t.floor.requests = [] ∧ (∀ e ∈ t.floor.speakers, e.chairClass = true)
        ∧ t.floor.muting = s.floor.muting) := by
  intro t
  have ht : t = applyPriority (s.held1 i) := priorityHeld_eq ho hk hc he hr
  have hu := held1_floor hs hc
  obtain ⟨own, hownMem, hownSeat⟩ := (speaking_iff _ i).mp hu.speaks
  have hownChair : own.chairClass = true :=
    (hu.entries own hownMem).elim (fun h => hown own h hownSeat) (·.2)
  cases hp : s.floor.policy.priorityAction with
  | mute =>
    have hm : applyPriority (s.held1 i) = (s.held1 i).setFloor { (s.held1 i).floor with
        muting := true
        speakers := (s.held1 i).floor.speakers.map fun e =>
          if e.chairClass then e else { e with muted := true, wasMuted := true } } := by
      simp only [applyPriority, hu.policy, hp]
    rw [ht, hm]
    refine ⟨hu.holds, ?_, fun _ => ⟨rfl, hu.log, ?_, ?_, hu.requests⟩, fun h => by cases h⟩
    · exact (speaking_iff _ i).mpr ⟨own, List.mem_map.mpr ⟨own, hownMem, by simp [hownChair]⟩, hownSeat⟩
    · intro e hmem hord
      obtain ⟨x, -, rfl⟩ := List.mem_map.mp hmem
      cases hx : x.chairClass <;> simp [hx] at hord ⊢
    · intro e hmem
      refine ⟨_, List.mem_map.mpr ⟨e, hu.kept e hmem, rfl⟩, ?_⟩
      split <;> exact ⟨rfl, rfl⟩
  | cancel =>
    have hf := applyPriority_cancel (u := s.held1 i) (by rw [hu.policy, hp]) hu.once fun e hmem hord hh => by
      rcases hu.entries e hmem with h | ⟨-, h⟩
      · rcases hu.holders _ hh with hi | hj
        · rw [hown e h hi] at hord; cases hord
        · exact hs.ordinary_not_holder h hord hj
      · rw [h] at hord; cases hord
    rw [ht, speaking_iff, hf]
    exact ⟨hu.holds, ⟨own, List.mem_filter.mpr ⟨hownMem, hownChair⟩, hownSeat⟩, fun h => (by cases h),
      fun _ => ⟨rfl, fun e hmem => (List.mem_filter.mp hmem).2, hu.muting⟩⟩

theorem chairKeys_of_delegate {s : State} {i : SeatId} (hk : (s.seat i).kind ≠ some .chair) :
    priorityHeld i s = s ∧ priorityReleased i s = s ∧ nextPress i s = s := by
  simp [priorityHeld, priorityReleased, nextPress, hk]

/-! ## What NEXT comes to -/

section nextActs
variable {s : State} {i : SeatId} (ho : s.floor.isOpen = true) (hk : (s.seat i).kind = some .chair)
include ho hk

theorem nextPress_notPermitted (hc : (s.seatDef i).chairClass = false) :
    ((nextPress i s).floor = s.floor ∧ (nextPress i s).log = s.log)
      ∧ ((nextPress i s).seat i).refusal = some .notPermitted := by
  rw [nextPress_notChair ho hk hc]
  exact ⟨⟨rfl, rfl⟩, refuse_refusal_same _ _ _⟩

variable (hc : (s.seatDef i).chairClass = true)
include hc

theorem nextPress_noneWaiting (hq : s.floor.requests = []) :
    ((nextPress i s).floor = s.floor ∧ (nextPress i s).log = s.log)
      ∧ ((nextPress i s).seat i).refusal = some .noneWaiting := by
  rw [nextPress_chair ho hk hc, grantHead_of_empty _ (s := clearRefusal i s) hq]
  exact ⟨⟨rfl, rfl⟩, refuse_refusal_same _ _ _⟩

/-- An ineligible head that waits alone is withdrawn, and nobody is left to open (R12, R22). -/
theorem nextPress_withdrawsHead {r : RequestEntry} (hq : s.floor.requests = [r])
    (he : s.eligibleToSpeak r.seat = false) :
    (nextPress i s).floor = { s.floor with requests := [] } ∧ (nextPress i s).log = s.log
      ∧ ((nextPress i s).seat i).refusal = some .noneWaiting
      ∧ (r.seat ≠ i → ((nextPress i s).seat r.seat).refusal = some .notPermitted) := by
  have hst := clearRefusal_steady i s
  set u := refuse r.seat .notPermitted (withdrawSeat r.seat (clearRefusal i s)) with hu
  have hfl : u.floor = { s.floor with requests := [] } := by
    rw [hu, refuse_floor, withdrawSeat_floor]
    simp [hq]
  have hloop : ∀ replace, grantHeadLoop 1 replace u = (.empty, u) := fun replace => by
    simp [grantHeadLoop, hfl]
  rw [nextPress_chair ho hk hc,
    grantHead_of_ineligible _ (s := clearRefusal i s) hq ((hst.eligibleToSpeak r.seat).trans he), ← hu,
    List.length_nil, hloop]
  refine ⟨hfl, withdrawSeat_log _ _, refuse_refusal_same _ _ _, fun hne => ?_⟩
  exact (refuse_refusal u i r.seat _).trans ((if_neg hne).trans (refuse_refusal_same _ _ _))

variable {r : RequestEntry} {rest : List RequestEntry} (hs : s.floor.Sound) (hq : s.floor.requests = r :: rest)
  (he : s.eligibleToSpeak r.seat = true)
include hs hq he

theorem nextPress_opensHead (hr : s.roomFor (s.seatDef r.seat).chairClass = true) :
    ((nextPress i s).floor.requests = rest ∧ ((nextPress i s).seat i).refusal = none
      ∧ ∃ e : SpeakerEntry, e.seat = r.seat ∧ e.elapsed = 0 ∧ e.chairClass = (s.seatDef r.seat).chairClass
        ∧ (nextPress i s).floor.speakers = s.floor.speakers ++ [e])
      ∧ (nextPress i s).log = s.log := by
  have hst := clearRefusal_steady i s
  have hr' : (clearRefusal i s).roomFor ((clearRefusal i s).seatDef r.seat).chairClass = true := by
    rw [hst.seatDef]; exact hr
  have heq : nextPress i s = openSeat r.seat (clearRefusal i s) := by
    rw [nextPress_chair ho hk hc,
      grantHead_of_room _ (s := clearRefusal i s) hq ((hst.eligibleToSpeak r.seat).trans he) hr']
    rfl
  rw [heq, openSeat_floor, openSeat_log, openSeat_refusal, clearRefusal_refusal_same]
  refine ⟨⟨hs.requests_behind_head hq, ite_self _, _, rfl, rfl, ?_, rfl⟩, rfl⟩
  rw [← hst.seatDef]
  rfl

omit hs in
theorem nextPress_full (hr : s.roomFor (s.seatDef r.seat).chairClass = false)
    (hn : s.floor.policy.fullAction ≠ .replaceOldest ∨ (s.seatDef r.seat).chairClass = true) :
    ((nextPress i s).floor = s.floor ∧ (nextPress i s).log = s.log)
      ∧ ((nextPress i s).seat i).refusal = some .full := by
  have hst := clearRefusal_steady i s
  have hr' : (clearRefusal i s).roomFor ((clearRefusal i s).seatDef r.seat).chairClass = false := by
    rw [hst.seatDef]; exact hr
  have heq : nextPress i s = refuse i .full (clearRefusal i s) := by
    rw [nextPress_chair ho hk hc,
      grantHead_of_noRoom _ (s := clearRefusal i s) hq ((hst.eligibleToSpeak r.seat).trans he) hr'
        (hn.imp (fun h => if_neg h) fun h => by rw [hst.seatDef, h])]
    rfl
  rw [heq]
  exact ⟨⟨rfl, rfl⟩, refuse_refusal_same _ _ _⟩

theorem nextPress_replaces (hr : s.roomFor (s.seatDef r.seat).chairClass = false)
    (hcr : (s.seatDef r.seat).chairClass = false) (hf : s.floor.policy.fullAction = .replaceOldest)
    {old : SpeakerEntry} (hold : s.floor.speakers.find? (fun e => !e.chairClass) = some old) :
    ((nextPress i s).floor.requests = rest ∧ ((nextPress i s).seat i).refusal = none
      ∧ ∃ e : SpeakerEntry, e.seat = r.seat ∧ e.elapsed = 0 ∧ e.chairClass = (s.seatDef r.seat).chairClass
        ∧ (nextPress i s).floor.speakers = s.floor.speakers.filter (fun x => decide (x.seat ≠ old.seat)) ++ [e])
      ∧ (nextPress i s).log = s.log.push (s.logRecord old .chair) := by
  have hst := clearRefusal_steady i s
  have hcr' : ((clearRefusal i s).seatDef r.seat).chairClass = false := by rw [hst.seatDef, hcr]
  have hr' : (clearRefusal i s).roomFor ((clearRefusal i s).seatDef r.seat).chairClass = false := by
    rw [hst.seatDef]; exact hr
  have heq : nextPress i s = openSeat r.seat (closeOldest .chair (clearRefusal i s)) := by
    rw [nextPress_chair ho hk hc, if_pos hf,
      grantHead_of_replace .chair (s := clearRefusal i s) hq ((hst.eligibleToSpeak r.seat).trans he) hr' hcr']
    rfl
  obtain ⟨hfl, hlog⟩ := openSeat_closeOldest_eq (s := clearRefusal i s) hs hold .chair r.seat
  have hrefusal : ((closeOldest .chair (clearRefusal i s)).seat i).refusal = none := by
    have hsp := speaker_of_mem (s := clearRefusal i s) hs.speakersOnce (List.mem_of_find?_eq_some hold)
    have hcl : closeOldest .chair (clearRefusal i s) = closeSeat .chair old.seat (clearRefusal i s) := by
      simp [closeOldest, State.oldestOrdinary, hold]
    rw [hcl]
    exact (closeSeatAs_refusal hsp i).trans (by rw [clearRefusal_refusal_same, ite_self])
  rw [heq, hfl, hlog, hst.logRecord, openSeat_refusal, hrefusal]
  refine ⟨⟨hs.requests_behind_head hq, ite_self _, _, rfl, rfl, ?_, rfl⟩, rfl⟩
  rw [← hst.seatDef]
  rfl

end nextActs

/-! ## The statement -/

/-- A change that alters the lists, the holders, the muting mark or the floor's state alters the report (R14). -/
theorem floorReport_ne {s t : State} (h : t.floor.isOpen ≠ s.floor.isOpen ∨ t.floor.requests ≠ s.floor.requests
    ∨ t.floor.holders ≠ s.floor.holders ∨ t.floor.muting ≠ s.floor.muting
    ∨ t.floor.speakers.map (fun e => (e.seat, e.speech, e.muted, e.chairClass))
      ≠ s.floor.speakers.map (fun e => (e.seat, e.speech, e.muted, e.chairClass))) :
    s.floorReport ≠ t.floorReport := by
  intro he
  simp only [State.floorReport, FloorReport.mk.injEq] at he
  obtain ⟨h1, h2, h3, h4, h5⟩ := he
  simp [h1, h2, h3, h4, h5] at h

/-- Settles O24: each clause is what the press comes to in its case. -/
theorem seatKeysAct : Obligations.SeatKeysAct := by
  refine ⟨fun s i => ⟨micPress_of_closed, ?_⟩, ⟨fun s i ho hs hk => priorityHeld_acts ho hs hk,
    fun s i ho hs hk => priorityReleased_floor ho hs hk, fun s i => chairKeys_of_delegate⟩, ?_,
    fun s t f ht h => ?_⟩
  · rintro ho hs t rfl
    exact ⟨micPress_own ho hs, micPress_noOwnClose ho, micPress_withdraws ho hs, micPress_queues ho,
      micPress_queueFull ho, micPress_opens ho, micPress_refused ho, micPress_queuesWithoutRoom ho,
      fun hi hm he hr hf => ⟨micPress_chairRefused ho hi hm he hr hf,
        fun old hc hold => micPress_replaces ho hi hm he hr hs hf hc hold⟩,
      fun hi he hm => micPress_ineligible ho hi hm he⟩
  · rintro s i ho hs hk t rfl
    exact ⟨nextPress_notPermitted ho hk, nextPress_noneWaiting ho hk, fun r hc => nextPress_withdrawsHead ho hk hc,
      fun r rest hc hq he => ⟨nextPress_opensHead ho hk hc hs hq he, nextPress_full ho hk hc hq he,
        fun old hr hcr hf hold => nextPress_replaces ho hk hc hs hq he hr hcr hf hold⟩⟩
  · subst ht
    exact change_marks_floor (floorReport_ne h)

end Sys2Proof.Machine
end

section
/-! The rule that a SET_FLOOR leaves behind: nobody twice, and no more ordinary entries than Smax, whatever its
checks, its draining and the consequences of role changes close, open and move (R2, R4, R32). -/

open Sys2Proof Sys2Proof.Machine

namespace Sys2Proof.Machine

/-! ## The rule -/

/-- No seat stands twice in the lists, and at most Smax entries are ordinary (R2, R4). -/
structure Bounded (s : State) : Prop where
  once : (s.floor.speakers.map (·.seat) ++ s.floor.requests.map (·.seat)).Nodup
  room : classCount false s.floor.speakers ≤ s.floor.policy.smax

theorem classCount_eq_count (c : Bool) (l : List SpeakerEntry) : classCount c l = (l.map (·.chairClass)).count c := by
  simp only [classCount, List.count_eq_countP, List.countP_map, ← List.countP_eq_length_filter]
  rfl

namespace Bounded

variable {s t : State}

/-- The rule is kept where the lists shrink, the order of the requests set aside. -/
theorem mono (h : Bounded s) (hst : Steady s t)
    (hs : (t.floor.speakers.map (·.seat)).Sublist (s.floor.speakers.map (·.seat)))
    (hc : classCount false t.floor.speakers ≤ classCount false s.floor.speakers)
    (hn : (t.floor.requests.map (·.seat)).Nodup)
    (hq : t.floor.requests.map (·.seat) ⊆ s.floor.requests.map (·.seat)) : Bounded t := by
  obtain ⟨hsn, _, hd⟩ := List.nodup_append.mp h.once
  refine ⟨List.nodup_append.mpr ⟨hsn.sublist hs, hn, fun a ha b hb => hd a (hs.subset ha) b (hq hb)⟩, ?_⟩
  rw [hst.policy]
  exact hc.trans h.room

theorem requestsOnce (h : Bounded s) : (s.floor.requests.map (·.seat)).Nodup := (List.nodup_append.mp h.once).2.1

theorem speakersOnce (h : Bounded s) : (s.floor.speakers.map (·.seat)).Nodup := (List.nodup_append.mp h.once).1

/-- The rule speaks of the seats and the classes alone. -/
theorem same (h : Bounded s) (hst : Steady s t)
    (hs : ∀ {β : Type} (g : SpeakerEntry → β), (∀ e b w o, g { e with muted := b, warned := w, overran := o } = g e) →
      t.floor.speakers.map g = s.floor.speakers.map g)
    (hq : t.floor.requests = s.floor.requests) : Bounded t := by
  refine h.mono hst (hs (·.seat) (fun _ _ _ _ => rfl) ▸ .refl _) (le_of_eq ?_) (hq ▸ h.requestsOnce) (by rw [hq]; exact fun _ => id)
  rw [classCount_eq_count, classCount_eq_count, hs (·.chairClass) fun _ _ _ _ => rfl]

theorem ofFloor (h : Bounded s) (hf : t.floor = s.floor) : Bounded t := ⟨hf ▸ h.once, hf ▸ h.room⟩

theorem ite {c : Prop} [Decidable c] (h : c → Bounded s) (k : ¬ c → Bounded t) : Bounded (if c then s else t) := by
  split
  · next hc => exact h hc
  · next hc => exact k hc

theorem foldl {α : Type} {f : State → α → State} (hf : ∀ s a, Bounded s → Bounded (f s a)) (l : List α)
    (h : Bounded s) : Bounded (l.foldl f s) := by
  induction l generalizing s with
  | nil => exact h
  | cons a l ih => exact ih (hf s a h)

/-! ## The shared steps -/

theorem refuse (h : Bounded s) (i : SeatId) (c : RefusalCode) : Bounded (Machine.refuse i c s) := h.ofFloor rfl

theorem withdrawSeat (h : Bounded s) (i : SeatId) : Bounded (Machine.withdrawSeat i s) := by
  have hf := withdrawSeat_floor i s
  have hsub : ((Machine.withdrawSeat i s).floor.requests.map (·.seat)).Sublist (s.floor.requests.map (·.seat)) := by
    rw [hf]; exact List.filter_sublist.map _
  exact h.mono (withdrawSeat_steady i s) (by rw [hf]) (by rw [hf]) (h.requestsOnce.sublist hsub) hsub.subset

theorem dropHolder (h : Bounded s) (i : SeatId) : Bounded (Machine.dropHolder i s) :=
  h.same (dropHolder_steady i s) (fun g hg => dropHolder_speakers i s g fun e b => hg e b e.warned e.overran)
    (dropHolder_requests i s)

theorem closeSeatAs (h : Bounded s) (w : SeatId → Option Nat) (r : CloseReason) (i : SeatId) :
    Bounded (Machine.closeSeatAs w r i s) := by
  unfold Machine.closeSeatAs
  split
  · exact h
  · next e _ =>
    have hsub : (s.floor.speakers.filter (fun x => !(x.seat == i))).Sublist s.floor.speakers := List.filter_sublist
    refine dropHolder (s := clearRefusal i (setSpeakers _ (noteClose i r (logSpeech (w i) e r s))))
      (h.mono ?_ (hsub.map _) ?_ h.requestsOnce fun _ => id) i
    · exact (((logSpeech_steady (w i) e r s).trans (noteClose_steady i r _)).trans (setSpeakers_steady _ _)).trans
        (clearRefusal_steady i _)
    · exact (hsub.filter _).length_le

/-- A seat that waits opens where there is room for its class. -/
theorem openSeat (h : Bounded s) {i : SeatId} (hi : s.requesting i = true)
    (hr : s.roomFor (s.seatDef i).chairClass = true) : Bounded (Machine.openSeat i s) := by
  obtain ⟨hsn, hrn, hd⟩ := List.nodup_append.mp h.once
  obtain ⟨r, hrm, rfl⟩ := (requesting_iff s i).mp hi
  have hmem : r.seat ∈ s.floor.requests.map (·.seat) := List.mem_map_of_mem hrm
  have hsub : ((s.floor.requests.filter fun q => decide (q.seat ≠ r.seat)).map (·.seat)).Sublist
      (s.floor.requests.map (·.seat)) := List.filter_sublist.map _
  refine ⟨?_, ?_⟩
  · rw [openSeat_floor]
    simp only [List.map_append, List.map_cons, List.map_nil, List.append_assoc, List.singleton_append]
    refine List.nodup_append.mpr ⟨hsn, List.nodup_cons.mpr ⟨?_, hrn.sublist hsub⟩, fun a ha b hb => ?_⟩
    · intro hx
      obtain ⟨q, hq, hqe⟩ := List.mem_map.mp hx
      exact absurd hqe (of_decide_eq_true (List.mem_filter.mp hq).2)
    · rcases List.mem_cons.mp hb with rfl | hb
      · exact hd a ha _ hmem
      · exact hd a ha b (hsub.subset hb)
  · have hcount : classCount false (s.floor.speakers ++ [s.newSpeaker r.seat])
        = classCount false s.floor.speakers + if (s.seatDef r.seat).chairClass = false then 1 else 0 := by
      simp only [classCount, List.filter_append, List.length_append, List.filter_cons, List.filter_nil]
      cases hc : (s.seatDef r.seat).chairClass <;> simp [State.newSpeaker, hc]
    rw [openSeat_floor]
    refine hcount.trans_le ?_
    cases hc : (s.seatDef r.seat).chairClass with
    | true => exact h.room
    | false =>
      simp only [hc, State.roomFor, Bool.false_eq_true, if_false, decide_eq_true_eq] at hr
      exact hr

theorem grantHeadLoop (h : Bounded s) (fuel : Nat) : Bounded (Machine.grantHeadLoop fuel none s).2 := by
  induction fuel generalizing s with
  | zero => exact h
  | succ n ih =>
    unfold Machine.grantHeadLoop
    split
    · exact h
    · next r _ hq =>
      split
      · exact ih ((h.withdrawSeat r.seat).refuse r.seat .notPermitted)
      · split
        · next hr => exact h.openSeat ((requesting_iff s _).mpr ⟨r, hq ▸ List.mem_cons_self, rfl⟩) hr
        · exact h

theorem advance (h : Bounded s) : Bounded (Machine.advance s) := by
  rcases advance_eq s with ha | ha
  · rwa [ha]
  · rw [ha]; exact h.grantHeadLoop _

theorem closeAdvanceAs (h : Bounded s) (w : SeatId → Option Nat) (r : CloseReason) (i : SeatId) :
    Bounded (Machine.closeAdvanceAs w r i s) := by
  unfold Machine.closeAdvanceAs
  split
  · exact h
  · exact .ite (fun _ => h.closeSeatAs w r i) fun _ => (h.closeSeatAs w r i).advance

/-! ## The checks of timing, allowance and limit -/

/-- A change of one entry that leaves its seat, and makes no ordinary entry. -/
theorem modSpeaker (h : Bounded s) (i : SeatId) {f : SpeakerEntry → SpeakerEntry} (hf : ∀ e, (f e).seat = e.seat)
    (hc : ∀ e, e.chairClass = true → (f e).chairClass = true) : Bounded (Machine.modSpeaker i f s) := by
  have hseats : (Machine.modSpeaker i f s).floor.speakers.map (·.seat) = s.floor.speakers.map (·.seat) := by
    simp only [Machine.modSpeaker, setSpeakers, State.setFloor_floor, List.map_map]
    refine List.map_congr_left fun e _ => ?_
    dsimp only [Function.comp]
    split
    · exact hf e
    · rfl
  refine h.mono (modSpeaker_steady i f s) (hseats ▸ .refl _) ?_ h.requestsOnce fun _ => id
  simp only [Machine.modSpeaker, setSpeakers, State.setFloor_floor, classCount, ← List.countP_eq_length_filter,
    List.countP_map]
  refine List.countP_mono_left fun e _ he => ?_
  cases hec : e.chairClass with
  | false => rfl
  | true =>
    dsimp only [Function.comp] at he
    split at he
    · rw [hc e hec] at he; exact he
    · rwa [hec] at he

theorem setTiming (h : Bounded s) (i : SeatId) (w o : Bool) : Bounded (Machine.setTiming i w o s) := by
  unfold Machine.setTiming
  split
  · exact h
  · exact .ite (fun _ => h) fun _ =>
      ofFloor (s := Machine.modSpeaker i (fun e => { e with warned := w, overran := o }) s)
        (h.modSpeaker i (fun _ => rfl) fun _ => id) rfl

theorem warningCheck (h : Bounded s) (i : SeatId) : Bounded (Machine.warningCheck i s) := by
  unfold Machine.warningCheck
  split
  · exact h
  · exact .ite (fun _ => h.setTiming i _ _) fun _ => h

theorem limitCheckAs (h : Bounded s) (w : SeatId → Option Nat) (i : SeatId) : Bounded (Machine.limitCheckAs w i s) := by
  unfold Machine.limitCheckAs
  split
  · exact h
  · refine .ite (fun _ => ?_) fun _ => h
    split
    · exact h.closeAdvanceAs w _ i
    · exact h.setTiming i _ _

theorem allowanceCheckAs (h : Bounded s) (w : SeatId → Option Nat) (i : SeatId) :
    Bounded (Machine.allowanceCheckAs w i s) := by
  unfold Machine.allowanceCheckAs
  split
  · exact h
  · exact .ite (fun _ => h.closeAdvanceAs w _ i) fun _ => h

theorem barCheckAs (h : Bounded s) (w : SeatId → Option Nat) (i : SeatId) : Bounded (Machine.barCheckAs w i s) :=
  .ite (fun _ => h.allowanceCheckAs w i) fun _ => .ite (fun _ => (h.withdrawSeat i).refuse i .timeUsed) fun _ => h

theorem timingCheckAs (h : Bounded s) (w : SeatId → Option Nat) (i : SeatId) :
    Bounded (Machine.timingCheckAs w i s) := ((h.allowanceCheckAs w i).limitCheckAs w i).warningCheck i

theorem policyCheck (h : Bounded s) (e : SpeakerEntry) : Bounded (Machine.policyCheck s e) := by
  unfold Machine.policyCheck
  split
  · exact h
  · refine .ite (fun _ => h) fun _ => .ite (fun _ => h.closeAdvanceAs _ _ _) fun _ =>
      .ite (fun _ => h.setTiming _ _ _) fun _ => .ite (fun _ => ?_) fun _ => h.setTiming _ _ _
    split
    · exact h.closeAdvanceAs _ _ _
    · exact h.setTiming _ _ _

theorem policyChecks (h : Bounded s) : Bounded (Machine.policyChecks s) :=
  foldl (fun _ r hs => hs.barCheckAs _ r.seat) _ (foldl (fun _ e hs => hs.policyCheck e) _ h)

theorem drainRequests (h : Bounded s) (fuel : Nat) : Bounded (Machine.drainRequests fuel s) := by
  induction fuel generalizing s with
  | zero => exact h
  | succ n ih =>
    unfold Machine.drainRequests
    have hg : Bounded (grantHead none s).2 := h.grantHeadLoop _
    split
    · next heq => rw [heq] at hg; exact ih hg
    · next heq => rw [heq] at hg; exact hg

/-! ## Role changes -/

theorem becomeChair (h : Bounded s) (w : SeatId → Option Nat) (i : SeatId) : Bounded (Machine.becomeChair w i s) :=
  .ite (fun _ => (h.setTiming i false false).modSpeaker i (fun _ => rfl) fun _ _ => rfl)
    fun _ => h.closeAdvanceAs w .limit i


/-- One entry of a list without repeated seats makes at most one ordinary entry more. -/
theorem classCount_map_le {l : List SpeakerEntry} (hn : (l.map (·.seat)).Nodup) (i : SeatId)
    (f : SpeakerEntry → SpeakerEntry) :
    classCount false (l.map fun e => if e.seat = i then f e else e) ≤ classCount false l + 1 := by
  induction l with
  | nil => simp [classCount]
  | cons x l ih =>
    obtain ⟨hx, hl⟩ := List.nodup_cons.mp hn
    simp only [classCount, List.map_cons, List.filter_cons] at ih ⊢
    by_cases hi : x.seat = i
    · have hrest : l.map (fun e => if e.seat = i then f e else e) = l :=
        (List.map_congr_left fun e he => if_neg fun h => hx (List.mem_map.mpr ⟨e, he, h.trans hi.symm⟩)).trans l.map_id
      rw [hrest, if_pos hi]
      split
      · split
        · simp
        · exact Nat.le_refl _
      · split
        · simp only [List.length_cons]; omega
        · omega
    · rw [if_neg hi]
      have := ih hl
      split
      · simp only [List.length_cons]; omega
      · exact this

theorem ceaseChair (h : Bounded s) (w : SeatId → Option Nat) (i : SeatId) : Bounded (Machine.ceaseChair w i s) := by
  have hd := h.dropHolder i
  refine .ite (fun hr => timingCheckAs ⟨?_, ?_⟩ w i) fun _ => hd.closeSeatAs w .limit i
  · refine (congrArg (fun l : List SeatId => (l ++ _).Nodup) ?_).mpr hd.once
    simp only [Machine.modSpeaker, setSpeakers, State.setFloor_floor, List.map_map]
    refine List.map_congr_left fun e _ => ?_
    dsimp only [Function.comp]
    split <;> rfl
  · simp only [State.roomFor, Bool.false_eq_true, if_false, decide_eq_true_eq] at hr
    exact (classCount_map_le hd.speakersOnce i _).trans hr

theorem insertRequest_perm (e : RequestEntry) (l : List RequestEntry) : (insertRequest e l).Perm (e :: l) := by
  induction l with
  | nil => exact .refl _
  | cons x l ih =>
    rw [insertRequest]
    split
    · exact .refl _
    · exact (ih.cons x).trans (.swap e x l)

theorem requestRolePass (h : Bounded s) (c : SeatId → Bool) (r : RequestEntry) :
    Bounded (Machine.requestRolePass c s r) := by
  refine .ite (fun hc => .ite (fun _ => (h.withdrawSeat r.seat).refuse r.seat _) fun _ => .ite (fun _ => ?_) fun _ => h)
    fun _ => h
  obtain ⟨q, hq, hqe⟩ := (requesting_iff s _).mp hc.2
  have hperm := (insertRequest_perm { r with band := (s.seatDef r.seat).band }
    (s.floor.requests.filter fun x => !(x.seat == r.seat))).map (·.seat)
  have hsub : ((s.floor.requests.filter fun x => !(x.seat == r.seat)).map (·.seat)).Sublist
      (s.floor.requests.map (·.seat)) := List.filter_sublist.map _
  refine h.mono (setRequests_steady _ s) (.refl _) le_rfl (hperm.nodup_iff.mpr ?_) fun i hi => ?_
  · refine List.nodup_cons.mpr ⟨fun hm => ?_, h.requestsOnce.sublist hsub⟩
    obtain ⟨x, hx, hxe⟩ := List.mem_map.mp hm
    simpa [hxe] using (List.mem_filter.mp hx).2
  · rcases List.mem_cons.mp (hperm.subset hi) with rfl | hi
    · exact List.mem_map.mpr ⟨q, hq, hqe⟩
    · exact hsub.subset hi

theorem speakerRolePass (h : Bounded s) (w : SeatId → Option Nat) (c : SeatId → Bool) (e : SpeakerEntry) :
    Bounded (Machine.speakerRolePass w c s e) := by
  unfold Machine.speakerRolePass
  split
  · exact h
  · refine .ite (fun _ => h) fun _ => .ite (fun _ => h.closeAdvanceAs w _ _) fun _ => allowanceCheckAs ?_ w _
    exact .ite (fun _ => h) fun _ => .ite (fun _ => h.becomeChair w _) fun _ => h.ceaseChair w _

theorem roleConsequences (h : Bounded s) (s0 : State) : Bounded (Machine.roleConsequences s0 s) :=
  .ite (fun _ => h) fun _ => foldl (fun _ i hs => hs.barCheckAs _ i) _
    (foldl (fun _ e hs => hs.speakerRolePass _ _ e) _ (foldl (fun _ r hs => hs.requestRolePass _ r) _ h))

end Bounded

end Sys2Proof.Machine
end

section
/-! CLEAR_FLOOR and SET_FLOOR. -/

open Sys2Proof Sys2Proof.Machine

namespace Sys2Proof.Machine

theorem exec_clearFloor (tag : Byte) (p : List Byte) (s : State) :
    exec (.clearFloor tag p) s = .next (hostRequest ⟨0x04, tag, p⟩ (reqClearFloor tag p) s) := rfl

theorem exec_setFloor (tag : Byte) (p : List Byte) (s : State) :
    exec (.setFloor tag p) s = .next (hostRequest ⟨0x05, tag, p⟩ (reqSetFloor tag p) s) := rfl

/-! ## CLEAR_FLOOR (R30) -/

theorem clearFloorCore_steady (s : State) : Steady s (clearFloorCore s) :=
  (emptyRequests_steady s).trans (closeAll_steady _ _ _)

theorem reqClearFloor_open (tag : Byte) {s : State} (h : s.floor.isOpen = true) :
    reqClearFloor tag [] s = reply 0x04 tag .ok [] (change clearFloorCore s) := by
  simp [reqClearFloor, fixedForm, h]

theorem reqClearFloor_closed (tag : Byte) {s : State} (h : s.floor.isOpen = false) :
    reqClearFloor tag [] s = reply 0x04 tag .wrongState [] s := by
  simp [reqClearFloor, fixedForm, h]

/-! ## The policy block (R31, R220) -/

theorem modeOf_modeNumber (m : FloorMode) : modeOf (BitVec.ofNat 8 (modeNumber m)) = some m := by
  cases m <;> rfl

theorem fullActionOf_fullActionNumber (a : FullAction) : fullActionOf (BitVec.ofNat 8 (fullActionNumber a)) = some a := by
  cases a <;> rfl

theorem limitActionOf_limitActionNumber (a : LimitAction) :
    limitActionOf (BitVec.ofNat 8 (limitActionNumber a)) = some a := by
  cases a <;> rfl

theorem priorityActionOf_priorityActionNumber (a : PriorityAction) :
    priorityActionOf (BitVec.ofNat 8 (priorityActionNumber a)) = some a := by
  cases a <;> rfl

theorem yesNo_of_bool (b : Bool) : yesNo (if b then 1 else 0) = some b := by
  cases b <;> rfl

/-- The bytes of a policy block, in order (R220). -/
theorem putPolicy_eq (p : Policy) : putPolicy p =
    [BitVec.ofNat 8 (modeNumber p.mode), BitVec.ofNat 8 p.smax, BitVec.ofNat 8 (fullActionNumber p.fullAction),
      if p.autoAdvance then 1 else 0, if p.ownClose then 1 else 0, BitVec.ofNat 8 p.speechLimit,
      BitVec.ofNat 8 (p.speechLimit / 256), BitVec.ofNat 8 p.warningLead,
      BitVec.ofNat 8 (limitActionNumber p.atLimit), BitVec.ofNat 8 p.allowance, BitVec.ofNat 8 (p.allowance / 256),
      if p.cardsRequired then 1 else 0, if p.closedList then 1 else 0,
      BitVec.ofNat 8 (priorityActionNumber p.priorityAction)] := rfl

theorem putPolicy_length (p : Policy) : (putPolicy p).length = 14 := rfl

/-- A policy block is read back as it was written. -/
theorem policyAt_putPolicy {p : Policy} (hs : p.smax < 256) (hl : p.speechLimit < 65536) (hw : p.warningLead < 256)
    (ha : p.allowance < 65536) : policyAt (putPolicy p) 0 = some p := by
  have one : ∀ n < 256, (BitVec.ofNat 8 n).toNat = n := fun n hn => by
    rw [BitVec.toNat_ofNat]; exact Nat.mod_eq_of_lt hn
  have two : ∀ n < 65536, (BitVec.ofNat 8 n).toNat + 256 * (BitVec.ofNat 8 (n / 256)).toNat = n := fun n hn => by
    rw [BitVec.toNat_ofNat, BitVec.toNat_ofNat]; omega
  rw [putPolicy_eq]
  simp only [policyAt, byteAt, num1, num2, List.getD_cons_zero, List.getD_cons_succ, Nat.zero_add, Nat.reduceAdd,
    modeOf_modeNumber, fullActionOf_fullActionNumber, limitActionOf_limitActionNumber,
    priorityActionOf_priorityActionNumber, yesNo_of_bool, one _ hs, one _ hw, two _ hl, two _ ha]
  rfl

theorem yesNo_eq_none {b : Byte} (h : 2 ≤ b.toNat) : yesNo b = none := by
  unfold yesNo
  rw [if_neg (by rintro rfl; simp at h), if_neg (by rintro rfl; simp at h)]

theorem modeOf_eq_none {b : Byte} (h : 2 ≤ b.toNat) : modeOf b = none := by
  unfold modeOf
  rw [if_neg (by rintro rfl; simp at h), if_neg (by rintro rfl; simp at h)]

theorem limitActionOf_eq_none {b : Byte} (h : 2 ≤ b.toNat) : limitActionOf b = none := by
  unfold limitActionOf
  rw [if_neg (by rintro rfl; simp at h), if_neg (by rintro rfl; simp at h)]

theorem priorityActionOf_eq_none {b : Byte} (h : 2 ≤ b.toNat) : priorityActionOf b = none := by
  unfold priorityActionOf
  rw [if_neg (by rintro rfl; simp at h), if_neg (by rintro rfl; simp at h)]

theorem fullActionOf_eq_none {b : Byte} (h : 3 ≤ b.toNat) : fullActionOf b = none := by
  unfold fullActionOf
  rw [if_neg (by rintro rfl; simp at h), if_neg (by rintro rfl; simp at h), if_neg (by rintro rfl; simp at h)]

/-- One field outside its values and the block is no policy (R31). -/
theorem policyAt_eq_none {q : List Byte}
    (h : 2 ≤ num1 q 0 ∨ 3 ≤ num1 q 2 ∨ 2 ≤ num1 q 3 ∨ 2 ≤ num1 q 4 ∨ 2 ≤ num1 q 8 ∨ 2 ≤ num1 q 11 ∨ 2 ≤ num1 q 12
      ∨ 2 ≤ num1 q 13) : policyAt q 0 = none := by
  unfold policyAt
  rcases h with h | h | h | h | h | h | h | h
  · simp [modeOf_eq_none h]
  · simp [fullActionOf_eq_none h]
  · simp [yesNo_eq_none h]
  · simp [yesNo_eq_none h]
  · simp [limitActionOf_eq_none h]
  · simp [yesNo_eq_none h]
  · simp [yesNo_eq_none h]
  · simp [priorityActionOf_eq_none h]

/-- The policy that SET_FLOOR puts in force (R31). -/
theorem clampPolicy_eq (p : Policy) : clampPolicy p = { p with
    smax := max 1 (min 6 p.smax)
    speechLimit := if p.speechLimit = 0 then 0 else max 30 (min 3600 p.speechLimit)
    warningLead := min 120 p.warningLead
    allowance := if p.allowance = 0 then 0 else max 60 (min 7200 p.allowance) } := by
  have clamp : ∀ lo hi n, lo ≤ hi → clampTo lo hi n = max lo (min hi n) := fun lo hi n h => by
    unfold clampTo
    split
    · omega
    · split <;> omega
  simp only [clampPolicy, clampOrNone, clamp 1 6 _ (by omega), clamp 30 3600 _ (by omega), clamp 0 120 _ (by omega),
    clamp 60 7200 _ (by omega), Nat.zero_max]

section request
variable (tag : Byte) {given : Policy} {s : State}

theorem reqSetFloor_open {q : List Byte} (hq : q.length = 14) (hp : policyAt q 0 = some given)
    (h : s.floor.isOpen = true) : reqSetFloor tag q s
      = reply 0x05 tag (okOr (decide (clampPolicy given ≠ given))) (putPolicy (clampPolicy given))
          (change (adoptPolicy (clampPolicy given)) s) := by
  simp only [reqSetFloor, fixedForm, hq, if_true, hp, h, Bool.not_true, Bool.false_eq_true, if_false]

theorem reqSetFloor_closed {q : List Byte} (hq : q.length = 14) (hp : policyAt q 0 = some given)
    (h : s.floor.isOpen = false) : reqSetFloor tag q s = reply 0x05 tag .wrongState [] s := by
  simp only [reqSetFloor, fixedForm, hq, if_true, hp, h, Bool.not_false]

theorem reqSetFloor_badValue {q : List Byte} (hq : q.length = 14) (hp : policyAt q 0 = none) (s : State) :
    reqSetFloor tag q s = reply 0x05 tag .badValue [] s := by
  simp only [reqSetFloor, fixedForm, hq, if_true, hp]

end request

/-! ## Adopting a policy (R32) -/

/-- The entries beyond a number of ordinary places, newest first. -/
def excessBeyond (n : Nat) (l : List SpeakerEntry) : List SpeakerEntry := ((l.filter fun e => !e.chairClass).drop n).reverse

/-- Without the entries beyond them, the ordinary entries fit their places. -/
theorem classCount_without_excess (n : Nat) (l : List SpeakerEntry) :
    classCount false (l.filter fun e => decide (e ∉ excessBeyond n l)) ≤ n := by
  let o := l.filter fun e => !e.chairClass
  have hord : (fun e : SpeakerEntry => e.chairClass == false) = fun e => !e.chairClass := by
    funext e; cases e.chairClass <;> rfl
  have heq : (l.filter fun e => decide (e ∉ excessBeyond n l)).filter (fun e => e.chairClass == false)
      = o.filter fun e => decide (e ∉ o.drop n) := by
    simp only [excessBeyond, List.mem_reverse]
    rw [List.filter_comm, hord]
  have hdrop : (o.drop n).filter (fun e => decide (e ∉ o.drop n)) = [] :=
    List.filter_eq_nil_iff.mpr fun e he => by simp [he]
  calc classCount false (l.filter fun e => decide (e ∉ excessBeyond n l))
      = ((o.take n ++ o.drop n).filter fun e => decide (e ∉ o.drop n)).length := by
        rw [List.take_append_drop, ← heq, classCount]
    _ = ((o.take n).filter fun e => decide (e ∉ o.drop n)).length := by
        rw [List.filter_append, hdrop, List.append_nil]
    _ ≤ (o.take n).length := List.length_filter_le _ _
    _ ≤ n := List.length_take_le _ _

/-- The state with a policy put in force and nothing else. -/
def State.withPolicy (p : Policy) (s : State) : State := s.setFloor { s.floor with policy := p }

section adopt
variable (p : Policy) {s : State} (hs : s.floor.Sound)
include hs

/-- The entries beyond Smax are closed LIMIT, newest first (R32). -/
theorem closeExcess_eq : (closeExcess (s.withPolicy p)).floor = { s.floor with
      policy := p
      speakers := s.floor.speakers.filter fun e => decide (e ∉ excessBeyond p.smax s.floor.speakers) }
    ∧ (closeExcess (s.withPolicy p)).log = s.logAll .limit (excessBeyond p.smax s.floor.speakers) s.log := by
  set es := excessBeyond p.smax s.floor.speakers with hes
  have hmem : ∀ e ∈ es, e ∈ s.floor.speakers ∧ e.chairClass = false := fun e he => by
    simpa using List.mem_filter.mp (List.mem_of_mem_drop (List.mem_reverse.mp he))
  have hord : ((s.withPolicy p).ordinarySeats.drop p.smax).reverse = es.map (·.seat) := by
    simp only [State.ordinarySeats, State.withPolicy, State.setFloor_floor, hes, excessBeyond, List.map_reverse,
      List.map_drop]
  have heq : closeExcess (s.withPolicy p) = closeAll .limit (es.map (·.seat)) (s.withPolicy p) :=
    congrArg (fun l => closeAll .limit l (s.withPolicy p)) hord
  rw [heq]
  refine closeAll_of_not_holders .limit es (s.withPolicy p) hs.speakersOnce ?_ (fun e he => (hmem e he).1)
    fun e he => hs.ordinary_not_holder (hmem e he).1 (hmem e he).2
  rw [hes, excessBeyond, List.map_reverse, List.nodup_reverse]
  exact hs.speakersOnce.sublist (((List.drop_sublist _ _).trans List.filter_sublist).map _)

theorem closeExcess_bounded : Bounded (closeExcess (s.withPolicy p)) := by
  have hf := (closeExcess_eq p hs).1
  refine ⟨?_, ?_⟩
  · rw [hf]
    exact hs.once.sublist ((List.filter_sublist.map _).append_right _)
  · rw [hf]
    exact classCount_without_excess p.smax _

theorem adoptPolicy_bounded : Bounded (adoptPolicy p s) := by
  have h1 := closeExcess_bounded p hs
  have h2 : Bounded (if p.mode = .openMode then
      drainRequests ((closeExcess (s.withPolicy p)).floor.requests.length + 1) (closeExcess (s.withPolicy p))
      else closeExcess (s.withPolicy p)) := .ite (fun _ => h1.drainRequests _) fun _ => h1
  exact .ite (fun _ => h2) fun _ => h2.policyChecks

end adopt

theorem adoptPolicy_steady (p : Policy) (s : State) : Steady (s.withPolicy p) (adoptPolicy p s) := by
  have h1 := closeExcess_steady (s.withPolicy p)
  have h2 := Steady.ite (c := p.mode = .openMode)
    (h1.trans (drainRequests_steady ((closeExcess (s.withPolicy p)).floor.requests.length + 1) _)) h1
  exact .ite h2 (h2.trans (policyChecks_steady _))

/-- In mode REQUEST, with the timing as it was, the closing of the entries beyond Smax is all (R32, R46). -/
theorem adoptPolicy_of_requestMode {p : Policy} {s : State} (hm : p.mode = .requestMode)
    (ht : p.timing = s.floor.policy.timing) : adoptPolicy p s = closeExcess (s.withPolicy p) := by
  simp only [adoptPolicy, hm, ht, reduceCtorEq, if_false, if_true]
  rfl

end Sys2Proof.Machine
end

section
/-! What a policy that newly restricts seats takes from them (R84, R86), and SET_FLOOR's obligation. -/

open Sys2Proof Sys2Proof.Machine

namespace Sys2Proof.Machine

/-! ## The first pass of R86, where the changed seats are restricted -/

section requestPass
variable {s0 : State} {c : SeatId → Bool} (hc : ∀ i, c i = true → (s0.effRole i).restricted = true)
include hc

theorem requestRolePass_of_changed {s : State} (hst : Steady s0 s) {r : RequestEntry} (h : c r.seat = true)
    (hr : s.requesting r.seat = true) :
    requestRolePass c s r = refuse r.seat (s0.refusalFor r.seat) (withdrawSeat r.seat s) := by
  have hres : (s.effRole r.seat).restricted = true := (hst.effRole _).symm ▸ hc _ h
  simp only [requestRolePass, h, hr, hres, and_self, or_true, if_true, hst.refusalFor]

omit hc in
theorem requestRolePass_of_not {s : State} {r : RequestEntry} (h : ¬ (c r.seat = true ∧ s.requesting r.seat = true)) :
    requestRolePass c s r = s := if_neg h

/-- A restricted seat loses its request. -/
theorem requestRolePass_floor {s : State} (hst : Steady s0 s) (r : RequestEntry) :
    (requestRolePass c s r).floor = { s.floor with
      requests := s.floor.requests.filter fun q => !(c q.seat && decide (q.seat = r.seat)) } := by
  by_cases h : c r.seat = true ∧ s.requesting r.seat = true
  · rw [requestRolePass_of_changed hc hst h.1 h.2, refuse_floor, withdrawSeat_floor]
    refine congrArg (fun l => { s.floor with requests := l }) (List.filter_congr fun q _ => ?_)
    by_cases hq : q.seat = r.seat <;> simp [hq, h.1]
  · rw [requestRolePass_of_not h, List.filter_eq_self.mpr]
    intro q hq
    by_cases hqr : q.seat = r.seat
    · have hreq : s.requesting r.seat = true := (requesting_iff s _).mpr ⟨q, hq, hqr⟩
      simp [hqr, Bool.eq_false_iff.mpr fun hcr => h ⟨hcr, hreq⟩]
    · simp [hqr]

theorem requestRolePass_log {s : State} (hst : Steady s0 s) (r : RequestEntry) :
    (requestRolePass c s r).log = s.log := by
  by_cases h : c r.seat = true ∧ s.requesting r.seat = true
  · rw [requestRolePass_of_changed hc hst h.1 h.2, refuse_log, withdrawSeat_log]
  · rw [requestRolePass_of_not h]

/-- The pass at the entries of `l`. -/
theorem requestPass_lists (l : List RequestEntry) {s : State} (hst : Steady s0 s) :
    (l.foldl (requestRolePass c) s).floor = { s.floor with
      requests := s.floor.requests.filter fun q => !(c q.seat && decide (∃ r ∈ l, q.seat = r.seat)) }
    ∧ (l.foldl (requestRolePass c) s).log = s.log := by
  induction l generalizing s with
  | nil => exact ⟨by simp, rfl⟩
  | cons r l ih =>
    obtain ⟨ihf, ihl⟩ := ih (hst.trans (requestRolePass_steady c s r))
    refine ⟨?_, ihl.trans (requestRolePass_log hc hst r)⟩
    rw [List.foldl_cons, ihf, requestRolePass_floor hc hst]
    simp only [List.filter_filter]
    refine congrArg (fun l => { s.floor with requests := l }) (List.filter_congr fun q _ => ?_)
    by_cases hq : q.seat = r.seat <;> cases c q.seat <;> simp [hq]

/-- A seat that does not wait keeps its refusal code. -/
theorem requestPass_refusal_of_idle (l : List RequestEntry) {s : State} (hst : Steady s0 s) {i : SeatId}
    (hi : s.requesting i = false) : ((l.foldl (requestRolePass c) s).seat i).refusal = (s.seat i).refusal := by
  induction l generalizing s with
  | nil => rfl
  | cons r l ih =>
    have hidle : (requestRolePass c s r).requesting i = false := by
      rw [not_requesting_iff] at hi ⊢
      rw [requestRolePass_floor hc hst]
      exact fun q hq => hi q (List.mem_of_mem_filter hq)
    rw [List.foldl_cons, ih (hst.trans (requestRolePass_steady c s r)) hidle]
    by_cases h : c r.seat = true ∧ s.requesting r.seat = true
    · have hne : i ≠ r.seat := fun hir => by rw [hir, h.2] at hi; exact Bool.noConfusion hi
      rw [requestRolePass_of_changed hc hst h.1 h.2, refuse_refusal, if_neg hne, withdrawSeat_refusal,
        if_neg fun h => hne h.2]
    · rw [requestRolePass_of_not h]

/-- A restricted seat that waited is told why (R86). -/
theorem requestPass_refusal (l : List RequestEntry) {s : State} (hst : Steady s0 s) {r : RequestEntry} (hr : r ∈ l)
    (h : c r.seat = true) (hreq : s.requesting r.seat = true) :
    ((l.foldl (requestRolePass c) s).seat r.seat).refusal = some (s0.refusalFor r.seat) := by
  induction l generalizing s with
  | nil => simp at hr
  | cons q l ih =>
    have hst' := hst.trans (requestRolePass_steady c s q)
    rw [List.foldl_cons]
    by_cases hq : q.seat = r.seat
    · have hqr : c q.seat = true ∧ s.requesting q.seat = true := by rw [hq]; exact ⟨h, hreq⟩
      have hidle : (requestRolePass c s q).requesting r.seat = false := by
        rw [not_requesting_iff, requestRolePass_floor hc hst]
        intro x hx hxr
        have := (List.mem_filter.mp hx).2
        simp [hxr, h, hq] at this
      rw [requestPass_refusal_of_idle hc l hst' hidle, requestRolePass_of_changed hc hst hqr.1 hqr.2, hq,
        refuse_refusal_same]
    · have hrl : r ∈ l := (List.mem_cons.mp hr).resolve_left fun hrq => hq (hrq ▸ rfl)
      refine ih hst' hrl ?_
      rw [requesting_iff] at hreq ⊢
      obtain ⟨x, hx, hxr⟩ := hreq
      refine ⟨x, ?_, hxr⟩
      rw [requestRolePass_floor hc hst]
      exact List.mem_filter.mpr ⟨hx, by simp [hxr, Ne.symm hq]⟩

end requestPass

/-! ## The second pass of R86, where the changed seats are restricted and nobody is advanced -/

/-- Each entry of a restricted seat is closed ROLE, oldest first. -/
theorem speakerPass_eq {s0 : State} {c : SeatId → Bool} (hc : ∀ i, c i = true → (s0.effRole i).restricted = true)
    (hm : s0.floor.policy.mode = .requestMode) (ha : s0.floor.policy.autoAdvance = false) (l : List SpeakerEntry)
    {s : State} (hst : Steady s0 s) (hn : (s.floor.speakers.map (·.seat)).Nodup) (hln : (l.map (·.seat)).Nodup)
    (hl : ∀ e ∈ l, e ∈ s.floor.speakers) (hh : s.floor.holders = []) :
    l.foldl (speakerRolePass s0.boundAttendee c) s = closeAll .role ((l.filter fun e => c e.seat).map (·.seat)) s := by
  induction l generalizing s with
  | nil => rfl
  | cons e l ih =>
    obtain ⟨he, hl⟩ := List.forall_mem_cons.mp hl
    obtain ⟨hnot, hln⟩ := List.nodup_cons.mp hln
    have hsp := speaker_of_mem hn he
    cases hce : c e.seat with
    | false =>
      have hstep : speakerRolePass s0.boundAttendee c s e = s := by simp [speakerRolePass, hsp, hce]
      rw [List.foldl_cons, hstep, List.filter_cons_of_neg (by simp [hce])]
      exact ih hst hn hln hl hh
    | true =>
      have hclose := closeSeat_steady .role e.seat s
      have hfl : (closeSeat .role e.seat s).floor = _ :=
        closeSeatAs_floor_of_not_holder hsp (by rw [hh]; exact List.not_mem_nil)
      have hquiet : advance (closeSeat .role e.seat s) = closeSeat .role e.seat s := by
        refine advance_of_quiet (.inr ?_)
        rw [(hst.trans hclose).policy]
        exact ⟨hm, ha⟩
      have hadv : closeAdvanceAs s.boundAttendee .role e.seat s = closeSeat .role e.seat s := by
        rcases closeAdvanceAs_eq (w := s.boundAttendee) (r := .role) hsp with h | h
        · exact h
        · exact h.trans hquiet
      have hstep : speakerRolePass s0.boundAttendee c s e = closeSeat .role e.seat s := by
        have hres : (s.effRole e.seat).restricted = true := (hst.effRole _).symm ▸ hc _ hce
        simp only [speakerRolePass, hsp, ne_eq, not_true_eq_false, hce, Bool.not_true, Bool.false_eq_true, or_self,
          if_false, hres, or_true, if_true]
        rw [← hst.boundAttendee_eq, hadv]
      rw [List.foldl_cons, hstep, List.filter_cons_of_pos (by exact hce)]
      refine ih (hst.trans hclose) ?_ hln (fun x hx => ?_) ?_
      · rw [hfl]; exact hn.sublist (List.filter_sublist.map _)
      · rw [hfl]
        exact List.mem_filter.mpr ⟨hl x hx, decide_eq_true fun h => hnot (List.mem_map.mpr ⟨x, hx, h⟩)⟩
      · rw [hfl]; exact hh

/-- A close leaves the refusal codes of the other seats. -/
theorem closeAll_refusal (r : CloseReason) (l : List SeatId) (s : State) {i : SeatId} (hi : i ∉ l) :
    ((closeAll r l s).seat i).refusal = (s.seat i).refusal := by
  induction l generalizing s with
  | nil => rfl
  | cons j l ih =>
    obtain ⟨hij, hil⟩ := List.ne_and_not_mem_of_not_mem_cons hi
    refine (ih (closeSeat r j s) hil).trans ?_
    cases hsp : s.speaker j with
    | none =>
      exact congrArg (fun t => (State.seat t i).refusal)
        (closeSeatAs_of_not_speaking s.boundAttendee r ((speaker_eq_none_iff s j).mp hsp))
    | some e => exact (closeSeatAs_refusal hsp i).trans (if_neg hij)

/-! ## A policy that newly requires cards or closes the list (R84) -/

/-- A seat that a policy newly restricts: no card where cards become required, an unlisted card where the list is
closed. -/
def State.newlyBarred (p : Policy) (s : State) (i : SeatId) : Bool :=
  (noCard (s.seat i).card && p.cardsRequired && !s.floor.policy.cardsRequired)
    || (decide ((s.seat i).card.state = .unlisted) && p.closedList && !s.floor.policy.closedList)

/-- The card states that a policy restricts (R84). -/
def Policy.restricts (p : Policy) : CardState → Bool
  | .bound | .held => false
  | .duplicate => true
  | .unlisted => p.closedList
  | .none | .reading => p.cardsRequired

section withPolicy
variable (p : Policy) (s : State) (i : SeatId)

theorem withPolicy_boundAttendee : (s.withPolicy p).boundAttendee i = s.boundAttendee i := rfl

/-- The policy has no say in the number of a role. -/
theorem withPolicy_effRole_number : ((s.withPolicy p).effRole i).number = (s.effRole i).number := by
  unfold State.effRole
  dsimp only [State.withPolicy, setFloor_seat]
  cases (s.seat i).card.state <;> rfl

theorem effRole_restricted : (s.effRole i).restricted = s.floor.policy.restricts (s.seat i).card.state := by
  unfold State.effRole
  dsimp only
  cases (s.seat i).card.state <;> rfl

theorem withPolicy_roleKey_iff : s.roleKey i = (s.withPolicy p).roleKey i
    ↔ (s.effRole i).restricted = ((s.withPolicy p).effRole i).restricted := by
  have hn := withPolicy_effRole_number p s i
  refine ⟨fun h => congrArg (fun k => k.1.restricted) h, fun h => ?_⟩
  have he : s.effRole i = (s.withPolicy p).effRole i := by
    cases hs : s.effRole i
    cases ht : (s.withPolicy p).effRole i
    simp_all
  simp only [State.roleKey, he]
  rfl

variable {p s i}

/-- Where the policy lifts no restriction, the roles it changes are those of the seats it newly restricts. -/
theorem withPolicy_roleKey_ne (hr : s.floor.policy.cardsRequired = true → p.cardsRequired = true)
    (hl : s.floor.policy.closedList = true → p.closedList = true) :
    decide (s.roleKey i ≠ (s.withPolicy p).roleKey i) = s.newlyBarred p i := by
  have hiff := withPolicy_roleKey_iff p s i
  rw [effRole_restricted, effRole_restricted] at hiff
  rw [decide_not, Bool.eq_iff_iff]
  simp only [Bool.not_eq_true', decide_eq_false_iff_not, hiff, State.newlyBarred, noCard]
  dsimp only [State.withPolicy, setFloor_seat, State.setFloor_floor]
  have flip : ∀ a b : Bool, (a = true → b = true) → (¬ a = b ↔ b = true ∧ a = false) := by decide
  cases (s.seat i).card.state with
  | none | reading => simpa [Policy.restricts] using flip _ _ hr
  | unlisted => simpa [Policy.restricts] using flip _ _ hl
  | bound | held | duplicate => simp [Policy.restricts]

theorem newlyBarred_restricted (h : s.newlyBarred p i = true) : ((s.withPolicy p).effRole i).restricted = true := by
  rw [effRole_restricted]
  simp only [State.newlyBarred, noCard, Bool.or_eq_true, Bool.and_eq_true, decide_eq_true_eq] at h
  dsimp only [State.withPolicy, setFloor_seat, State.setFloor_floor]
  rcases h with ⟨⟨hst | hst, hp⟩, -⟩ | ⟨⟨hst, hp⟩, -⟩ <;> simp only [Policy.restricts, hst, hp]

/-- What a newly restricted seat is told: CARD_NEEDED without a card, NOT_PERMITTED with an unlisted one (R7). -/
theorem newlyBarred_refusalFor (h : s.newlyBarred p i = true) :
    (s.withPolicy p).refusalFor i = if noCard (s.seat i).card then .cardNeeded else .notPermitted := by
  have hres := newlyBarred_restricted h
  cases hn : noCard (s.seat i).card with
  | true =>
    have : noCard ((s.withPolicy p).seat i).card = true := hn
    simp [State.refusalFor, this, hres]
  | false =>
    have hst : ((s.withPolicy p).seat i).card.state = .unlisted := by
      simp only [State.newlyBarred, hn, Bool.false_and, Bool.false_or, Bool.and_eq_true, decide_eq_true_eq] at h
      exact h.1.1
    simp [State.refusalFor, State.barred, State.attendeeBarred, State.boundAttendee, noCard, hst]

/-- Under the same card fields every role is the same. -/
theorem withPolicy_roleKey_same (hr : p.cardsRequired = s.floor.policy.cardsRequired)
    (hl : p.closedList = s.floor.policy.closedList) : s.roleKey i = (s.withPolicy p).roleKey i := by
  rw [withPolicy_roleKey_iff, effRole_restricted, effRole_restricted]
  dsimp only [State.withPolicy, setFloor_seat, State.setFloor_floor]
  simp only [Policy.restricts, hr, hl]

end withPolicy

/-! ## The consequences of the policy -/

section consequences
variable {p : Policy} {s u : State} (hu : Steady (s.withPolicy p) u)
include hu

theorem roleConsequences_of_sameCards (hr : p.cardsRequired = s.floor.policy.cardsRequired)
    (hl : p.closedList = s.floor.policy.closedList) : roleConsequences s u = u :=
  roleConsequences_same (fun i => (withPolicy_roleKey_same hr hl).trans (hu.roleKey i).symm)
    fun i => (hu.boundAttendee i).symm

theorem roleConsequences_of_newlyBarred (ho : s.floor.isOpen = true)
    (hr : s.floor.policy.cardsRequired = true → p.cardsRequired = true)
    (hl : s.floor.policy.closedList = true → p.closedList = true) :
    roleConsequences s u
      = (u.floor.requests.foldl (requestRolePass (s.newlyBarred p)) u).floor.speakers.foldl
          (speakerRolePass s.boundAttendee (s.newlyBarred p))
          (u.floor.requests.foldl (requestRolePass (s.newlyBarred p)) u) := by
  have hopen : u.floor.isOpen = true := hu.isOpen.trans ho
  have hchanged : (fun i => decide (s.roleKey i ≠ u.roleKey i)) = s.newlyBarred p := by
    funext i
    rw [hu.roleKey, withPolicy_roleKey_ne hr hl]
  have hbound : (fun i => decide (u.boundAttendee i ≠ none ∧ s.boundAttendee i ≠ u.boundAttendee i))
      = fun _ => false := by
    funext i
    simp [hu.boundAttendee, withPolicy_boundAttendee]
  unfold roleConsequences
  simp only [hopen, Bool.not_true, Bool.false_eq_true, if_false, hchanged, hbound, List.filter_false, List.foldl_nil]

/-- What a policy that restricts seats takes from them: their requests, and then their entries, closed ROLE. -/
theorem roleConsequences_restricts (hb : Bounded u) (ho : s.floor.isOpen = true) (hm : p.mode = .requestMode)
    (ha : p.autoAdvance = false) (hh : u.floor.holders = [])
    (hr : s.floor.policy.cardsRequired = true → p.cardsRequired = true)
    (hl : s.floor.policy.closedList = true → p.closedList = true) :
    (roleConsequences s u).floor = { u.floor with
        requests := u.floor.requests.filter fun r => !s.newlyBarred p r.seat
        speakers := u.floor.speakers.filter fun e => !s.newlyBarred p e.seat }
      ∧ (roleConsequences s u).log = s.logAll .role (u.floor.speakers.filter fun e => s.newlyBarred p e.seat) u.log
      ∧ ∀ r ∈ u.floor.requests, s.newlyBarred p r.seat = true →
          ((roleConsequences s u).seat r.seat).refusal
            = some (if noCard (s.seat r.seat).card then .cardNeeded else .notPermitted) := by
  have hc : ∀ i, s.newlyBarred p i = true → ((s.withPolicy p).effRole i).restricted = true :=
    fun i => newlyBarred_restricted
  set c := s.newlyBarred p with hcdef
  set v := u.floor.requests.foldl (requestRolePass c) u with hv
  have hsv : Steady (s.withPolicy p) v := hu.trans (.foldl (requestRolePass_steady c) _ u)
  obtain ⟨hvf, hvl⟩ := requestPass_lists hc u.floor.requests hu
  have hvreq : u.floor.requests.filter (fun q => !(c q.seat && decide (∃ r ∈ u.floor.requests, q.seat = r.seat)))
      = u.floor.requests.filter fun q => !c q.seat :=
    List.filter_congr fun q hq => by
      rw [decide_eq_true (⟨q, hq, rfl⟩ : ∃ r ∈ u.floor.requests, q.seat = r.seat), Bool.and_true]
  rw [hvreq] at hvf
  set es := v.floor.speakers.filter fun e => c e.seat with hes
  have heq : roleConsequences s u = closeAll .role (es.map (·.seat)) v := by
    rw [roleConsequences_of_newlyBarred hu ho hr hl]
    exact speakerPass_eq (s0 := s.withPolicy p) hc hm ha v.floor.speakers hsv (by rw [hvf]; exact hb.speakersOnce)
      (by rw [hvf]; exact hb.speakersOnce) (fun _ he => he) (by rw [hvf]; exact hh)
  have hmem : ∀ e ∈ es, e ∈ v.floor.speakers := fun e he => List.mem_of_mem_filter he
  have hvn : (v.floor.speakers.map (·.seat)).Nodup := by rw [hvf]; exact hb.speakersOnce
  obtain ⟨hf, hlog⟩ := closeAll_of_not_holders .role es v hvn (hvn.sublist (List.filter_sublist.map _)) hmem
    (by rw [hvf, hh]; exact fun _ _ => List.not_mem_nil)
  refine ⟨?_, ?_, fun r hrm hcr => ?_⟩
  · rw [heq, hf, hvf]
    refine congrArg (fun l => { u.floor with requests := u.floor.requests.filter fun r => !c r.seat, speakers := l })
      (List.filter_congr fun e he => ?_)
    rw [hes, hvf]
    cases hce : c e.seat <;> simp [he, hce]
  · rw [heq, hlog, hvl, hsv.logAll, hes, hvf]
    rfl
  · have hnot : r.seat ∉ es.map (·.seat) := fun hm => by
      obtain ⟨e, he, her⟩ := List.mem_map.mp hm
      have he' := hmem e he
      rw [hvf] at he'
      exact (List.nodup_append.mp hb.once).2.2 _ (List.mem_map_of_mem he') _ (List.mem_map_of_mem hrm) her
    rw [heq, closeAll_refusal _ _ _ hnot, requestPass_refusal hc u.floor.requests hu hrm hcr
      ((requesting_iff u _).mpr ⟨r, hrm, rfl⟩), newlyBarred_refusalFor hcr]

end consequences

/-! ## The obligation -/

theorem clearFloor_clears {s : State} (tag : Byte) (hready : s.Ready) (ho : s.floor.isOpen = true)
    (hs : s.floor.Sound) : ∃ t, exec (.clearFloor tag []) s = .next t
      ∧ t.floor = { s.floor with
          speakers := s.floor.speakers.filter fun e => e.chairClass
          requests := [] }
      ∧ t.log = s.logAll .clear (s.floor.speakers.filter fun e => !e.chairClass) s.log
      ∧ KeptBut [.floor, .log, .seats, .screens, .transmitter, .marks] s t
      ∧ Answered 0x04 tag .ok [] s t := by
  obtain ⟨hkept, hans, hh⟩ := hostRequest_steadyReply ⟨0x04, tag, []⟩ hready
    (reqClearFloor_open tag (s := s.taken) ho) (clearFloorCore_steady s.taken)
  obtain ⟨hfloor, hlog⟩ := clearOrdinary_eq .clear (u := s.taken) hs.speakersOnce fun e => hs.ordinary_not_holder
  exact ⟨_, exec_clearFloor _ _ _, hh.floor.trans hfloor, hh.log.trans hlog, hkept, hans⟩

theorem okOr_ne (p given : Policy) : okOr (decide (p ≠ given)) = if p = given then .ok else .okClamped := by
  by_cases h : p = given <;> simp [okOr, h]

/-- SET_FLOOR's change, from the state with the request taken, comes to `u` as its request is answered. -/
theorem setFloor_reply {s : State} (tag : Byte) (hready : s.Ready) {q : List Byte} (hq : q.length = 14)
    {given p : Policy} (hg : policyAt q 0 = some given) (hp : clampPolicy given = p) (ho : s.floor.isOpen = true) :
    FloorReply 0x05 tag (if p = given then .ok else .okClamped) (putPolicy p) s
      (roleConsequences s.taken (adoptPolicy p s.taken)) (hostRequest ⟨0x05, tag, q⟩ (reqSetFloor tag q) s) := by
  have hst := adoptPolicy_steady p s.taken
  have hf := reqSetFloor_open tag (s := s.taken) hq hg ho
  rw [hp, okOr_ne] at hf
  exact hostRequest_floorReply _ hready hf hst.outer hst.seq

theorem timing_eq {p q : Policy} (h1 : p.speechLimit = q.speechLimit) (h2 : p.warningLead = q.warningLead)
    (h3 : p.atLimit = q.atLimit) (h4 : p.allowance = q.allowance) : p.timing = q.timing := by
  simp only [Policy.timing, h1, h2, h3, h4]

section adopted
variable {s : State} (hs : s.floor.Sound) {p : Policy} (hm : p.mode = .requestMode)
  (ht : p.timing = s.floor.policy.timing)
include hs hm ht

/-- With the card fields as they were, the entries beyond Smax are closed and nothing else happens (R32). -/
theorem adopted_of_sameCards (hr : p.cardsRequired = s.floor.policy.cardsRequired)
    (hl : p.closedList = s.floor.policy.closedList) :
    (roleConsequences s (adoptPolicy p s)).floor = { s.floor with
        policy := p
        speakers := s.floor.speakers.filter fun e => decide (e ∉ excessBeyond p.smax s.floor.speakers) }
      ∧ (roleConsequences s (adoptPolicy p s)).log
          = s.logAll .limit (excessBeyond p.smax s.floor.speakers) s.log := by
  rw [roleConsequences_of_sameCards (adoptPolicy_steady p s) hr hl, adoptPolicy_of_requestMode hm ht]
  exact closeExcess_eq p hs

/-- Where cards become required or the list is closed, the entries beyond Smax are closed, and then each seat so
restricted loses its request and its entry (R32, R86). -/
theorem adopted_restricts (ho : s.floor.isOpen = true) (ha : p.autoAdvance = false) (hh : s.floor.holders = [])
    (hr : s.floor.policy.cardsRequired = true → p.cardsRequired = true)
    (hl : s.floor.policy.closedList = true → p.closedList = true) :
    let left := s.floor.speakers.filter fun e => decide (e ∉ excessBeyond p.smax s.floor.speakers)
    (roleConsequences s (adoptPolicy p s)).floor = { s.floor with
        policy := p
        requests := s.floor.requests.filter fun r => !s.newlyBarred p r.seat
        speakers := left.filter fun e => !s.newlyBarred p e.seat }
      ∧ (roleConsequences s (adoptPolicy p s)).log = s.logAll .role (left.filter fun e => s.newlyBarred p e.seat)
          (s.logAll .limit (excessBeyond p.smax s.floor.speakers) s.log)
      ∧ ∀ r ∈ s.floor.requests, s.newlyBarred p r.seat = true →
          ((roleConsequences s (adoptPolicy p s)).seat r.seat).refusal
            = some (if noCard (s.seat r.seat).card then .cardNeeded else .notPermitted) := by
  have hst := adoptPolicy_steady p s
  have hb := adoptPolicy_bounded p hs
  obtain ⟨hf, hlog⟩ := closeExcess_eq p hs
  rw [← adoptPolicy_of_requestMode hm ht] at hf hlog
  obtain ⟨hf', hlog', href⟩ := roleConsequences_restricts hst hb ho hm ha (by rw [hf]; exact hh) hr hl
  rw [hf] at hf' hlog' href
  rw [hlog] at hlog'
  exact ⟨hf', hlog', href⟩

end adopted

theorem noCard_eq (c : CardPart) : noCard c = decide (c.state = .none ∨ c.state = .reading) := by
  simp [noCard]

/-- Settles O23: CLEAR_FLOOR clears the ordinary entries, and SET_FLOOR's change adopts the policy, which stays bounded
through the consequences of the role changes. -/
theorem floorClearedAndSet : Obligations.FloorClearedAndSet := by
  unfold Obligations.FloorClearedAndSet
  refine ⟨fun s tag hready => ⟨fun ho hs => ?_, fun hclosed => ?_, fun p hp => ?_⟩,
    fun s tag hready => ⟨fun given h1 h2 h3 h4 => ?_, fun q hq hbad => ?_, fun q hq => ?_⟩⟩
  · exact clearFloor_clears tag hready ho hs
  · exact congrArg _ (hostRequest_answer _ hready (reqClearFloor_closed tag (s := s.taken) hclosed))
  · exact congrArg _ (hostRequest_answer _ hready
      (fixedForm_badLength (fun h => hp (List.length_eq_zero_iff.mp h)) _ s.taken))
  · intro inRange p
    have hat := policyAt_putPolicy h1 h2 h3 h4
    have hp : clampPolicy given = p := clampPolicy_eq given
    refine ⟨fun hclosed => ?_, fun ho hs => ?_⟩
    · exact congrArg _ (hostRequest_answer _ hready
        (reqSetFloor_closed tag (s := s.taken) (putPolicy_length given) hat hclosed))
    · have hst := adoptPolicy_steady p s.taken
      have hrole := hst.trans (roleConsequences_steady s.taken (adoptPolicy p s.taken))
      have hb := (adoptPolicy_bounded p (s := s.taken) hs).roleConsequences s.taken
      obtain ⟨hkept, hans, hh⟩ := setFloor_reply tag hready (putPolicy_length given) hat hp ho
      refine ⟨_, exec_setFloor _ _ _, ?_, ?_, ?_, hkept, hans, fun hm ht1 ht2 ht3 ht4 hr hl => ?_,
        fun hm ha ht1 ht2 ht3 ht4 hno hr hl => ?_⟩
      · rw [hh.floor, hrole.policy]; rfl
      · rw [hh.floor, hrole.isOpen]; exact ho
      · rw [hh.floor]
        have := hb.room
        rwa [hrole.policy] at this
      · rw [hh.floor, hh.log]
        exact adopted_of_sameCards (s := s.taken) hs hm (timing_eq ht1 ht2 ht3 ht4) hr hl
      · obtain ⟨hf, hlog, href⟩ :=
          adopted_restricts (s := s.taken) hs hm (timing_eq ht1 ht2 ht3 ht4) ho ha hno hr hl
        simp only [State.newlyBarred, noCard_eq] at hf hlog href
        refine ⟨hh.floor.trans hf, hh.log.trans hlog, fun r hr hbar => ?_⟩
        rw [hh.refusal]
        exact href r hr hbar
  · exact congrArg _ (hostRequest_answer _ hready (reqSetFloor_badValue tag hq (policyAt_eq_none hbad) s.taken))
  · exact congrArg _ (hostRequest_answer _ hready (fixedForm_badLength hq _ s.taken))

end Sys2Proof.Machine
end

section
/-! What the entry of a meeting does to the lines (R166, R169): an ASLEEP line wakes, and a RUNNING line gives up its
sleep. -/

open Sys2Proof Sys2Proof.Machine

namespace Sys2Proof.Machine

/-! ## The arbiter puts no SLEEP on the line (R193) -/

/-- A SLEEP is on a line. -/
def State.sleepOn (s : State) (l : LineId) : Prop := (s.line l).activity = .exchange .sleep

theorem not_sleepOn_putExchange {l : LineId} {x : Exchange} (h : x ≠ .sleep) (s : State) :
    ¬ (putExchange l x s).sleepOn l := by
  simpa [State.sleepOn, putExchange] using h

theorem not_sleepOn_quietLine (l : LineId) (s : State) : ¬ (quietLine l s).sleepOn l := by
  simp [State.sleepOn, quietLine]

theorem pollInRound_ne_sleep {l : LineId} {s : State} {x : Exchange} (h : s.pollInRound l = some x) : x ≠ .sleep := by
  unfold State.pollInRound at h
  dsimp only at h
  split at h
  · cases h
  · split at h
    · cases h; exact Exchange.noConfusion
    · split at h
      · obtain ⟨a, _, rfl⟩ := Option.map_eq_some_iff.mp h
        exact Exchange.noConfusion
      · cases h

theorem choosePoll_not_sleepOn {l : LineId} {s t : State} (h : choosePoll l s = some t) : ¬ t.sleepOn l := by
  unfold choosePoll at h
  split at h
  · next x hx =>
    cases h
    exact not_sleepOn_putExchange (pollInRound_ne_sleep hx) s
  · split at h
    · cases h
    · obtain ⟨x, hx, rfl⟩ := Option.map_eq_some_iff.mp h
      exact not_sleepOn_putExchange (pollInRound_ne_sleep hx) _

theorem serveOrder_not_sleepOn (kind : State → Station → Option OrderKind) (ptr : Nat → Line → Line) (l : LineId)
    (p : Option Nat) (fuel : Nat) (s : State) (h : (serveOrder kind ptr l p fuel s).1 = true) :
    ¬ (serveOrder kind ptr l p fuel s).2.sleepOn l := by
  induction fuel generalizing s with
  | zero => cases h
  | succ n ih =>
    unfold serveOrder at h ⊢
    split at h
    · cases h
    · split at h
      · cases h
      · dsimp only at h ⊢
        split at h
        · exact not_sleepOn_putExchange Exchange.noConfusion _
        · exact ih _ h

theorem serveFetch_not_sleepOn {l : LineId} {s : State} (h : (serveFetch l s).1 = true) :
    ¬ (serveFetch l s).2.sleepOn l := by
  unfold serveFetch at h ⊢
  split at h
  · exact not_sleepOn_putExchange Exchange.noConfusion _
  · cases h

theorem chooseClaim_not_sleepOn (l : LineId) (s : State) : ¬ (chooseClaim l s).sleepOn l := by
  unfold chooseClaim
  dsimp only
  split
  · next h => exact serveOrder_not_sleepOn _ _ l _ _ s h
  · split
    · next h => exact serveFetch_not_sleepOn h
    · split
      · next h => exact serveOrder_not_sleepOn _ _ l _ _ _ h
      · cases hp : choosePoll l (serveBulk l (serveFetch l (serveUrgent l s).2).2).2 with
        | none => exact not_sleepOn_quietLine l _
        | some t => exact choosePoll_not_sleepOn hp

theorem arbiter_not_sleepOn (l : LineId) (s : State) : ¬ (arbiter l s).sleepOn l := by
  unfold arbiter
  dsimp only
  split
  · exact not_sleepOn_putExchange Exchange.noConfusion _
  · split
    · split
      · next h => exact choosePoll_not_sleepOn h
      · exact chooseClaim_not_sleepOn l s
    · exact chooseClaim_not_sleepOn l s

/-! ## A line that has given up its sleep (R169) -/

/-- A line is awake: its idle count is 0, and no SLEEP is due or on it. -/
structure Line.Awake (x : Line) : Prop where
  idle : x.idle = 0
  due : x.sleepDue = false
  quiet : x.activity ≠ .exchange .sleep

theorem arbiter_awake {l : LineId} {s : State} (hi : (s.line l).idle = 0) (hd : (s.line l).sleepDue = false) :
    ((arbiter l s).line l).Awake ∧ ((arbiter l s).line l).state = (s.line l).state := by
  have hq := arbiter_not_sleepOn l s
  obtain ⟨_, _, _, _, _, _, _, e⟩ := (arbiter_arbitrated l s).line
  refine ⟨⟨?_, ?_, hq⟩, ?_⟩
  · rw [e]; exact hi
  · rw [e]; exact hd
  · rw [e]

/-- With no SLEEP due the next exchange is none, and the line's state changes for a RESCAN that waits alone. -/
theorem nextExchange_awake {l : LineId} {s : State} (hi : (s.line l).idle = 0) (hd : (s.line l).sleepDue = false) :
    ((nextExchange l s).line l).Awake
      ∧ ((s.line l).rescans = [] → ((nextExchange l s).line l).state = (s.line l).state) := by
  have ha := arbiter_awake hi hd
  unfold nextExchange
  dsimp only
  split
  · exact ⟨ha.1, fun _ => ha.2⟩
  · split
    · next hr =>
      refine ⟨?_, fun h => absurd h hr⟩
      unfold beginEnumeration
      rw [State.modLine_line]
      exact ⟨hi, rfl, fun h => by cases h⟩
    · rw [if_neg (by rw [hd]; exact Bool.false_ne_true)]
      exact ⟨ha.1, fun _ => ha.2⟩

theorem giveUpSleep_of_not_sleepOn {l : LineId} {s : State} (h : ¬ s.sleepOn l) :
    giveUpSleep l s = s.modLine l fun x => { x with idle := 0, sleepDue := false } := if_neg h

theorem giveUpSleep_of_sleepOn {l : LineId} {s : State} (h : s.sleepOn l) :
    giveUpSleep l s = nextExchange l (quietLine l (s.modLine l fun x => { x with idle := 0, sleepDue := false })) :=
  if_pos h

theorem giveUpSleep_awake (l : LineId) (s : State) : ((giveUpSleep l s).line l).Awake := by
  by_cases h : s.sleepOn l
  · rw [giveUpSleep_of_sleepOn h]
    exact (nextExchange_awake (by simp [quietLine]) (by simp [quietLine])).1
  · rw [giveUpSleep_of_not_sleepOn h, State.modLine_line]
    exact ⟨rfl, rfl, h⟩

/-- A RUNNING line that gives up its sleep stays RUNNING, but where a RESCAN waits behind the SLEEP on the line. -/
theorem giveUpSleep_state {l : LineId} {s : State} (h : s.sleepOn l → (s.line l).rescans = []) :
    ((giveUpSleep l s).line l).state = (s.line l).state := by
  by_cases hs : s.sleepOn l
  · rw [giveUpSleep_of_sleepOn hs, (nextExchange_awake (by simp [quietLine]) (by simp [quietLine])).2]
    · simp [quietLine]
    · simpa [quietLine] using h hs
  · rw [giveUpSleep_of_not_sleepOn hs, State.modLine_line]

/-! ## Waking (R166) -/

theorem modLine_kept (l : LineId) (f : Line → Line) (s : State) : KeptBut [Block.ofLine l] s (s.modLine l f) := by
  intro b hb
  cases l <;> cases b <;> simp [Block.ofLine] at hb <;> simp [Block.Same, State.modLine]

theorem wakeForMeeting_kept (l : LineId) (s : State) :
    KeptBut [.seats, .screens, Block.ofLine l] s (wakeForMeeting l s) := by
  unfold wakeForMeeting
  split
  · exact (modLine_kept l _ s).mono fun b hb => by simp_all
  · exact giveUpSleep_kept l s
  · exact .refl _ s

theorem nextExchange_seats (l : LineId) (s : State) (i : SeatId) :
    (s.seat i).Remarked ((nextExchange l s).seat i) := by
  unfold nextExchange
  dsimp only
  split
  · exact (arbiter_arbitrated l s).seats i
  · split
    · unfold beginEnumeration State.seat
      rw [State.modLine_seats]
      exact .refl _
    · split
      · exact (putExchange_arbitrated l _ s).seats i
      · exact (arbiter_arbitrated l s).seats i

theorem wakeForMeeting_seats (l : LineId) (s : State) (i : SeatId) :
    (s.seat i).Remarked ((wakeForMeeting l s).seat i) := by
  have hmod : ∀ f, (s.modLine l f).seat i = s.seat i := fun f => by unfold State.seat; rw [State.modLine_seats]
  unfold wakeForMeeting
  split
  · unfold wakeLine
    rw [hmod]
    exact .refl _
  · by_cases h : s.sleepOn l
    · rw [giveUpSleep_of_sleepOn h]
      have := nextExchange_seats l (quietLine l (s.modLine l fun x => { x with idle := 0, sleepDue := false })) i
      unfold quietLine State.seat at this ⊢
      simpa only [State.modLine_seats] using this
    · rw [giveUpSleep_of_not_sleepOn h, hmod]
      exact .refl _
  · exact .refl _

/-- What the entry of a meeting makes of a line. -/
structure Line.Woken (x y : Line) : Prop where
  state : (x.activity = .exchange .sleep → x.rescans = []) → y.state = if x.state = .asleep then .waking else x.state
  running : x.state = .running → x.activity ≠ .exchange .sleep → y = { x with idle := 0, sleepDue := false }
  awake : x.state = .running → y.Awake

theorem wakeForMeeting_line (l : LineId) (s : State) : (s.line l).Woken ((wakeForMeeting l s).line l) := by
  unfold wakeForMeeting
  split
  · next h =>
    rw [wakeLine, State.modLine_line]
    have hn : (s.line l).state ≠ .running := by rw [h]; exact LineState.noConfusion
    exact ⟨fun _ => by rw [if_pos h], fun hr => absurd hr hn, fun hr => absurd hr hn⟩
  · next h =>
    refine ⟨fun hs => ?_, fun _ hq => ?_, fun _ => giveUpSleep_awake l s⟩
    · rw [giveUpSleep_state hs, if_neg (by rw [h]; exact LineState.noConfusion)]
    · rw [giveUpSleep_of_not_sleepOn hq, State.modLine_line]
  · next ha hr =>
    exact ⟨fun _ => by rw [if_neg ha], fun h => absurd h hr, fun h => absurd h hr⟩

theorem KeptBut.line {m : List Block} {s t : State} (h : KeptBut m s t) {l : LineId} (hl : Block.ofLine l ∉ m) :
    t.line l = s.line l := by
  cases l
  · exact h _ hl
  · exact h _ hl

/-- Both lines are asked to wake (R108, R166). -/
def wakeLines (s : State) : State := wakeForMeeting .b (wakeForMeeting .a s)

theorem wakeLines_kept (s : State) : KeptBut [.seats, .screens, .lineA, .lineB] s (wakeLines s) :=
  ((wakeForMeeting_kept .a s).mono (by decide)).trans ((wakeForMeeting_kept .b _).mono (by decide))

theorem wakeLines_line (s : State) (l : LineId) : (s.line l).Woken ((wakeLines s).line l) := by
  cases l with
  | a =>
    have h := (wakeForMeeting_kept .b (wakeForMeeting .a s)).line (l := .a) (by decide)
    unfold wakeLines
    rw [h]
    exact wakeForMeeting_line .a s
  | b =>
    have h := (wakeForMeeting_kept .a s).line (l := .b) (by decide)
    have := wakeForMeeting_line .b (wakeForMeeting .a s)
    rwa [h] at this

theorem wakeLines_refusal (s : State) (i : SeatId) : ((wakeLines s).seat i).refusal = (s.seat i).refusal := by
  obtain ⟨_, _, ha⟩ := wakeForMeeting_seats .a s i
  obtain ⟨_, _, hb⟩ := wakeForMeeting_seats .b (wakeForMeeting .a s) i
  unfold wakeLines
  rw [hb, ha]

end Sys2Proof.Machine
end

section
/-! The entry of a meeting: the floor opens under its policy (R15, R109); OPEN_NOW. -/

open Sys2Proof Sys2Proof.Machine

namespace Sys2Proof.Machine

/-! ## What a change keeps -/

/-- What a change hands on touches the floor, the log, the seats, the screens and the notice marks alone. -/
theorem change_kept (f : State → State) (s : State) :
    KeptBut [.floor, .log, .seats, .screens, .marks] (f s) (change f s) :=
  outer_keptBut (outer_change f s) (seq_change f s)

/-- On an empty floor role changes and new bindings have no consequence. -/
theorem roleConsequences_of_empty {u : State} (hs : u.floor.speakers = []) (hr : u.floor.requests = []) (s : State) :
    roleConsequences s u = u := by
  have hbar : ∀ w i, barCheckAs w i u = u := fun w i => by
    simp [barCheckAs, State.speaking, State.requesting, hs, hr]
  unfold roleConsequences
  split
  · rfl
  · simp only [hr, List.foldl_nil, hs]
    exact List.foldl_fixed' (hbar _) _

/-- A closed floor has no consequence of role changes. -/
theorem roleConsequences_of_closed {u : State} (h : u.floor.isOpen = false) (s : State) : roleConsequences s u = u := by
  simp [roleConsequences, h]

/-- A change that leaves an empty floor. -/
theorem change_handed_of_empty {f : State → State} {s : State} (hs : (f s).floor.speakers = [])
    (hr : (f s).floor.requests = []) : Handed (f s) (change f s) := by
  have := change_handed f s
  rwa [roleConsequences_of_empty hs hr] at this

/-! ## Opening the floor (R15) -/

/-- A floor that has just been opened under a policy. -/
def Floor.opened (p : Policy) (f : Floor) : Floor :=
  { f with
    isOpen := true
    speakers := []
    requests := []
    policy := p
    holders := []
    muting := false
    arrivalCounter := 0 }

theorem clearAllRefusals_refusal (s : State) (i : SeatId) : ((clearAllRefusals s).seat i).refusal = none := by
  simp [clearAllRefusals, State.seat]

theorem openFloor_refusal (p : Policy) (s : State) (i : SeatId) : ((openFloor p s).seat i).refusal = none :=
  clearAllRefusals_refusal _ i

theorem openFloor_kept (p : Policy) (s : State) : KeptBut [.floor, .seats] s (openFloor p s) := by
  intro b hb
  cases b <;> simp at hb <;> simp [Block.Same, openFloor, clearAllRefusals]

/-! ## Writing the sequencer -/

theorem setSeq_kept (q : Sequencer) (s : State) : KeptBut [.sequencer] s (s.setSeq q) := by
  intro b hb
  cases b <;> simp at hb <;> simp [Block.Same]

theorem markMeeting_kept (s : State) : KeptBut [.marks] s (markMeeting s) := by
  intro b hb
  cases b <;> simp at hb <;> simp [Block.Same, markMeeting, State.modMarks]

/-- The index with the state of one booking written. -/
def indexWith (n : Nat) (b : BookingState) (l : List IndexEntry) : List IndexEntry :=
  l.map fun x => if x.number = n then { x with state := b } else x

section setEntryState
variable (n : Nat) (b : BookingState) (s : State)

theorem followSettled_keeps {β : Type} (g : State → β) (h : ∀ s x, g (s.setSeq { s.seq with lastSettled := x }) = g s) :
    g (followSettled n b s) = g s := by
  rcases followSettled_eq n b s with e | ⟨-, e⟩
  · rw [e]
  · rw [e]; exact h s _

theorem followSettled_kept : KeptBut [.sequencer] s (followSettled n b s) := by
  rcases followSettled_eq n b s with e | ⟨-, e⟩
  · rw [e]; exact .refl _ s
  · rw [e]; exact setSeq_kept _ s

theorem setEntryState_kept : KeptBut [.sequencer] s (setEntryState n b s) :=
  (followSettled_kept n b s).trans (setSeq_kept _ _)

theorem setEntryState_index : (setEntryState n b s).seq.index = indexWith n b s.seq.index :=
  congrArg (indexWith n b) (followSettled_keeps n b s (·.seq.index) fun _ _ => rfl)

theorem setEntryState_current : (setEntryState n b s).seq.current = s.seq.current :=
  followSettled_keeps n b s (·.seq.current) fun _ _ => rfl

theorem setEntryState_roster : (setEntryState n b s).seq.roster = s.seq.roster :=
  followSettled_keeps n b s (·.seq.roster) fun _ _ => rfl

end setEntryState

section warnCore
variable {s : State} {c : Current}

theorem warnCore_eq (h : s.seq.current = some c) : warnCore s = s
    ∨ warnCore s = markMeeting (setCurrent (some { c with warned := true }) s) := by
  simp only [warnCore, h]
  split
  · exact .inr rfl
  · exact .inl rfl

theorem warnCore_current (h : s.seq.current = some c) : ∃ w, (warnCore s).seq.current = some { c with warned := w } := by
  rcases warnCore_eq h with e | e
  · rw [e]; exact ⟨c.warned, h⟩
  · rw [e]; exact ⟨true, rfl⟩

theorem warnCore_index (h : s.seq.current = some c) : (warnCore s).seq.index = s.seq.index := by
  rcases warnCore_eq h with e | e <;> rw [e]
  rfl

theorem warnCore_kept (h : s.seq.current = some c) : KeptBut [.sequencer, .marks] s (warnCore s) := by
  rcases warnCore_eq h with e | e
  · rw [e]; exact .refl _ s
  · rw [e]
    exact ((setSeq_kept _ s).mono (by decide)).trans ((markMeeting_kept _).mono (by decide))

end warnCore

/-! ## Entering IN_SESSION (R109) -/

/-- The booking of a current meeting is in session on a floor that its policy has opened. -/
structure InSession (c : Current) (s t : State) : Prop where
  current : ∃ w, t.seq.current = some { c with phase := .inSession, warned := w }
  index : t.seq.index = indexWith c.number .inSession s.seq.index
  floor : t.floor = s.floor.opened c.policy
  refusal : ∀ i, (t.seat i).refusal = none
  kept : KeptBut [.floor, .seats, .screens, .sequencer, .marks] s t

theorem enterCore_inSession (c : Current) (s : State) : InSession c s (enterCore c s) := by
  set u := markMeeting (setEntryState c.number .inSession
    (setCurrent (some { c with phase := .inSession }) (openFloor c.policy s))) with hu
  have hcur : u.seq.current = some { c with phase := .inSession } :=
    setEntryState_current c.number .inSession _
  have hidx : u.seq.index = indexWith c.number .inSession s.seq.index :=
    setEntryState_index c.number .inSession (setCurrent _ (openFloor c.policy s))
  have hafter : KeptBut [.sequencer, .marks] (openFloor c.policy s) (enterCore c s) :=
    ((((setSeq_kept _ _).trans (setEntryState_kept c.number .inSession _)).mono (by decide)).trans
      ((markMeeting_kept _).mono (by decide))).trans (warnCore_kept hcur)
  have hseats : (enterCore c s).seats = (openFloor c.policy s).seats := hafter.same .seats (by decide)
  refine ⟨?_, (warnCore_index hcur).trans hidx, hafter.same .floor (by decide), fun i => ?_, ?_⟩
  · obtain ⟨w, hw⟩ := warnCore_current hcur
    exact ⟨w, hw⟩
  · exact (congrArg (fun v : Vector SeatRec 64 => v[i].refusal) hseats).trans (openFloor_refusal c.policy s i)
  · exact ((openFloor_kept c.policy s).mono (by decide)).trans (hafter.mono (by decide))

/-- A change that opens the floor leaves it open and empty. -/
theorem InSession.change {c : Current} {f : State → State} {s : State} (h : InSession c s (f s)) :
    InSession c s (Machine.change f s) ∧ (Machine.change f s).log = s.log := by
  have hh : Handed (f s) (Machine.change f s) :=
    change_handed_of_empty (by rw [h.floor]; rfl) (by rw [h.floor]; rfl)
  have hlog : (f s).log = s.log := h.kept.same .log (by decide)
  have hk : KeptBut [.floor, .seats, .screens, .marks] (f s) (Machine.change f s) :=
    KeptBut.drop (b := .log) ((change_kept f s).mono (by decide)) hh.log
  refine ⟨⟨?_, ?_, hh.floor.trans h.floor, fun i => (hh.refusal i).trans (h.refusal i), ?_⟩, hh.log.trans hlog⟩
  · rw [seq_change]; exact h.current
  · rw [seq_change]; exact h.index
  · exact h.kept.trans (hk.mono (by decide))

/-! ## OPEN_NOW (R111) -/

theorem exec_openNow (tag : Byte) (p : List Byte) (s : State) :
    exec (.openNow tag p) s = .next (hostRequest ⟨0x24, tag, p⟩ (reqOpenNow tag p) s) := rfl

theorem scanning_iff (s : State) : s.scanning = true ↔ s.store.engine = .scanning := by simp [State.scanning]

theorem not_held {s : State} {n : Nat} (h : ∀ c, s.seq.change = some c → c.number ≠ n) : s.held n = false := by
  unfold State.held
  split
  · next c hc =>
    split
    · rfl
    · rfl
    · simpa using h c hc
  · rfl

theorem held_of_cancel {s : State} {c : BookingChange} (h : s.seq.change = some c) (hk : c.kind = .cancel) :
    s.held c.number = true := by
  simp [State.held, h, hk]

section reqOpenNow
variable (tag : Byte) {s : State} {m : Current}

theorem reqOpenNow_opens (hs : s.store.engine ≠ .scanning) (hc : s.seq.current = some m) (hp : m.phase = .lobby)
    (hh : s.held m.number = false) :
    reqOpenNow tag [] s = reply 0x24 tag .ok [] (wakeLines (change (enterCore m) s)) := by
  have hs' : s.scanning = false := Bool.eq_false_iff.mpr fun h => hs ((scanning_iff s).mp h)
  simp [reqOpenNow, fixedForm, hs', hc, hp, hh, enterSession, wakeLines]

theorem reqOpenNow_notReady (hs : s.store.engine = .scanning) : reqOpenNow tag [] s = reply 0x24 tag .notReady [] s := by
  simp [reqOpenNow, fixedForm, (scanning_iff s).mpr hs]

theorem reqOpenNow_wrongState (hs : s.store.engine ≠ .scanning) (hc : ∀ m, s.seq.current = some m → m.phase ≠ .lobby) :
    reqOpenNow tag [] s = reply 0x24 tag .wrongState [] s := by
  have hs' : s.scanning = false := Bool.eq_false_iff.mpr fun h => hs ((scanning_iff s).mp h)
  cases hcur : s.seq.current with
  | none => simp [reqOpenNow, fixedForm, hs', hcur]
  | some m => simp [reqOpenNow, fixedForm, hs', hcur, hc m hcur]

theorem reqOpenNow_busy (hs : s.store.engine ≠ .scanning) (hc : s.seq.current = some m) (hp : m.phase = .lobby)
    (hh : s.held m.number = true) : reqOpenNow tag [] s = reply 0x24 tag .busy [] s := by
  have hs' : s.scanning = false := Bool.eq_false_iff.mpr fun h => hs ((scanning_iff s).mp h)
  simp [reqOpenNow, fixedForm, hs', hc, hp, hh]

end reqOpenNow

/-- A request that a ready part takes and answers after an effect that leaves the store and the transmitter. -/
theorem hostRequest_keptReply {s v : State} (fr : Frame) {f : State → State} {kind tag : Byte} {r : Result}
    {body : List Byte} {m : List Block} (h : s.Ready) (hf : f s.taken = reply kind tag r body v)
    (hk : KeptBut m s.taken v) (hst : .store ∉ m) (htr : .transmitter ∉ m) :
    hostRequest fr f s = v.send ⟨.reply, replyFrame kind tag r body⟩
      ∧ Answered kind tag r body s (v.send ⟨.reply, replyFrame kind tag r body⟩)
      ∧ KeptBut (.transmitter :: m) s (v.send ⟨.reply, replyFrame kind tag r body⟩) := by
  have hstore : v.store = s.store := hk.same .store hst
  obtain ⟨hn, hw, ho, hl⟩ : Block.transmitter.Same s.taken v := hk.same .transmitter htr
  refine ⟨hostRequest_reply fr h hf (by rw [hstore]; exact h.1.2.2.1) ho hw,
    answered_of_send (fun hn => (h.1.2.2.2 hn).1) hn hl ho hw, ?_⟩
  exact (((taken_keptBut s).mono fun b hb => by simp_all).trans
    (hk.mono fun b hb => List.mem_cons_of_mem _ hb)).trans ((send_keptBut _ _).mono fun b hb => by simp_all)

theorem send_line (s : State) (f : OutFrame) (l : LineId) : (s.send f).line l = s.line l := by
  cases l
  · exact send_lineA s f
  · exact send_lineB s f

theorem send_refusal (s : State) (f : OutFrame) (i : SeatId) : ((s.send f).seat i).refusal = (s.seat i).refusal :=
  congrArg (fun v : Vector SeatRec 64 => v[i].refusal) (send_seats s f)

/-- OPEN_NOW of a LOBBY booking at a ready part (R111). -/
theorem openNow_opens {s : State} (tag : Byte) (hready : s.Ready) {m : Current} (hs : s.store.engine ≠ .scanning)
    (hc : s.seq.current = some m) (hp : m.phase = .lobby) (hh : ∀ c, s.seq.change = some c → c.number ≠ m.number) :
    ∃ t, exec (.openNow tag []) s = .next t
      ∧ (∃ m' : Current, t.seq.current = some m' ∧ m'.number = m.number ∧ m'.phase = .inSession)
      ∧ t.seq.index = indexWith m.number .inSession s.seq.index
      ∧ t.floor = s.floor.opened m.policy ∧ (∀ i, (t.seat i).refusal = none)
      ∧ (∀ l, (s.line l).Woken (t.line l))
      ∧ KeptBut [.floor, .seats, .screens, .sequencer, .lineA, .lineB, .transmitter, .marks] s t
      ∧ Answered 0x24 tag .ok [] s t := by
  obtain ⟨hin, -⟩ := (enterCore_inSession m s.taken).change
  set u := change (enterCore m) s.taken
  have hwake := wakeLines_kept u
  have hkept : KeptBut [.floor, .seats, .screens, .sequencer, .lineA, .lineB, .marks] s.taken (wakeLines u) :=
    (hin.kept.mono (by decide)).trans (hwake.mono (by decide))
  have hseq : (wakeLines u).seq = u.seq := hwake.same .sequencer (by decide)
  have hfloor : (wakeLines u).floor = u.floor := hwake.same .floor (by decide)
  obtain ⟨heq, hans, hk⟩ := hostRequest_keptReply ⟨0x24, tag, []⟩ hready
    (reqOpenNow_opens tag (s := s.taken) hs hc hp (not_held hh)) hkept (by decide) (by decide)
  refine ⟨_, (exec_openNow _ _ _).trans (congrArg _ heq), ?_, ?_, ?_, fun i => ?_, fun l => ?_, ?_, hans⟩
  · obtain ⟨w, hw⟩ := hin.current
    rw [send_seq, hseq]
    exact ⟨_, hw, rfl, rfl⟩
  · rw [send_seq, hseq]; exact hin.index
  · rw [send_floor, hfloor]; exact hin.floor
  · rw [send_refusal, wakeLines_refusal]; exact hin.refusal i
  · have hl : u.line l = s.line l := by
      have := hin.kept.line (l := l) (by cases l <;> decide)
      rw [this]
      cases l <;> rfl
    rw [send_line, ← hl]
    exact wakeLines_line u l
  · exact hk.mono (by decide)

end Sys2Proof.Machine
end

section
/-! A program handed to the store engine of a part at rest (R120, R121), and the transmitter's choice. -/

open Sys2Proof Sys2Proof.Machine

namespace Sys2Proof.Machine

/-! ## The write head becomes FULL (R121) -/

theorem sectorsIn_of_table {s t : State} (h : t.store.table = s.store.table) (x : SectorState) :
    t.sectorsIn x = s.sectorsIn x := by simp [State.sectorsIn, h]

theorem writeHead_of_table {s t : State} (h : t.store.table = s.store.table) : t.writeHead = s.writeHead := by
  simp [State.writeHead, sectorsIn_of_table h]

theorem nextSequence_of_table {s t : State} (h : t.store.table = s.store.table) : t.nextSequence = s.nextSequence := by
  simp [State.nextSequence, h]

theorem opened_of_writeHead {s : State} {h : Fin 16} (hw : s.writeHead = some h) :
    ∃ q, s.store.table[h.val]? = some ⟨.opened, q⟩ := by
  have hm : h ∈ s.sectorsIn .opened := List.mem_of_mem_head? hw
  have hst : (s.store.table.map (·.state))[h.val]? = some .opened := by
    simpa [State.sectorsIn] using (List.mem_filter.mp hm).2
  rw [List.getElem?_map] at hst
  obtain ⟨x, hx, hxs⟩ := Option.map_eq_some_iff.mp hst
  exact ⟨x.sequence, by rw [hx, ← hxs]⟩

/-- The sectors that count for the next sequence number are the same with an OPEN one FULL. -/
theorem inUse_set_full {l : List SectorEntry} {n q : Nat} (h : l[n]? = some ⟨.opened, q⟩) :
    ((l.set n ⟨.full, q⟩).filter fun e => e.state == .opened || e.state == .full).map (·.sequence)
      = (l.filter fun e => e.state == .opened || e.state == .full).map (·.sequence) := by
  induction l generalizing n with
  | nil => rfl
  | cons x l ih =>
    cases n with
    | zero =>
      cases h
      rfl
    | succ n =>
      have := ih (n := n) (by simpa using h)
      rw [List.set_cons_succ, List.filter_cons, List.filter_cons]
      split
      · rw [List.map_cons, List.map_cons, this]
      · exact this

theorem closeHead_of_none {s : State} (h : s.writeHead = none) : closeHead s = s := by simp [closeHead, h]

section closeHead
variable {s : State} {h : Fin 16} (hw : s.writeHead = some h)
include hw

theorem closeHead_table {q : Nat} (hq : s.store.table[h.val]? = some ⟨.opened, q⟩) :
    closeHead s = modStore (fun t => { t with table := t.table.set h.val ⟨.full, q⟩ }) s := by
  simp [closeHead, hw, setSector, State.sector, hq, List.getD_eq_getElem?_getD]

theorem closeHead_nextSequence : (closeHead s).nextSequence = s.nextSequence := by
  obtain ⟨q, hq⟩ := opened_of_writeHead hw
  rw [closeHead_table hw hq]
  simp only [State.nextSequence, modStore, State.setStore_store, inUse_set_full hq]

theorem closeHead_erased : (closeHead s).sectorsIn .erased = s.sectorsIn .erased := by
  obtain ⟨q, hq⟩ := opened_of_writeHead hw
  rw [closeHead_table hw hq]
  simp only [State.sectorsIn, modStore, State.setStore_store]
  refine List.filter_congr fun i _ => ?_
  rw [List.getElem?_map, List.getElem?_map, List.getElem?_set]
  split
  · next hi =>
    rw [← hi, hq]
    split <;> rfl
  · rfl

end closeHead

/-- What the closing of the head leaves of the store. -/
theorem closeHead_store (s : State) : ∃ l, closeHead s = modStore (fun t => { t with table := l }) s := by
  cases hw : s.writeHead with
  | none => exact ⟨s.store.table, closeHead_of_none hw⟩
  | some h =>
    obtain ⟨q, hq⟩ := opened_of_writeHead hw
    exact ⟨_, closeHead_table hw hq⟩

theorem closeHead_room (s : State) : (closeHead s).nextSequence = s.nextSequence
    ∧ (closeHead s).sectorsIn .erased = s.sectorsIn .erased := by
  cases hw : s.writeHead with
  | none => rw [closeHead_of_none hw]; exact ⟨rfl, rfl⟩
  | some h => exact ⟨closeHead_nextSequence hw, closeHead_erased hw⟩

/-! ## A program begins (R121, R126) -/

section begin
variable {j : ProgramJob} {s : State} (hj : j.writeCount = none) (hn : s.store.nextWrite ≤ 4294967295)
include hj hn

theorem beginProgram_atHead {h : Fin 16} (hw : s.writeHead = some h)
    (hr : s.store.nextFree + recordUnits j.body ≤ 256) :
    beginProgram j s = (.started, startProgram j ⟨h, s.store.nextFree⟩ none s) := by
  have hmax : ¬ Config.writeCountMax < s.store.nextWrite := by unfold Config.writeCountMax; omega
  simp [beginProgram, hj, hmax, hw, hr]

/-- Without room at the head a program opens the first ERASED sector. -/
theorem beginProgram_opens (hp : j.purpose ≠ .copy)
    (hw : ∀ h, s.writeHead = some h → 256 < s.store.nextFree + recordUnits j.body)
    (he : 2 ≤ (s.sectorsIn .erased).length) (hq : s.nextSequence ≤ 65535) :
    ∃ i, (s.sectorsIn .erased).head? = some i
      ∧ beginProgram j s = (.started, startProgram j ⟨i, 1⟩ (some s.nextSequence) (closeHead s)) := by
  have hmax : ¬ Config.writeCountMax < s.store.nextWrite := by unfold Config.writeCountMax; omega
  have hseq : ¬ Config.sequenceMax < s.nextSequence := by unfold Config.sequenceMax; omega
  obtain ⟨hns, her⟩ := closeHead_room s
  have hopen : beginProgram j s = openFor j (closeHead s) := by
    cases hh : s.writeHead with
    | none => simp [beginProgram, hj, hmax, hh, closeHead_of_none hh]
    | some h => simp [beginProgram, hj, hmax, hh, Nat.not_le.mpr (hw h hh)]
  cases hl : s.sectorsIn .erased with
  | nil => rw [hl] at he; simp at he
  | cons i rest =>
    have hlen : ¬ rest.length + 1 < 2 := by rw [hl, List.length_cons] at he; omega
    refine ⟨i, rfl, ?_⟩
    simp only [hopen, openFor, her, hl, hp, if_false, List.length_cons, hlen, hns, hseq]

end begin

/-! ## Handing on to an engine at rest (R120) -/

theorem pumpLoop_of_busy {s : State} (h : s.store.engine ≠ .idle ∨ s.store.reads ≠ []) (n : Nat) :
    pumpLoop n s = s := by
  cases n with
  | zero => rfl
  | succ n => exact if_pos h

theorem refuseHalted_of_clear {s : State} (h : s.store.latch = false) : refuseHalted s = s := by
  simp [refuseHalted, h]

theorem resumeErase_of_not {s : State} (h : ¬ (s.store.engine = .suspended ∧ s.store.reads = [])) :
    resumeErase s = s := if_neg h

/-- The first choice of an idle engine that starts its program is its last. -/
theorem pump_of_started {s s1 : State} {j : ProgramJob} (he : s.store.engine = .idle) (hr : s.store.reads = [])
    (hl : s.store.latch = false) (hp : s.store.programs = [j]) (hb : beginProgram j s = (.started, s1)) :
    pump s = setPrograms [] s1 := by
  have h1 : resumeErase s = s := resumeErase_of_not fun h => by rw [he] at h; exact EngineState.noConfusion h.1
  have hc : chooseWork s = (false, setPrograms [] s1) := by simp only [chooseWork, hp, hb]
  have hidle : ¬ (s.store.engine ≠ .idle ∨ s.store.reads ≠ []) := by simp [he, hr]
  unfold pump
  simp only [h1, refuseHalted_of_clear hl]
  rw [pumpLoop, if_neg hidle]
  simp only [hc]

theorem setStore_kept (x : Store) (s : State) : KeptBut [.store] s (s.setStore x) := by
  intro b hb
  cases b <;> simp at hb <;> simp [Block.Same]

theorem modStore_kept (f : Store → Store) (s : State) : KeptBut [.store] s (modStore f s) := setStore_kept _ s

theorem closeHead_kept (s : State) : KeptBut [.store] s (closeHead s) := by
  obtain ⟨l, hl⟩ := closeHead_store s
  rw [hl]
  exact modStore_kept _ s

/-- What was handed on is a reading of the store. -/
theorem HandedOn.ofStore {j : ProgramJob} {s t u : State} (h : HandedOn j s t) (hu : u.store = t.store) :
    HandedOn j s u := by
  unfold HandedOn at h ⊢
  rwa [hu]

section handOn
variable {j : ProgramJob} {s u : State} (hu : u.store = { s.store with programs := s.store.programs ++ [j] })
include hu

theorem pump_of_handOn_busy (hrest : s.store.AtRest) (hl : s.store.latch = false)
    (hb : s.store.engine ≠ .idle ∨ s.store.reads ≠ []) : pump u = u := by
  have h1 : resumeErase u = u := resumeErase_of_not fun h => by
    rw [hu] at h
    exact hrest.1 h.1 h.2
  unfold pump
  simp only [h1, refuseHalted_of_clear (s := u) (by rw [hu]; exact hl)]
  exact pumpLoop_of_busy (by rw [hu]; exact hb) _

/-- A program handed to an engine at rest, its latch clear, waits its turn or begins at once. -/
theorem pump_of_handOn (hrest : s.store.AtRest) (hl : s.store.latch = false) (hcan : s.CanProgram (recordUnits j.body))
    (hj : j.writeCount = none) (hp : j.purpose ≠ .copy) :
    HandedOn j s (pump u) ∧ KeptBut [.store] u (pump u) ∧ (pump u).store.reads = s.store.reads := by
  by_cases hb : s.store.engine ≠ .idle ∨ s.store.reads ≠ []
  · rw [pump_of_handOn_busy hu hrest hl hb]
    refine ⟨⟨fun _ => hu, fun he hr => ?_⟩, .refl _ u, by rw [hu]⟩
    exact absurd hb (by simp [he, hr])
  · have he : s.store.engine = .idle := by_contra fun h => hb (.inl h)
    have hr : s.store.reads = [] := by_contra fun h => hb (.inr h)
    obtain ⟨hpr, -⟩ := hrest.2.2 he hr
    obtain ⟨hn, hroom⟩ := (hcan.resolve_left fun h => hb (.inl h)).resolve_left fun h => hb (.inr h)
    have htable : u.store.table = s.store.table := by rw [hu]
    have hfree : u.store.nextFree = s.store.nextFree := by rw [hu]
    have hnu : u.store.nextWrite = s.store.nextWrite := by rw [hu]
    have hnext : u.store.nextWrite ≤ 4294967295 := hnu ▸ hn
    have hpump : ∀ s1, beginProgram j u = (.started, s1) → pump u = setPrograms [] s1 := fun s1 =>
      pump_of_started (by rw [hu]; exact he) (by rw [hu]; exact hr) (by rw [hu]; exact hl) (by rw [hu, hpr]; rfl)
    by_cases hhead : ∃ h, s.writeHead = some h ∧ s.store.nextFree + recordUnits j.body ≤ 256
    · obtain ⟨h, hw, hfit⟩ := hhead
      rw [hpump _ (beginProgram_atHead hj hnext ((writeHead_of_table htable).trans hw) (hfree ▸ hfit))]
      refine ⟨⟨fun hb' => absurd hb' hb, fun _ _ => ?_⟩, (modStore_kept _ u).trans (modStore_kept _ _),
        congrArg (·.reads) hu⟩
      simp only [setPrograms, startProgram, modStore, State.setStore_store, hu, hj, Option.getD_none, if_true]
      refine ⟨trivial, trivial, trivial, trivial, fun h' hw' _ => ?_, fun hno => ?_⟩
      · rw [hw] at hw'
        cases hw'
        rfl
      · exact absurd (hno h hw) (Nat.not_lt.mpr hfit)
    · obtain ⟨her, hq⟩ := hroom.resolve_left hhead
      have hno : ∀ h, s.writeHead = some h → 256 < s.store.nextFree + recordUnits j.body := fun h hw =>
        Nat.lt_of_not_le fun hfit => hhead ⟨h, hw, hfit⟩
      obtain ⟨i, hi, hbeg⟩ := beginProgram_opens (s := u) hj hnext hp
        (fun h hw => by rw [hfree]; exact hno h ((writeHead_of_table htable).symm.trans hw))
        (by rw [sectorsIn_of_table htable]; exact her) (by rw [nextSequence_of_table htable]; exact hq)
      obtain ⟨l, hcl⟩ := closeHead_store u
      rw [hpump _ hbeg]
      refine ⟨⟨fun hb' => absurd hb' hb, fun _ _ => ?_⟩,
        ((closeHead_kept u).trans (modStore_kept _ _)).trans (modStore_kept _ _), ?_⟩
      swap
      · rw [hcl]
        exact congrArg (·.reads) hu
      rw [hcl]
      simp only [setPrograms, startProgram, modStore, State.setStore_store, hu, hj, Option.getD_none, if_true]
      refine ⟨trivial, trivial, trivial, trivial, fun h' hw' hfit => ?_, fun _ i' hi' => ?_⟩
      · exact absurd (hno h' hw') (Nat.not_lt.mpr hfit)
      · rw [sectorsIn_of_table htable, hi'] at hi
        cases hi
        rw [nextSequence_of_table htable]

end handOn

/-! ## The transmitter's choice (R206, R207) -/

theorem setMarks_kept (s : State) (m : NoticeMarks) (faults closes : Nat) (last : Option (SeatId × CloseReason)) :
    KeptBut [.marks] s (s.setLink { s.link with
      marks := m, faultCount := faults, closeCount := closes, lastClose := last }) := by
  intro b hb
  cases b <;> simp at hb <;> simp [Block.Same]

/-- What forming a notice does: it changes the marks and what they carry, and leaves the FAULT record. -/
theorem dueNotice_after_eq {s : State} {d : DueNotice} (h : dueNotice s = some d) :
    ∃ m faults closes last, d.after = s.setLink { s.link with
      marks := m, faultCount := faults, closeCount := closes, lastClose := last } := by
  unfold dueNotice at h
  dsimp only at h
  repeat' split at h
  all_goals cases h <;> exact ⟨_, _, _, _, rfl⟩

theorem dueNotice_after {s : State} {d : DueNotice} (h : dueNotice s = some d) : KeptBut [.marks] s d.after := by
  obtain ⟨m, faults, closes, last, e⟩ := dueNotice_after_eq h
  rw [e]
  exact setMarks_kept s m faults closes last

/-- The choice touches the transmitter, and the marks of a notice it takes. -/
theorem chooseFrame_kept (s : State) : KeptBut [.transmitter, .marks] s (chooseFrame s) := by
  have hlink : ∀ (u : State) (f : OutFrame) (l : List OutFrame),
      KeptBut [.transmitter, .marks] u (u.modLink fun k => { k with onLine := some f, waiting := l }) := by
    intro u f l b hb
    cases b <;> simp at hb <;> simp [Block.Same]
  unfold chooseFrame
  split
  · exact .refl _ s
  · split
    · exact hlink s _ _
    · split
      · next d hd => exact ((dueNotice_after hd).mono (by decide)).trans (hlink d.after _ d.after.link.waiting)
      · exact .refl _ s

theorem chooseFrame_faultNote (s : State) : (chooseFrame s).link.faultNote = s.link.faultNote := by
  unfold chooseFrame
  split
  · rfl
  · split
    · rfl
    · split
      · next d hd =>
        obtain ⟨m, faults, closes, last, e⟩ := dueNotice_after_eq hd
        rw [e]
        rfl
      · rfl

/-- After a request that is answered later, an idle transmitter begins a notice at most. -/
theorem chooseFrame_deferred {s u : State} (hn : u.link.outstanding = s.link.outstanding + 1)
    (hw : u.link.waiting = s.link.waiting) (ho : u.link.onLine = s.link.onLine)
    (hl : u.link.lostRejects = s.link.lostRejects) (hs : s.link.onLine = none → s.link.waiting = []) :
    Deferred s (chooseFrame u) := by
  cases hs' : s.link.onLine with
  | some g =>
    rw [chooseFrame_of_busy (f := g) (ho.trans hs')]
    exact ⟨hn, hw, hl, fun f hf => ho.trans hf, fun h => by rw [hs'] at h; cases h⟩
  | none =>
    have huw : u.link.waiting = [] := hw.trans (hs hs')
    have hon : u.link.onLine = none := ho.trans hs'
    unfold chooseFrame
    simp only [hon, huw]
    split
    · next d hd =>
      obtain ⟨hdn, hdw, hdo, hdl⟩ : Block.transmitter.Same u d.after := (dueNotice_after hd).same .transmitter (by decide)
      refine ⟨hdn.trans hn, hdw.trans hw, hdl.trans hl, fun f hf => ?_, fun _ f hf => ?_⟩
      · rw [hs'] at hf; cases hf
      · cases hf; rfl
    · refine ⟨hn, hw, hl, fun f hf => ho.trans hf, fun _ f hf => ?_⟩
      rw [hon] at hf; cases hf

end Sys2Proof.Machine
end

section
/-! The end of a meeting: the floor closes and the roster is dropped (R16, R82, R104); END_NOW. -/

open Sys2Proof Sys2Proof.Machine

namespace Sys2Proof.Machine

/-! ## Closing the floor (R16) -/

section closeSeatAs
variable (w : SeatId → Option Nat) (r : CloseReason) (i : SeatId) (s : State)

theorem closeSeatAs_requests : (closeSeatAs w r i s).floor.requests = s.floor.requests := by
  unfold closeSeatAs
  split
  · rfl
  · exact dropHolder_requests i _

/-- The entries left by a close are the others, muted or not. -/
theorem closeSeatAs_unmuted : (closeSeatAs w r i s).floor.speakers.map SpeakerEntry.unmuted
    = (s.floor.speakers.filter fun x => decide (x.seat ≠ i)).map SpeakerEntry.unmuted := by
  simp only [← not_seat_beq]
  unfold closeSeatAs
  split
  · next h =>
    rw [speaker_eq_none_iff, not_speaking_iff] at h
    rw [List.filter_eq_self.mpr fun e he => by simp [h e he]]
  · exact dropHolder_speakers i _ SpeakerEntry.unmuted fun _ _ => rfl

end closeSeatAs

theorem closeAll_requests (r : CloseReason) (l : List SeatId) (s : State) :
    (closeAll r l s).floor.requests = s.floor.requests :=
  foldl_keeps (·.floor.requests) (fun s i => closeSeatAs_requests s.boundAttendee r i s) l s

/-- Closing every entry empties the list, one log record each; a record does not tell whether an entry is muted. -/
theorem closeAll_all (r : CloseReason) (l : List SpeakerEntry) (s : State) (hn : (l.map (·.seat)).Nodup)
    (hl : s.floor.speakers.map SpeakerEntry.unmuted = l.map SpeakerEntry.unmuted) :
    (closeAll r (l.map (·.seat)) s).floor.speakers = []
      ∧ (closeAll r (l.map (·.seat)) s).log = s.logAll r l s.log := by
  induction l generalizing s with
  | nil => exact ⟨List.map_eq_nil_iff.mp hl, rfl⟩
  | cons e l ih =>
    obtain ⟨hnot, hn⟩ := List.nodup_cons.mp hn
    obtain ⟨x, rest, hs, hx, hrest⟩ := List.map_eq_cons_iff.mp (hl.trans (List.map_cons ..))
    have hseat : x.seat = e.seat := congrArg (·.seat) hx
    have hseats : rest.map (·.seat) = l.map (·.seat) := by
      have := congrArg (List.map (·.seat)) hrest
      rwa [List.map_map, List.map_map] at this
    have hothers : ∀ y ∈ rest, y.seat ≠ e.seat := fun y hy h => by
      rw [← hseats] at hnot
      exact hnot (List.mem_map.mpr ⟨y, hy, h⟩)
    have hsp : s.speaker e.seat = some x := by
      simp [State.speaker, hs, hseat]
    have hlog : (closeSeat r e.seat s).log = s.log.push (s.logRecord e r) := by
      have hrec : s.logRecordFor (s.boundAttendee e.seat) x r = s.logRecord e r :=
        (congrArg (fun y => s.logRecordFor (s.boundAttendee e.seat) y r) hx :)
      exact (closeSeatAs_log hsp).trans (congrArg _ hrec)
    have hleft : (closeSeat r e.seat s).floor.speakers.map SpeakerEntry.unmuted = l.map SpeakerEntry.unmuted := by
      refine (closeSeatAs_unmuted s.boundAttendee r e.seat s).trans ?_
      rw [hs, List.filter_cons_of_neg (by simp [hseat]), List.filter_eq_self.mpr fun y hy => decide_eq_true (hothers y hy)]
      exact hrest
    obtain ⟨ihs, ihl⟩ := ih (closeSeat r e.seat s) hn hleft
    rw [(closeSeat_steady r e.seat s).logAll, hlog] at ihl
    exact ⟨ihs, ihl⟩

/-- A floor that has been closed: every speaker closed MEETING_END, and nothing on it (R16). -/
structure FloorClosed (s t : State) : Prop where
  isOpen : t.floor.isOpen = false
  speakers : t.floor.speakers = []
  requests : t.floor.requests = []
  holders : t.floor.holders = []
  log : t.log = s.logAll .meetingEnd s.floor.speakers s.log

theorem closeFloor_closed {s : State} (hn : (s.floor.speakers.map (·.seat)).Nodup) : FloorClosed s (closeFloor s) := by
  have hq := emptyRequests_floor s
  have hsp : (emptyRequests s).floor.speakers = s.floor.speakers := by rw [hq]
  obtain ⟨hs, hl⟩ := closeAll_all .meetingEnd s.floor.speakers (emptyRequests s) hn (by rw [hsp])
  rw [(emptyRequests_steady s).logAll, emptyRequests_log] at hl
  have heq : closeFloor s = clearAllRefusals (State.setFloor (closeAll .meetingEnd (s.floor.speakers.map (·.seat))
      (emptyRequests s)) { (closeAll .meetingEnd (s.floor.speakers.map (·.seat)) (emptyRequests s)).floor with
        isOpen := false, policy := Policy.walkIn, holders := [], muting := false }) := by
    simp only [closeFloor, hsp]
  rw [heq]
  exact ⟨rfl, hs, (closeAll_requests _ _ _).trans (by rw [hq]), rfl, hl⟩

/-! ## The end of a meeting (R104) -/

theorem dropRoster_kept (s : State) : KeptBut [.seats, .sequencer] s (dropRoster s) := by
  intro b hb
  cases b <;> simp at hb <;> simp [Block.Same, dropRoster]

theorem settleEntry_kept (n : Nat) (b : BookingState) (s : State) :
    KeptBut [.sequencer, .marks] s (settleEntry n b s) :=
  (((setSeq_kept _ s).trans (setSeq_kept _ _)).mono (by decide)).trans ((markMeeting_kept _).mono (by decide))

/-- The sequencer after a meeting has ended. -/
def Sequencer.ended (n : Nat) (q : Sequencer) : Sequencer :=
  { q with current := none, roster := none, index := indexWith n .done q.index, lastSettled := some (n, .done) }

theorem endCore_seq (n : Nat) (s : State) : (endCore n s).seq = s.seq.ended n := by
  have h : (endCore n s).seq = (closeFloor s).seq.ended n := rfl
  rw [h, seq_closeFloor]

theorem closeFloor_kept (s : State) : KeptBut [.floor, .log, .seats, .screens, .marks] s (closeFloor s) :=
  outer_keptBut (outer_closeFloor s) (seq_closeFloor s)

theorem endCore_after (n : Nat) (s : State) : KeptBut [.seats, .sequencer, .marks] (closeFloor s) (endCore n s) :=
  (((dropRoster_kept _).mono (by decide)).trans ((setSeq_kept _ _).mono (by decide))).trans
    ((settleEntry_kept _ _ _).mono (by decide))

theorem FloorClosed.ofKept {s t u : State} (h : FloorClosed s t) {m : List Block} (hk : KeptBut m t u)
    (hf : .floor ∉ m) (hl : .log ∉ m) : FloorClosed s u := by
  have hfloor : u.floor = t.floor := hk.same .floor hf
  have hlog : u.log = t.log := hk.same .log hl
  exact ⟨hfloor ▸ h.isOpen, hfloor ▸ h.speakers, hfloor ▸ h.requests, hfloor ▸ h.holders, hlog.trans h.log⟩

/-- The end of a meeting, as one change. -/
theorem endMeeting_ended {s : State} (hn : (s.floor.speakers.map (·.seat)).Nodup) (n : Nat) :
    FloorClosed s (endMeeting n s) ∧ (endMeeting n s).seq = s.seq.ended n
      ∧ KeptBut [.floor, .log, .seats, .screens, .sequencer, .marks] s (endMeeting n s) := by
  have hc := (closeFloor_closed hn).ofKept (endCore_after n s) (by decide) (by decide)
  have hh := change_handed (endCore n) s
  rw [roleConsequences_of_closed hc.isOpen] at hh
  refine ⟨⟨?_, ?_, ?_, ?_, hh.log.trans hc.log⟩, (seq_change _ s).trans (endCore_seq n s), ?_⟩
  · rw [endMeeting, hh.floor]; exact hc.isOpen
  · rw [endMeeting, hh.floor]; exact hc.speakers
  · rw [endMeeting, hh.floor]; exact hc.requests
  · rw [endMeeting, hh.floor]; exact hc.holders
  · exact (((closeFloor_kept s).mono (by decide)).trans ((endCore_after n s).mono (by decide))).trans
      ((change_kept (endCore n) s).mono (by decide))

/-! ## END_NOW (R113) -/

theorem exec_endNow (tag : Byte) (p : List Byte) (s : State) :
    exec (.endNow tag p) s = .next (hostRequest ⟨0x2D, tag, p⟩ (reqEndNow tag p) s) := rfl

section changeCheck
variable {s : State}

theorem changeCheck_notReady (h : s.store.engine = .scanning) : changeCheck s = some .notReady := by
  simp [changeCheck, (scanning_iff s).mpr h]

theorem not_scanning (h : s.store.engine ≠ .scanning) : s.scanning = false :=
  Bool.eq_false_iff.mpr fun hs => h ((scanning_iff s).mp hs)

theorem changeCheck_busy (h : s.store.engine ≠ .scanning) (hc : s.seq.change ≠ none) : changeCheck s = some .busy := by
  simp [changeCheck, not_scanning h, Option.isSome_iff_ne_none.mpr hc]

theorem changeCheck_none (h : s.store.engine ≠ .scanning) (hc : s.seq.change = none) : changeCheck s = none := by
  simp [changeCheck, not_scanning h, hc]

end changeCheck

section reqEndNow
variable (tag : Byte) {s : State}

theorem reqEndNow_refused {r : Result} (h : changeCheck s = some r) :
    reqEndNow tag [] s = reply 0x2D tag r [] s := by
  simp [reqEndNow, fixedForm, h]

theorem reqEndNow_wrongState (h : changeCheck s = none) (hc : ∀ m, s.seq.current = some m → m.phase ≠ .inSession) :
    reqEndNow tag [] s = reply 0x2D tag .wrongState [] s := by
  have hin : s.inSessionEntry = none := by
    unfold State.inSessionEntry
    split
    · next m hm => exact if_neg (hc m hm)
    · rfl
  simp [reqEndNow, fixedForm, h, hin]

theorem reqEndNow_ends (h : changeCheck s = none) {m : Current} (hc : s.seq.current = some m)
    (hp : m.phase = .inSession) {e : IndexEntry} (he : s.entry m.number = some e) (hl : s.store.latch = false) :
    reqEndNow tag [] s = startSettle .endNow tag e .done (endMeeting e.number s) := by
  have hin : s.inSessionEntry = some e := by simp [State.inSessionEntry, hc, hp, he]
  simp [reqEndNow, fixedForm, h, hin, hl]

end reqEndNow

/-- END_NOW of an IN_SESSION meeting at a ready part whose latch is clear (R113). -/
theorem endNow_ends {s : State} (tag : Byte) (hready : s.Ready) {m : Current} {e : IndexEntry}
    (hs : s.store.engine ≠ .scanning) (hch : s.seq.change = none) (hc : s.seq.current = some m)
    (hp : m.phase = .inSession) (he : s.entry m.number = some e) (hl : s.store.latch = false)
    (hcan : s.CanProgram 1) (hsound : s.floor.Sound) :
    ∃ t, exec (.endNow tag []) s = .next t ∧ FloorClosed s t
      ∧ t.seq = { s.seq.ended e.number with
          change := some ⟨.endNow, tag, e.number, walkInData 0 0, false, none⟩ }
      ∧ HandedOn (stateJob .change e.number e.version .done) s t
      ∧ KeptBut [.floor, .log, .seats, .screens, .sequencer, .store, .transmitter, .marks] s t
      ∧ Deferred s t := by
  obtain ⟨hclosed, hseq, hkept⟩ := endMeeting_ended (s := s.taken) hsound.speakersOnce e.number
  set u := startSettle .endNow tag e .done (endMeeting e.number s.taken) with hu
  have hsettle : KeptBut [.sequencer, .store] (endMeeting e.number s.taken) u :=
    ((setSeq_kept _ _).mono (by decide)).trans ((setStore_kept _ _).mono (by decide))
  have hstore : (endMeeting e.number s.taken).store = s.store := hkept.same .store (by decide)
  have hustore : u.store = { s.store with
      programs := s.store.programs ++ [stateJob .change e.number e.version .done] } := by
    rw [← hstore]; rfl
  have hlink : Block.transmitter.Same s.taken u :=
    (hkept.same .transmitter (by decide)).trans (hsettle.same .transmitter (by decide))
  obtain ⟨hhand, hpump, -⟩ := pump_of_handOn hustore hready.1.2.2.1 hl hcan rfl Purpose.noConfusion
  obtain ⟨hn, hw, ho, hlost⟩ : Block.transmitter.Same s.taken (pump u) :=
    hlink.trans (hpump.same .transmitter (by decide))
  have hchoose := chooseFrame_kept (pump u)
  have hexec : exec (.endNow tag []) s = .next (chooseFrame (pump u)) := by
    rw [exec_endNow, hostRequest_of_ready _ _ hready,
      reqEndNow_ends tag (s := s.taken) (changeCheck_none hs hch) hc hp he hl]
  have hafter : KeptBut [.store, .transmitter, .marks] u (chooseFrame (pump u)) :=
    (hpump.mono (by decide)).trans (hchoose.mono (by decide))
  refine ⟨_, hexec, ?_, ?_, hhand.ofStore (hchoose.same .store (by decide)), ?_,
    chooseFrame_deferred hn hw ho hlost fun h => (hready.1.2.2.2 h).1⟩
  · obtain ⟨ho, hsp, hr, hh, hlog⟩ :=
      (hclosed.ofKept hsettle (by decide) (by decide)).ofKept hafter (by decide) (by decide)
    exact ⟨ho, hsp, hr, hh, hlog⟩
  · have hq : (chooseFrame (pump u)).seq = u.seq := hafter.same .sequencer (by decide)
    have husq : u.seq = { (endMeeting e.number s.taken).seq with
        change := some ⟨.endNow, tag, e.number, walkInData 0 0, false, none⟩ } := rfl
    rw [hq, husq, hseq]
    rfl
  · exact (((taken_keptBut s).mono (by decide)).trans (hkept.mono (by decide))).trans
      ((hsettle.mono (by decide)).trans (hafter.mono (by decide)))

/-! ## The obligation -/

/-- Settles O32: OPEN_NOW's effect is the entry of the current LOBBY booking with the waking of the lines; END_NOW's is
the end of the meeting with its STATE record handed on. -/
theorem meetingOpenedAndEnded : Obligations.MeetingOpenedAndEnded := by
  unfold Obligations.MeetingOpenedAndEnded
  refine ⟨fun s tag hready => ⟨fun m hs hc hp hh => ?_, fun hs => ?_, fun hs hc => ?_, fun m c hs hc hp hch hk hn => ?_,
      fun p hp => ?_⟩,
    fun s tag hready => ⟨fun m e hs hch hc hp he hl hcan hsound => ?_, fun hs hch hc => ?_, fun hs => ?_,
      fun hs hch => ?_, fun p hp => ?_⟩⟩
  · obtain ⟨t, hexec, hcur, hidx, hfloor, href, hlines, hkept, hans⟩ := openNow_opens tag hready hs hc hp hh
    refine ⟨t, hexec, hcur, hidx, (congrArg (·.isOpen) hfloor :), (congrArg (·.policy) hfloor :),
      (congrArg (·.speakers) hfloor :), (congrArg (·.requests) hfloor :), (congrArg (·.holders) hfloor :),
      (congrArg (·.muting) hfloor :), (congrArg (·.arrivalCounter) hfloor :), href, fun l => ?_, hkept, hans⟩
    obtain ⟨hstate, hrun, hawake⟩ := hlines l
    exact ⟨hstate, hrun, fun h => ⟨(hawake h).idle, (hawake h).due, (hawake h).quiet⟩⟩
  · exact congrArg _ (hostRequest_answer _ hready (reqOpenNow_notReady tag (s := s.taken) hs))
  · exact congrArg _ (hostRequest_answer _ hready (reqOpenNow_wrongState tag (s := s.taken) hs hc))
  · have hheld : s.taken.held m.number = true := hn ▸ held_of_cancel (s := s.taken) hch hk
    exact congrArg _ (hostRequest_answer _ hready (reqOpenNow_busy tag (s := s.taken) hs hc hp hheld))
  · exact congrArg _ (hostRequest_answer _ hready
      (fixedForm_badLength (fun h => hp (List.length_eq_zero_iff.mp h)) _ s.taken))
  · obtain ⟨t, hexec, hclosed, hseq, hhand, hkept, hdef⟩ := endNow_ends tag hready hs hch hc hp he hl hcan hsound
    exact ⟨t, hexec, hclosed.isOpen, hclosed.speakers, hclosed.requests, hclosed.holders, hclosed.log,
      (congrArg (·.current) hseq :), (congrArg (·.roster) hseq :), (congrArg (·.index) hseq :),
      (congrArg (·.lastSettled) hseq :), ⟨walkInData 0 0, (congrArg (·.change) hseq :)⟩, hhand, hkept, hdef⟩
  · exact congrArg _ (hostRequest_answer _ hready
      (reqEndNow_wrongState tag (s := s.taken) (changeCheck_none hs hch) hc))
  · exact congrArg _ (hostRequest_answer _ hready (reqEndNow_refused tag (s := s.taken) (changeCheck_notReady hs)))
  · exact congrArg _ (hostRequest_answer _ hready (reqEndNow_refused tag (s := s.taken) (changeCheck_busy hs hch)))
  · exact congrArg _ (hostRequest_answer _ hready
      (fixedForm_badLength (fun h => hp (List.length_eq_zero_iff.mp h)) _ s.taken))

end Sys2Proof.Machine
end

section
/-! The end of a roster load (R108): what the load makes of the roster, and the evaluation that follows. -/

open Sys2Proof Sys2Proof.Machine

namespace Sys2Proof.Machine

/-! ## Loading a roster (R77, R82) -/

theorem KeptBut.foldl {α : Type} {m : List Block} {f : State → α → State} (h : ∀ s a, KeptBut m s (f s a)) (l : List α)
    (s : State) : KeptBut m s (l.foldl f s) := by
  induction l generalizing s with
  | nil => exact .refl m s
  | cons a l ih => exact (h s a).trans (ih _)

theorem modSeat_kept (i : SeatId) (f : SeatRec → SeatRec) (s : State) : KeptBut [.seats] s (s.modSeat i f) := by
  intro b hb
  cases b <;> simp at hb <;> simp [Block.Same]

theorem placeCard_kept (i : SeatId) (c : List Byte) (r : RoleId) (s : State) :
    KeptBut [.seats, .sequencer] s (placeCard i c r s) := by
  have hmod : ∀ f, KeptBut [.seats, .sequencer] s (modCard i f s) := fun f => (modSeat_kept i _ s).mono (by decide)
  unfold placeCard
  dsimp only
  split
  · exact hmod _
  · split
    · exact hmod _
    · split
      · exact (hmod _).trans ((setSeq_kept _ _).mono (by decide))
      · exact hmod _

theorem searchHeld_kept (s : State) (i : SeatId) : KeptBut [.seats, .sequencer] s (searchHeld s i) := by
  unfold searchHeld
  dsimp only
  split
  · exact placeCard_kept i _ _ s
  · exact .refl _ s

theorem loadRoster_kept (l : List Attendee) (s : State) : KeptBut [.seats, .sequencer] s (loadRoster l s) :=
  ((setSeq_kept _ s).mono (by decide)).trans (.foldl searchHeld_kept _ _)

/-- The attendees of the roster and their spoken totals, where a roster is loaded. -/
def State.rosterTotals (s : State) : Option (List (Attendee × Nat)) :=
  s.seq.roster.map fun l => l.map fun x => (x.attendee, x.total)

theorem map_modify_of_eq {α β : Type} (g : α → β) (f : α → α) (h : ∀ x, g (f x) = g x) (l : List α) (n : Nat) :
    (l.modify n f).map g = l.map g := by
  refine List.ext_getElem? fun k => ?_
  rw [List.getElem?_map, List.getElem?_map, List.getElem?_modify]
  cases l[k]? with
  | none => rfl
  | some x => by_cases hk : n = k <;> simp [hk, h]

/-- A binding leaves the attendees and their totals. -/
theorem setBoundSeat_rosterTotals (a : Nat) (j : Option SeatId) (s : State) :
    (setBoundSeat a j s).rosterTotals = s.rosterTotals := by
  simp only [State.rosterTotals, setBoundSeat, State.setSeq_seq, Option.map_map]
  refine congrArg (fun f => s.seq.roster.map f) (funext fun l => ?_)
  exact map_modify_of_eq (fun x : RosterEntry => (x.attendee, x.total)) (fun r => { r with boundSeat := j })
    (fun _ => rfl) l a

theorem searchHeld_rosterTotals (s : State) (i : SeatId) : (searchHeld s i).rosterTotals = s.rosterTotals := by
  unfold searchHeld
  dsimp only
  split
  · unfold placeCard
    dsimp only
    split
    · rfl
    · split
      · rfl
      · split
        · exact setBoundSeat_rosterTotals _ _ _
        · rfl
  · rfl

theorem loadRoster_rosterTotals (l : List Attendee) (s : State) :
    (loadRoster l s).rosterTotals = some (l.map fun a => (a, 0)) := by
  unfold loadRoster
  rw [foldl_keeps State.rosterTotals searchHeld_rosterTotals]
  simp [State.rosterTotals, Function.comp_def]

/-! ## The evaluation with one booking in the index (R103) -/

section evaluate
variable {s : State} {x : IndexEntry} {now : Nat} (hnow : s.now = some now) (heng : s.store.engine = .idle)
  (hidx : s.seq.index = [x])

theorem missedAt_eq_nil {s : State} {x : IndexEntry} {now : Nat} (hidx : s.seq.index = [x])
    (h : ¬ ((x.state = .pending ∨ x.state = .lobby) ∧ x.endMin ≤ now)) : s.missedAt now = [] := by
  simp only [State.missedAt, hidx, byStart, List.foldr_cons, List.foldr_nil, insertEntry]
  rw [List.filter_cons_of_neg (by simp [h])]
  rfl

theorem entry_of_index {s : State} {x : IndexEntry} (hidx : s.seq.index = [x]) : s.entry x.number = some x := by
  simp [State.entry, hidx]

/-- The state with the resume mark as given. -/
def State.withResume (b : Bool) (s : State) : State := s.setSeq { s.seq with resumeMark := b }

/-- In RUN the resume mark goes; with a meeting current, or no PENDING booking, nothing is taken up. -/
theorem evaluateLobby_quiet {s : State} {x : IndexEntry} (hidx : s.seq.index = [x])
    (h : s.seq.current ≠ none ∨ x.state ≠ .pending) (now : Nat) : ∃ b, evaluateLobby now s = s.withResume b := by
  cases hrun : s.link.run with
  | false => exact ⟨s.seq.resumeMark, by simp [evaluateLobby, hrun]; rfl⟩
  | true =>
    refine ⟨false, ?_⟩
    by_cases hc : s.seq.current = none
    · have hx := h.resolve_left fun hn => hn hc
      simp [evaluateLobby, hrun, hc, State.resumable, State.lobbyDue, hidx, byStart, insertEntry, hx, State.withResume]
    · simp [evaluateLobby, hrun, hc, State.withResume]

include hnow heng hidx

/-- With no meeting current and the booking settled or DAMAGED, an evaluation moves nothing. -/
theorem evaluate_settled (hcur : s.seq.current = none) (hp : x.state ≠ .pending) (hl : x.state ≠ .lobby) :
    ∃ b, evaluate s = s.withResume b := by
  have hend : evaluateEnd now s = s := by simp [evaluateEnd, hcur]
  have hwarn : evaluateWarning s = s := by simp [evaluateWarning, hcur]
  have hentry : evaluateEntry now s = s := by simp [evaluateEntry, hcur]
  obtain ⟨b, hb⟩ := evaluateLobby_quiet hidx (.inr hp) now
  refine ⟨b, ?_⟩
  unfold evaluate
  simp only [hnow, heng, reduceCtorEq, if_false, hend, hwarn, missedAt_eq_nil hidx (by simp [hp, hl]), List.foldl_nil,
    hentry, hb]

/-- With the booking LOBBY before its start, or IN_SESSION, and its end not come, the end warning alone is checked. -/
theorem evaluate_running {c : Current} (hcur : s.seq.current = some c) (hn : c.number = x.number)
    (hch : s.seq.change = none) (hend : now < x.endMin)
    (hph : c.phase = .inSession ∨ c.phase = .lobby ∧ now < x.startMin) :
    ∃ b, evaluate s = (change warnCore s).withResume b := by
  have hheld : ∀ u : State, u.seq.change = none → u.held c.number = false := fun u hu => by simp [State.held, hu]
  have hlate : ¬ x.endMin ≤ now := Nat.not_le.mpr hend
  have hentry : s.entry c.number = some x := hn ▸ entry_of_index hidx
  have hstep1 : evaluateEnd now s = s := by
    simp only [evaluateEnd, hcur, hentry]
    exact if_neg fun h => hlate h.2.2
  have hstep2 : evaluateWarning s = change warnCore s := by
    simp [evaluateWarning, hcur, hheld s hch]
  obtain ⟨w, hw⟩ := warnCore_current hcur
  have hcur' : (change warnCore s).seq.current = some { c with warned := w } := by rw [seq_change]; exact hw
  have hidx' : (change warnCore s).seq.index = [x] := by rw [seq_change, warnCore_index hcur]; exact hidx
  have hmiss : (change warnCore s).missedAt now = [] := missedAt_eq_nil hidx' fun h => hlate h.2
  have hentry' : (change warnCore s).entry c.number = some x := hn ▸ entry_of_index hidx'
  have hstep4 : evaluateEntry now (change warnCore s) = change warnCore s := by
    simp only [evaluateEntry, hcur', hentry']
    refine if_neg fun h => ?_
    rcases hph with hp | ⟨-, hs⟩
    · rw [hp] at h; exact Phase.noConfusion h.1
    · exact Nat.not_le.mpr hs h.2.2
  obtain ⟨b, hb⟩ := evaluateLobby_quiet hidx' (.inl fun h => by rw [hcur'] at h; cases h) now
  refine ⟨b, ?_⟩
  unfold evaluate
  simp only [hnow, heng, reduceCtorEq, if_false, hstep1, hstep2, hmiss, List.foldl_nil, hstep4, hb]

end evaluate

end Sys2Proof.Machine
end

section
/-! ROSTER_LOAD_COMPLETE (R108): the four ends of a load. -/

open Sys2Proof Sys2Proof.Machine

namespace Sys2Proof.Machine

/-! ## A part whose store engine has nothing to do -/

/-- No frame waits to be taken, and the engine has no read, program or pass. -/
structure Resting (s : State) : Prop where
  queue : s.link.queue = []
  engine : s.store.engine = .idle
  reads : s.store.reads = []
  programs : s.store.programs = []
  pass : s.store.pass = none

namespace Resting

variable {s t : State} (h : Resting s)
include h

theorem atRest : s.store.AtRest :=
  ⟨fun he => (EngineState.noConfusion (h.engine.symm.trans he)), fun _ => h.programs, fun _ _ => ⟨h.programs, h.pass⟩⟩

theorem settle : settleLink s = chooseFrame s := settleLink_of_atRest h.queue h.atRest

theorem ofKept {m : List Block} (hk : KeptBut m s t) (hs : .store ∉ m) (hq : .inputQueue ∉ m) : Resting t := by
  have hstore : t.store = s.store := hk.same .store hs
  obtain ⟨hqueue, -⟩ : Block.inputQueue.Same s t := hk.same .inputQueue hq
  exact ⟨hqueue.trans h.queue, hstore ▸ h.engine, hstore ▸ h.reads, hstore ▸ h.programs, hstore ▸ h.pass⟩

end Resting

/-! ## The read of the record (R125) -/

/-- The state once a roster load's read has been taken, its corrected units counted. -/
def State.rosterRead (r : MediumRecord) (s : State) : State :=
  countCorrected (correctedUnits r.health) (takeRead [] s)

theorem rosterRead_kept (r : MediumRecord) (s : State) : KeptBut [.store] s (s.rosterRead r) :=
  ((modStore_kept _ s).trans (modStore_kept _ _)).trans (modStore_kept _ _)

/-- What the read of a booking's record comes to. -/
def loadResultOf (r : MediumRecord) (d : BookingData) : LoadResult := if r.health.all unitReads then .read d else .failed

theorem readBooking_eq {e : IndexEntry} {r : MediumRecord} {d : BookingData} {s : State}
    (hr : s.recordAt e.place = some r) (hb : r.body = .booking d) :
    (readBooking e s).2 = countCorrected (correctedUnits r.health) s
      ∧ (r.health.all unitReads = true → (readBooking e s).1 = .ok d)
      ∧ (r.health.all unitReads = false → ∀ d', (readBooking e s).1 ≠ .ok d') := by
  have hall : r.health.all unitReads = ((r.health.take 8).all unitReads && (r.health.drop 8).all unitReads) := by
    rw [← List.all_append, List.take_append_drop]
  unfold readBooking
  simp only [hr, hb, hall]
  cases (r.health.take 8).all unitReads <;> cases (r.health.drop 8).all unitReads <;> simp

theorem completeRosterRead_eq {n : Nat} {e : IndexEntry} {r : MediumRecord} {d : BookingData} {s : State}
    (he : s.entry n = some e) (hr : s.recordAt e.place = some r) (hb : r.body = .booking d) :
    completeRosterRead n (takeRead [] s) = completeLoad n (loadResultOf r d) (s.rosterRead r) := by
  have he' : (takeRead [] s).entry n = some e := he
  obtain ⟨h2, hok, hfail⟩ := readBooking_eq (s := takeRead [] s) (e := e) hr hb
  unfold completeRosterRead loadResultOf State.rosterRead
  simp only [he']
  rw [← h2]
  generalize readBooking e (takeRead [] s) = p at hok hfail ⊢
  obtain ⟨o, u⟩ := p
  cases hall : r.health.all unitReads with
  | true =>
    cases hok hall
    rfl
  | false =>
    cases o with
    | ok d' => exact absurd rfl (hfail hall d')
    | headerFailed => rfl
    | attendeesFailed => rfl

/-! ## What follows the evaluation -/

theorem withResume_kept (b : Bool) (s : State) : KeptBut [.sequencer] s (s.withResume b) := setSeq_kept _ s

/-- What the store engine and the transmitter go on to do leaves the floor, the seats, the meeting and its roster. -/
structure Concluded (s t : State) : Prop where
  reads : t.store.reads = []
  floor : t.floor = s.floor
  seats : t.seats = s.seats
  index : t.seq.index = s.seq.index
  current : t.seq.current = s.seq.current
  roster : t.seq.roster = s.seq.roster
  faultNote : t.link.faultNote = s.link.faultNote

theorem settleLink_of_noQueue {s : State} (h : (pump s).link.queue = []) : settleLink s = chooseFrame (pump s) := by
  simp [settleLink, h, takeFrames, chooseFrame_idem]

/-- From a state that differs in the store and the resume mark alone the command concludes. -/
theorem concluded_of_pump {s u : State} {b : Bool} (hk : KeptBut [.store] (s.withResume b) (pump u))
    (hq : s.link.queue = []) (hr : (pump u).store.reads = []) : Concluded s (settleLink u) := by
  obtain ⟨hqueue, -⟩ : Block.inputQueue.Same (s.withResume b) (pump u) := hk.same .inputQueue (by decide)
  rw [settleLink_of_noQueue (hqueue.trans hq)]
  have hc := chooseFrame_kept (pump u)
  have hall : KeptBut [.store, .transmitter, .marks] (s.withResume b) (chooseFrame (pump u)) :=
    (hk.mono (by decide)).trans (hc.mono (by decide))
  have hseq : (chooseFrame (pump u)).seq = (s.withResume b).seq := hall.same .sequencer (by decide)
  have hstore : (chooseFrame (pump u)).store = (pump u).store := hc.same .store (by decide)
  obtain ⟨-, -, -, hnote, -⟩ : Block.marks.Same (s.withResume b) (pump u) := hk.same .marks (by decide)
  exact ⟨hstore ▸ hr, hall.same .floor (by decide), hall.same .seats (by decide), (congrArg (·.index) hseq :),
    (congrArg (·.current) hseq :), (congrArg (·.roster) hseq :), (chooseFrame_faultNote _).trans hnote⟩

theorem Resting.concluded {s : State} (h : Resting s) (b : Bool) : Concluded s (settleLink (s.withResume b)) := by
  have hr := h.ofKept (withResume_kept b s) (by decide) (by decide)
  have hp := pump_of_atRest hr.atRest
  exact concluded_of_pump (by rw [hp]; exact .refl _ _) h.queue (by rw [hp]; exact hr.reads)

theorem setCurrent_kept (c : Option Current) (s : State) : KeptBut [.sequencer] s (setCurrent c s) := setSeq_kept _ s

theorem markFault_kept (n : FaultNote) (s : State) : KeptBut [.marks] s (markFault n s) := by
  intro b hb
  cases b <;> simp at hb <;> simp [Block.Same, markFault]

/-! ## A load that ends -/

/-- The read of the LOADING booking's record has been taken at a part that is otherwise at rest. -/
structure LoadEnds (e : IndexEntry) (m : Current) (now : Nat) (s : State) : Prop where
  resting : Resting s
  index : s.seq.index = [e]
  change : s.seq.change = none
  current : s.seq.current = some m
  number : m.number = e.number
  phase : m.phase = .loading
  state : e.state = .pending
  now : s.now = some now

theorem indexWith_single (e : IndexEntry) (b : BookingState) : indexWith e.number b [e] = [{ e with state := b }] := by
  simp [indexWith]

theorem now_of_kept {m : List Block} {s t : State} (h : KeptBut m s t) (hc : .clock ∉ m) : t.now = s.now := by
  have : t.clock = s.clock := h.same .clock hc
  rw [State.now, this, State.now]

section loadEnds
variable {e : IndexEntry} {m : Current} {now : Nat} {s : State} (h : LoadEnds e m now s)
include h

theorem LoadEnds.entry : s.entry m.number = some e := h.number ▸ entry_of_index h.index

theorem completeLoad_eq (r : LoadResult) : completeLoad e.number r s = evaluate (takeLoad m r s) := by
  have hheld : s.held e.number = false := by simp [State.held, h.change]
  simp [completeLoad, hheld, h.current, h.number, h.phase]

/-! ### A unit fails: DAMAGED -/

/-- The booking is DAMAGED, with its FAULT and MEETING marks, and no meeting is current. -/
def damageLoading (n : Nat) (s : State) : State :=
  markFault (.damagedBooking n) (settleEntry n .damaged (setCurrent none s))

omit h in
theorem damageLoading_kept (n : Nat) (s : State) : KeptBut [.sequencer, .marks] s (damageLoading n s) :=
  ((setCurrent_kept none s).mono (by decide)).trans (((settleEntry_kept n .damaged _).mono (by decide)).trans
    ((markFault_kept _ _).mono (by decide)))

theorem takeLoad_failed : takeLoad m .failed s = Machine.change (damageLoading e.number) s := by
  unfold takeLoad
  simp only [h.entry]
  rw [h.number]
  rfl

omit h in
/-- Where seats, floor, roles and roster are the same, so is every role. -/
theorem roleConsequences_of_kept {s u : State} {l : List Block} (hk : KeptBut l s u) (hs : .seats ∉ l) (hf : .floor ∉ l)
    (hr : .roles ∉ l) (hroster : u.seq.roster = s.seq.roster) : roleConsequences s u = u := by
  have hseats : u.seats = s.seats := hk.same .seats hs
  have hfloor : u.floor = s.floor := hk.same .floor hf
  have hroles : u.roles = s.roles := hk.same .roles hr
  have hseat : ∀ i, u.seat i = s.seat i := fun i => congrArg (fun v : Vector SeatRec 64 => v[i]) hseats
  have hentry : u.rosterEntry = s.rosterEntry := by funext a; simp [State.rosterEntry, hroster]
  refine roleConsequences_same (fun i => ?_) fun i => ?_
  · simp [State.roleKey, State.roleDef, State.effRole, State.uncardedRole, State.assignedAttendee, hseat, hfloor, hroles,
      hroster, hentry]
  · simp [State.boundAttendee, hseat]

theorem load_damaged : ∃ v, Concluded v (settleLink (completeLoad e.number .failed s))
    ∧ v.seq.current = none ∧ v.seq.index = [{ e with state := .damaged }]
    ∧ v.link.faultNote = some (.damagedBooking e.number)
    ∧ ((∃ g, s.link.onLine = some g) → (settleLink (completeLoad e.number .failed s)).link.marks.fault = true
        ∧ (settleLink (completeLoad e.number .failed s)).link.marks.meeting = true) := by
  set v := Machine.change (damageLoading e.number) s with hv
  have hk := damageLoading_kept e.number s
  have hkept : KeptBut [.floor, .log, .seats, .screens, .sequencer, .marks] s v :=
    (hk.mono (by decide)).trans ((change_kept _ s).mono (by decide))
  have hseq : v.seq = (damageLoading e.number s).seq := seq_change _ s
  have hidx : v.seq.index = [{ e with state := .damaged }] := by
    rw [hseq, ← indexWith_single e .damaged, ← h.index]
    rfl
  have hstore : v.store = s.store := hkept.same .store (by decide)
  obtain ⟨b, hb⟩ := evaluate_settled ((now_of_kept hkept (by decide)).trans h.now)
    (by rw [hstore]; exact h.resting.engine) hidx (by rw [hseq]; rfl) BookingState.noConfusion BookingState.noConfusion
  have hrest : Resting v := h.resting.ofKept hkept (by decide) (by decide)
  rw [completeLoad_eq h, takeLoad_failed h, ← hv, hb]
  refine ⟨v, hrest.concluded b, by rw [hseq]; rfl, hidx, (outer_faultNote (outer_change _ s)).trans rfl, ?_⟩
  rintro ⟨g, hg⟩
  have hline : (v.withResume b).link.onLine = some g := by
    obtain ⟨-, -, ho, -⟩ : Block.transmitter.Same s v := hkept.same .transmitter (by decide)
    exact ho.trans hg
  have hrole : roleConsequences s (damageLoading e.number s) = damageLoading e.number s :=
    roleConsequences_of_kept hk (by decide) (by decide) (by decide) rfl
  have hres := hrest.ofKept (withResume_kept b v) (by decide) (by decide)
  rw [hres.settle, chooseFrame_of_busy hline]
  refine ⟨(finishChange_faultMark false s (damageLoading e.number s)).trans ?_,
    (finishChange_meetingMark false s (damageLoading e.number s)).trans ?_⟩
  · rw [hrole]; rfl
  · rw [hrole]; rfl

end loadEnds

end Sys2Proof.Machine
end

section
/-! ROSTER_LOAD_COMPLETE with the record read (R106, R108): IN_SESSION, LOBBY or MISSED by the clock. -/

open Sys2Proof Sys2Proof.Machine

namespace Sys2Proof.Machine

/-! ## The end has not come: IN_SESSION or LOBBY -/

theorem remarkItems_kept (s : State) : KeptBut [.screens] s (remarkItems s) := remarkItemsWhere_kept _ s

/-- The meeting of a booking under the booking's own policy. -/
def Current.under (c : Current) (p : Policy) : Current := { c with policy := p }

theorem rosterTotals_of_roster {s t : State} (h : t.seq.roster = s.seq.roster) : t.rosterTotals = s.rosterTotals := by
  simp [State.rosterTotals, h]

/-- A booking's meeting takes a phase and its entry the state of that phase (R108). -/
def enterPhase (p : Phase) (b : BookingState) (c : Current) (s : State) : State :=
  setEntryState c.number b (markMeeting (setCurrent (some { c with phase := p }) s))

section enterPhase
variable (p : Phase) (b : BookingState) (c : Current) (s : State)

theorem enterPhase_kept : KeptBut [.sequencer, .marks] s (enterPhase p b c s) :=
  ((setCurrent_kept _ s).mono (by decide)).trans
    (((markMeeting_kept _).mono (by decide)).trans ((setEntryState_kept _ _ _).mono (by decide)))

theorem enterPhase_current : (enterPhase p b c s).seq.current = some { c with phase := p } :=
  setEntryState_current c.number b (markMeeting (setCurrent (some { c with phase := p }) s))

theorem enterPhase_index : (enterPhase p b c s).seq.index = indexWith c.number b s.seq.index :=
  setEntryState_index c.number b (markMeeting (setCurrent (some { c with phase := p }) s))

theorem enterPhase_roster : (enterPhase p b c s).seq.roster = s.seq.roster :=
  setEntryState_roster c.number b (markMeeting (setCurrent (some { c with phase := p }) s))

theorem enterPhase_change : (enterPhase p b c s).seq.change = s.seq.change :=
  followSettled_keeps c.number b (markMeeting (setCurrent (some { c with phase := p }) s)) (·.seq.change) fun _ _ => rfl

/-- A meeting that is in session on a floor just opened. -/
theorem enterPhase_inSession : InSession c s (enterPhase .inSession .inSession c (openFloor c.policy s)) := by
  have hafter := enterPhase_kept .inSession .inSession c (openFloor c.policy s)
  have hseats : (enterPhase .inSession .inSession c (openFloor c.policy s)).seats = (openFloor c.policy s).seats :=
    hafter.same .seats (by decide)
  refine ⟨⟨c.warned, enterPhase_current _ _ c _⟩, ?_, hafter.same .floor (by decide), fun i => ?_,
    ((openFloor_kept c.policy s).mono (by decide)).trans (hafter.mono (by decide))⟩
  · rw [enterPhase_index, seq_openFloor]
  · exact (congrArg (fun v : Vector SeatRec 64 => v[i].refusal) hseats).trans (openFloor_refusal c.policy s i)

end enterPhase

/-- A LOBBY booking's meeting is entered with the roster loaded, the floor as it was. -/
def enterLobby (c : Current) (l : List Attendee) (s : State) : State := enterPhase .lobby .lobby c (loadRoster l s)

/-- An IN_SESSION booking's meeting is entered with the roster loaded and the floor opened. -/
def enterFloor (c : Current) (l : List Attendee) (s : State) : State :=
  enterPhase .inSession .inSession c (openFloor c.policy (loadRoster l s))

section enter
variable (c : Current) (l : List Attendee) (s : State)

theorem loadRoster_index : (loadRoster l s).seq.index = s.seq.index := outer_index (outer_loadRoster l s)

theorem loadRoster_change : (loadRoster l s).seq.change = s.seq.change := outer_seqChange (outer_loadRoster l s)

theorem enterLobby_kept : KeptBut [.seats, .sequencer, .marks] s (enterLobby c l s) :=
  ((loadRoster_kept l s).mono (by decide)).trans ((enterPhase_kept .lobby .lobby c _).mono (by decide))

theorem enterLobby_index : (enterLobby c l s).seq.index = indexWith c.number .lobby s.seq.index := by
  rw [enterLobby, enterPhase_index, loadRoster_index]

theorem enterLobby_rosterTotals : (enterLobby c l s).rosterTotals = some (l.map fun a => (a, 0)) := by
  rw [enterLobby, rosterTotals_of_roster (enterPhase_roster _ _ c _), loadRoster_rosterTotals]

theorem enterLobby_change : (enterLobby c l s).seq.change = s.seq.change := by
  rw [enterLobby, enterPhase_change, loadRoster_change]

theorem enterFloor_rosterTotals : (enterFloor c l s).rosterTotals = some (l.map fun a => (a, 0)) := by
  rw [enterFloor, rosterTotals_of_roster (enterPhase_roster _ _ c _),
    rosterTotals_of_roster (congrArg (·.roster) (seq_openFloor c.policy _)), loadRoster_rosterTotals]

theorem enterFloor_change : (enterFloor c l s).seq.change = s.seq.change := by
  rw [enterFloor, enterPhase_change, seq_openFloor, loadRoster_change]

theorem enterFloor_inSession : InSession c s (enterFloor c l s) := by
  have hload := loadRoster_kept l s
  have hfloor : (loadRoster l s).floor = s.floor := hload.same .floor (by decide)
  obtain ⟨hcur, hidx, hfl, href, hk⟩ := enterPhase_inSession c (loadRoster l s)
  rw [loadRoster_index] at hidx
  rw [hfloor] at hfl
  exact ⟨hcur, hidx, hfl, href, (hload.mono (by decide)).trans hk⟩

end enter

/-- A load that is taken with the booking's end not come: the change of its entry, and then the items and the lines. -/
def enterLoad (f : State → State) (s : State) : State := wakeLines (remarkItems (change f s))

theorem enterLoad_kept (f : State → State) (s : State) :
    KeptBut [.floor, .log, .seats, .screens, .lineA, .lineB, .marks] (f s) (enterLoad f s) :=
  ((change_kept f s).mono (by decide)).trans
    (((remarkItems_kept _).mono (by decide)).trans ((wakeLines_kept _).mono (by decide)))

theorem enterLoad_after (f : State → State) (s : State) :
    KeptBut [.seats, .screens, .lineA, .lineB] (change f s) (enterLoad f s) :=
  ((remarkItems_kept _).mono (by decide)).trans ((wakeLines_kept _).mono (by decide))

section loadEnds
variable {e : IndexEntry} {m : Current} {now : Nat} {s : State} (h : LoadEnds e m now s) (d : BookingData)
include h

theorem takeLoad_inSession (he : now < e.endMin) (hs : e.startMin ≤ now) :
    takeLoad m (.read d) s = enterLoad (enterFloor (m.under d.policy) d.attendees) s := by
  have hl : ¬ e.endMin ≤ now := Nat.not_le.mpr he
  have henter : enterLoaded m e d now = enterFloor (m.under d.policy) d.attendees := by
    funext u
    simp only [enterLoaded, hl, if_false, hs, if_true, enterFloor, enterPhase, Current.under]
  unfold takeLoad
  simp only [h.entry, h.now, Option.getD_some, hl, if_false, henter]
  rfl

theorem takeLoad_lobby (he : now < e.endMin) (hs : now < e.startMin) :
    takeLoad m (.read d) s = enterLoad (enterLobby (m.under d.policy) d.attendees) s := by
  have hl : ¬ e.endMin ≤ now := Nat.not_le.mpr he
  have henter : enterLoaded m e d now = enterLobby (m.under d.policy) d.attendees := by
    funext u
    simp only [enterLoaded, hl, if_false, Nat.not_le.mpr hs, enterLobby, enterPhase, Current.under]
  unfold takeLoad
  simp only [h.entry, h.now, Option.getD_some, hl, if_false, henter]
  rfl

/-- The evaluation after the entry checks the end warning, and the command concludes. -/
theorem load_entered {f : State → State} {b : BookingState} {p : Phase} {w : Bool}
    (hk : KeptBut [.floor, .seats, .screens, .sequencer, .marks] s (f s))
    (hcur : (f s).seq.current = some { m.under d.policy with phase := p, warned := w })
    (hidx : (f s).seq.index = indexWith e.number b s.seq.index)
    (hch : (f s).seq.change = none)
    (he : now < e.endMin) (hp : p = .inSession ∨ p = .lobby ∧ now < e.startMin) :
    Concluded (change warnCore (enterLoad f s)) (settleLink (evaluate (enterLoad f s)))
      ∧ (∃ w', (change warnCore (enterLoad f s)).seq.current
          = some { m.under d.policy with phase := p, warned := w' })
      ∧ (change warnCore (enterLoad f s)).seq.index = [{ e with state := b }]
      ∧ (change warnCore (enterLoad f s)).seq.roster = (f s).seq.roster := by
  have hafter := enterLoad_kept f s
  have hseq : (enterLoad f s).seq = (f s).seq := hafter.same .sequencer (by decide)
  have hall : KeptBut [.floor, .log, .seats, .screens, .sequencer, .lineA, .lineB, .marks] s (enterLoad f s) :=
    (hk.mono (by decide)).trans (hafter.mono (by decide))
  have hcur' : (enterLoad f s).seq.current = some { m.under d.policy with phase := p, warned := w } := hseq ▸ hcur
  have hidx' : (enterLoad f s).seq.index = [{ e with state := b }] := by
    rw [hseq, hidx, h.index, indexWith_single]
  have hrest : Resting (enterLoad f s) := h.resting.ofKept hall (by decide) (by decide)
  obtain ⟨r, hr⟩ := evaluate_running ((now_of_kept hall (by decide)).trans h.now) hrest.engine hidx' hcur' h.number
    (hseq ▸ hch) he hp
  have hwarn := warnCore_kept hcur'
  have hrest' : Resting (change warnCore (enterLoad f s)) :=
    (hrest.ofKept hwarn (by decide) (by decide)).ofKept (change_kept warnCore (enterLoad f s)) (by decide) (by decide)
  have hroster : (warnCore (enterLoad f s)).seq.roster = (enterLoad f s).seq.roster := by
    rcases warnCore_eq hcur' with hw | hw <;> rw [hw]
    rfl
  refine ⟨by rw [hr]; exact hrest'.concluded r, ?_, ?_, ?_⟩
  · obtain ⟨w', hw'⟩ := warnCore_current hcur'
    rw [seq_change]
    exact ⟨w', hw'⟩
  · rw [seq_change, warnCore_index hcur', hidx']
  · rw [seq_change, hroster, hseq]

/-- The start has come: the booking is IN_SESSION and the floor OPEN under its policy. -/
theorem load_inSession (he : now < e.endMin) (hs : e.startMin ≤ now) :
    ∃ v, Concluded v (settleLink (completeLoad e.number (.read d) s))
      ∧ v.floor = s.floor.opened d.policy
      ∧ (∃ w, v.seq.current = some { m.under d.policy with phase := .inSession, warned := w })
      ∧ v.seq.index = [{ e with state := .inSession }] ∧ v.rosterTotals = some (d.attendees.map fun a => (a, 0)) := by
  set f := enterFloor (m.under d.policy) d.attendees with hf
  have hin : InSession (m.under d.policy) s (f s) := enterFloor_inSession _ _ s
  obtain ⟨w, hcur⟩ := hin.current
  have hchange : (f s).seq.change = none := (enterFloor_change _ _ s).trans h.change
  obtain ⟨hcon, hcur', hidx', hroster⟩ := load_entered h d hin.kept hcur (h.number ▸ hin.index) hchange he (.inl rfl)
  rw [completeLoad_eq h, takeLoad_inSession h d he hs]
  refine ⟨_, hcon, ?_, hcur', hidx',
    (rosterTotals_of_roster hroster).trans (enterFloor_rosterTotals (m.under d.policy) d.attendees s)⟩
  have hafter : (enterLoad f s).floor = (change f s).floor := (enterLoad_after f s).same .floor (by decide)
  have hopen : (enterLoad f s).floor = s.floor.opened d.policy := hafter.trans hin.change.1.floor
  have hseq : (enterLoad f s).seq = (f s).seq := (enterLoad_kept f s).same .sequencer (by decide)
  have hloaded := (congrArg (·.current) hseq).trans hcur
  have hwarn : (warnCore (enterLoad f s)).floor = (enterLoad f s).floor :=
    (warnCore_kept hloaded).same .floor (by decide)
  have hempty := hwarn.trans hopen
  exact (change_handed_of_empty (by rw [hempty]; rfl) (by rw [hempty]; rfl)).floor.trans hempty

/-- The start has not come: the booking is LOBBY, a closed floor as it was. -/
theorem load_lobby (he : now < e.endMin) (hs : now < e.startMin) :
    ∃ v, Concluded v (settleLink (completeLoad e.number (.read d) s))
      ∧ (s.floor.isOpen = false → v.floor = s.floor)
      ∧ (∃ w, v.seq.current = some { m.under d.policy with phase := .lobby, warned := w })
      ∧ v.seq.index = [{ e with state := .lobby }] ∧ v.rosterTotals = some (d.attendees.map fun a => (a, 0)) := by
  set f := enterLobby (m.under d.policy) d.attendees with hf
  have hk : KeptBut [.seats, .sequencer, .marks] s (f s) := enterLobby_kept _ _ s
  have hcur : (f s).seq.current = some { m.under d.policy with phase := .lobby } := enterPhase_current _ _ _ _
  have hchange : (f s).seq.change = none := (enterLobby_change _ _ s).trans h.change
  obtain ⟨hcon, hcur', hidx', hroster⟩ := load_entered h d (w := m.warned) (hk.mono (by decide)) hcur
    (h.number ▸ enterLobby_index (m.under d.policy) d.attendees s) hchange he (.inr ⟨rfl, hs⟩)
  rw [completeLoad_eq h, takeLoad_lobby h d he hs]
  refine ⟨_, hcon, fun hclosed => ?_, hcur', hidx',
    (rosterTotals_of_roster hroster).trans (enterLobby_rosterTotals (m.under d.policy) d.attendees s)⟩
  have hseq : (enterLoad f s).seq = (f s).seq := (enterLoad_kept f s).same .sequencer (by decide)
  have hsame : warnCore (enterLoad f s) = enterLoad f s := by simp [warnCore, hseq, hcur]
  have hfloor : (f s).floor = s.floor := hk.same .floor (by decide)
  have hh := change_handed f s
  rw [roleConsequences_of_closed (by rw [hfloor]; exact hclosed)] at hh
  have hafter : (enterLoad f s).floor = (change f s).floor := (enterLoad_after f s).same .floor (by decide)
  rw [change_of_same hsame]
  exact hafter.trans (hh.floor.trans hfloor)

end loadEnds

end Sys2Proof.Machine
end

section
/-! The store engine asks no read (R120): where no booking change is in flight and no frame waits, what it goes on to do
leaves the reads as they were. -/

open Sys2Proof Sys2Proof.Machine

namespace Sys2Proof.Machine

/-- No read waits, no frame waits to be taken, and no booking change is in flight. -/
structure Unasked (s : State) : Prop where
  reads : s.store.reads = []
  queue : s.link.queue = []
  change : s.seq.change = none

namespace Unasked

variable {s t : State}

theorem ofOuter (h : Unasked s) (ho : t.outer = s.outer) : Unasked t :=
  ⟨(congrArg (·.reads) (outer_store ho)).trans h.reads, (outer_queue ho).trans h.queue, (outer_seqChange ho).trans h.change⟩

theorem modStore (h : Unasked s) {f : Store → Store} (hf : (f s.store).reads = s.store.reads) :
    Unasked (modStore f s) := ⟨hf.trans h.reads, h.queue, h.change⟩

theorem foldl {α : Type} {f : State → α → State} (hf : ∀ s a, Unasked s → Unasked (f s a)) (l : List α) :
    ∀ {s : State}, Unasked s → Unasked (l.foldl f s) := by
  induction l with
  | nil => exact fun h => h
  | cons a l ih => exact fun h => ih (hf _ a h)

variable (h : Unasked s)
include h

/-! ### The ends of programs and passes -/

theorem setOutcome (o : StoreOutcome) : Unasked (markStore (setOutcome o s)) := ⟨h.reads, h.queue, h.change⟩

theorem setPrograms (l : List ProgramJob) : Unasked (setPrograms l s) := h.modStore rfl

theorem reply (kind tag : Byte) (r : Result) (body : List Byte) : Unasked (reply kind tag r body s) :=
  ⟨h.reads, h.queue, h.change⟩

/-- With no booking change in flight a failed program changes nothing of the sequencer. -/
theorem programFailed_eq (j : ProgramJob) (r : Result) : programFailed j r s = s := by
  unfold programFailed
  split
  · simp [changeFailed, h.change]
  · rfl

theorem endProgram (r : Result) (j : ProgramJob) : Unasked (endProgram r j s) := by
  have hs := h.setOutcome (outcomeOf r)
  rw [Machine.endProgram, hs.programFailed_eq]
  exact hs

theorem endPass (r : Result) (body : List Byte) : Unasked (endPass r body s) := by
  have hs : Unasked (markStore (Machine.setOutcome (outcomeOf r) (Machine.modStore (fun t => { t with pass := none }) s))) :=
    (h.modStore rfl).setOutcome _
  unfold Machine.endPass
  split
  · exact h
  · dsimp only
    split
    · exact hs.reply _ _ _ _
    · exact hs

theorem setLatch (cause : HaltCause) : Unasked (setLatch cause s) := by
  have hs : Unasked (markStore (markFault (.storeHalted cause)
      (Machine.modStore (fun t => { t with latch := true, programs := [] }) s))) := ⟨h.reads, h.queue, h.change⟩
  exact (foldl (fun _ j hu => hu.endProgram .storeHalted j) s.store.programs hs).endPass _ _

theorem failHead : Unasked (failHead s) := by
  unfold Machine.failHead
  split
  · split
    · exact (h.setPrograms _).endProgram _ _
    · exact h
  · exact h

/-! ### Finding room -/

theorem closeHead : Unasked (closeHead s) := by
  obtain ⟨l, hl⟩ := closeHead_store s
  rw [hl]
  exact h.modStore rfl

theorem startProgram (j : ProgramJob) (p : Place) (q : Option Nat) : Unasked (startProgram j p q s) :=
  ⟨h.reads, h.queue, h.change⟩

theorem openFor (j : ProgramJob) : Unasked (openFor j s).2 := by
  unfold Machine.openFor
  dsimp only
  generalize (if j.purpose = .copy then 1 else 2) = needed
  split
  · exact h
  · split
    · exact h
    · split
      · exact h
      · exact h.startProgram _ _ _

theorem beginProgram (j : ProgramJob) : Unasked (beginProgram j s).2 := by
  unfold Machine.beginProgram
  repeat' split
  · exact h
  · exact h.startProgram _ _ _
  · exact h.closeHead.openFor j
  · exact h.openFor j

theorem startPass (tag : Option Byte) : Unasked (startPass tag s) := by
  unfold Machine.startPass
  dsimp only
  split
  · exact h
  · split
    · exact h.modStore rfl
    · split
      · exact (h.setOutcome .ok).reply _ _ _ _
      · exact h.setOutcome .ok

theorem nextPass : Unasked (nextPass s) := by
  unfold Machine.nextPass passIfShort
  repeat' split
  · exact h
  · exact h.startPass none
  · exact h

theorem waitForRoom : Unasked (waitForRoom s) := by
  have hw : Unasked (headWaits s) := by
    unfold headWaits
    split
    · exact h.setPrograms _
    · exact h
  have hs := hw.startPass none
  unfold Machine.waitForRoom
  dsimp only
  split
  · exact hs.failHead
  · exact hs

theorem copyNoRoom : Unasked (copyNoRoom s) := (h.endPass _ _).failHead.nextPass

/-! ### The next work -/

theorem damageIfPending (n : Nat) : Unasked (damageIfPending n s) := by
  unfold Machine.damageIfPending
  split
  · split
    · exact ⟨h.reads, h.queue, h.change⟩
    · exact h
  · exact h

theorem readForCopy (r : MediumRecord) : Unasked (readForCopy r s) := by
  have hs : Unasked (countCorrected (correctedUnits r.health) s) := h.modStore rfl
  unfold Machine.readForCopy
  dsimp only
  split
  · exact hs
  · exact (hs.damageIfPending r.number).ofOuter (outer_change _ _)

theorem passStep (p : Pass) : Unasked (passStep p s).2 := by
  unfold Machine.passStep
  split
  · exact ⟨h.reads, h.queue, h.change⟩
  · next r _ _ =>
    have hr := h.readForCopy r
    have hb := hr.beginProgram ((Machine.readForCopy r s).copyJob r)
    dsimp only
    split
    · next heq => rw [heq] at hb; exact hb
    · next heq => rw [heq] at hb; exact hb.setLatch _
    · next heq => rw [heq] at hb; exact hb.copyNoRoom

theorem chooseWork : Unasked (chooseWork s).2 := by
  unfold Machine.chooseWork
  split
  · next j rest _ =>
    have hb := h.beginProgram j
    split
    · next heq => rw [heq] at hb; exact hb.setPrograms rest
    · next heq => rw [heq] at hb; exact hb.setLatch _
    · next heq =>
      rw [heq] at hb
      dsimp only
      split
      · exact hb.waitForRoom
      · exact hb.waitForRoom.passStep _
  · split
    · exact h
    · exact h.passStep _

omit h in
theorem pumpLoop (n : Nat) : ∀ {s : State}, Unasked s → Unasked (pumpLoop n s) := by
  induction n with
  | zero => exact fun h => h
  | succ n ih =>
    intro s h
    have hc := h.chooseWork
    rw [Machine.pumpLoop]
    split
    · exact h
    · split
      · next heq => rw [heq] at hc; exact ih hc
      · next heq => rw [heq] at hc; exact hc

theorem pump : Unasked (pump s) := by
  have hresume : Unasked (resumeErase s) := by
    unfold resumeErase
    split
    · exact h.modStore rfl
    · exact h
  have hrefuse : Unasked (refuseHalted (resumeErase s)) := by
    unfold refuseHalted
    split
    · exact foldl (fun _ j hu => hu.endProgram .storeHalted j) _ (hresume.setPrograms [])
    · exact hresume
  exact pumpLoop _ hrefuse

/-- The command that ends here leaves no read. -/
theorem settleLink_reads : (settleLink s).store.reads = [] := by
  have hp := h.pump
  rw [settleLink_of_noQueue hp.queue]
  have hstore : (chooseFrame (Machine.pump s)).store = (Machine.pump s).store :=
    (chooseFrame_kept _).same .store (by decide)
  rw [hstore]
  exact hp.reads

end Unasked

end Sys2Proof.Machine
end

section
/-! A roster load that ends when its booking's end has come (R106, R145), and ROSTER_LOAD_COMPLETE's obligation. -/

open Sys2Proof Sys2Proof.Machine

namespace Sys2Proof.Machine

/-! ## The end has come: MISSED -/

theorem markSeatNotices_kept (s0 s1 : State) : KeptBut [.marks] s1 (markSeatNotices s0 s1) := by
  have hmark : ∀ u s, KeptBut [.marks] s (markSeat u s) := fun u s b hb => by
    cases b <;> simp at hb <;> simp [Block.Same, markSeat, State.modMarks]
  unfold markSeatNotices
  refine (KeptBut.foldl (fun s i => ?_) _ _).trans (KeptBut.foldl (fun s j => ?_) _ _)
  · split
    · exact .refl _ s
    · exact hmark _ s
  · split
    · exact .refl _ s
    · exact hmark _ s

/-- The current booking is MISSED, its roster dropped, and no meeting is current (R106). -/
def missMeeting (n : Nat) (s : State) : State := settleEntry n .missed (setCurrent none (dropRoster s))

theorem missCore_of_current {s : State} {c : Current} (h : s.seq.current = some c) :
    missCore c.number s = missMeeting c.number s := by
  simp only [missCore, h, if_true, missMeeting]

theorem missMeeting_kept (n : Nat) (s : State) : KeptBut [.seats, .sequencer, .marks] s (missMeeting n s) :=
  ((dropRoster_kept s).mono (by decide)).trans
    (((setCurrent_kept none _).mono (by decide)).trans ((settleEntry_kept n .missed _).mono (by decide)))

theorem missMeeting_index (n : Nat) (s : State) : (missMeeting n s).seq.index = indexWith n .missed s.seq.index := rfl

theorem missMeeting_change (n : Nat) (s : State) : (missMeeting n s).seq.change = s.seq.change := rfl

/-- A loaded booking whose end has come: its roster is dropped at once. -/
def missLoaded (n : Nat) (l : List Attendee) (s : State) : State :=
  missMeeting n (markSeatNotices s (loadRoster l s))

section missLoaded
variable (n : Nat) (l : List Attendee) (s : State)

theorem missLoaded_kept : KeptBut [.seats, .sequencer, .marks] s (missLoaded n l s) :=
  ((loadRoster_kept l s).mono (by decide)).trans
    (((markSeatNotices_kept s _).mono (by decide)).trans (missMeeting_kept n _))

theorem missLoaded_current : (missLoaded n l s).seq.current = none := rfl

theorem missLoaded_roster : (missLoaded n l s).seq.roster = none := rfl

theorem missLoaded_index : (missLoaded n l s).seq.index = indexWith n .missed s.seq.index := by
  rw [missLoaded, missMeeting_index, seq_markSeatNotices, loadRoster_index]

theorem missLoaded_change : (missLoaded n l s).seq.change = s.seq.change := by
  rw [missLoaded, missMeeting_change, seq_markSeatNotices, loadRoster_change]

end missLoaded

theorem markSeatNotices_current {c : Option Current} {l : List Attendee} {s : State} (h : s.seq.current = c) :
    (markSeatNotices s (loadRoster l s)).seq.current = c := by
  rw [seq_markSeatNotices, outer_current (outer_loadRoster l s), h]

/-! ### Labels re-evaluated (R145) -/

/-- A label is given by the cards, the host's label and the roster. -/
theorem labelOf_congr {s t : State} (hr : t.seq.roster = s.seq.roster)
    (hs : ∀ i, (t.seat i).card = (s.seat i).card ∧ (t.seat i).hostLabel = (s.seat i).hostLabel) (i : SeatId) :
    t.labelOf i = s.labelOf i := by
  have hbound : t.boundAttendee i = s.boundAttendee i := by simp [State.boundAttendee, (hs i).1]
  have hentry : t.rosterEntry = s.rosterEntry := by funext a; simp [State.rosterEntry, hr]
  have hassigned : t.assignedAttendee i = s.assignedAttendee i := by simp [State.assignedAttendee, hr]
  simp only [State.labelOf, hbound, hentry, hassigned, (hs i).2]

theorem remarkLabels_seat (s : State) (i : SeatId) : (remarkLabels s).seat i = labelRemarked s i (s.seat i) := by
  simp [remarkLabels, State.seat]

theorem remarkLabels_roster (s : State) : (remarkLabels s).seq.roster = s.seq.roster :=
  congrArg (·.roster) (State.setSeats_seq _ _)

/-- A re-evaluation writes the LABEL mark alone. -/
theorem labelRemarked_same (s : State) (i : SeatId) (r : SeatRec) :
    (labelRemarked s i r).card = r.card ∧ (labelRemarked s i r).hostLabel = r.hostLabel
      ∧ (labelRemarked s i r).presence = r.presence ∧ (labelRemarked s i r).labelSent = r.labelSent := by
  unfold labelRemarked
  split <;> exact ⟨rfl, rfl, rfl, rfl⟩

/-- Every label is re-evaluated: a seat in service whose label is not the one last sent has LABEL marked. -/
def State.LabelsMarked (s : State) : Prop :=
  ∀ i : SeatId, inService (s.seat i).presence = true → (s.seat i).labelSent ≠ some (s.labelOf i).1 →
    (s.seat i).marks.label = true

theorem remarkLabels_marked (s : State) : (remarkLabels s).LabelsMarked := by
  intro i hp hl
  obtain ⟨-, -, hpres, hsent⟩ := labelRemarked_same s i (s.seat i)
  have hlabel : (remarkLabels s).labelOf i = s.labelOf i :=
    labelOf_congr (remarkLabels_roster s) (fun j => by
      obtain ⟨hcard, hhost, -, -⟩ := labelRemarked_same s j (s.seat j)
      rw [remarkLabels_seat]
      exact ⟨hcard, hhost⟩) i
  rw [remarkLabels_seat, hpres] at hp
  rw [remarkLabels_seat, hlabel, hsent] at hl
  rw [remarkLabels_seat, labelRemarked, if_pos ⟨hp, hl⟩]

theorem LabelsMarked.of_same {s t : State} (h : s.LabelsMarked) (hs : t.seats = s.seats)
    (hr : t.seq.roster = s.seq.roster) : t.LabelsMarked := by
  have hseat : ∀ i, t.seat i = s.seat i := fun i => congrArg (fun v : Vector SeatRec 64 => v[i]) hs
  intro i hp hl
  rw [labelOf_congr hr (fun j => by rw [hseat]; exact ⟨rfl, rfl⟩) i, hseat] at hl
  rw [hseat] at hp ⊢
  exact h i hp hl

/-! ### The STATE record of the missed booking (R106) -/

section handOn
variable (j : ProgramJob) (s : State)

theorem handOn_kept : KeptBut [.store] s (handOn j s) := setStore_kept _ s
theorem handOn_engine : (handOn j s).store.engine = s.store.engine := rfl
theorem handOn_index : (handOn j s).seq.index = s.seq.index := rfl
theorem handOn_current : (handOn j s).seq.current = s.seq.current := rfl

theorem handOn_withResume_kept (b : Bool) : KeptBut [.store] (s.withResume b) ((handOn j s).withResume b) :=
  handOn_kept j (s.withResume b)

theorem handOn_withResume_store (b : Bool) : ((handOn j s).withResume b).store
    = { (s.withResume b).store with programs := (s.withResume b).store.programs ++ [j] } := rfl

end handOn

/-- Handing on the STATE record while the latch is set drops it. -/
theorem handOnState_eq {n : Nat} {b : BookingState} {s : State} {x : IndexEntry} (hx : s.entry n = some x) :
    handOnState n b s = if s.store.latch = true then s else handOn (stateJob .settle n x.version b) s := by
  unfold handOnState
  split
  · rfl
  · simp only [hx]

theorem CanProgram.ofStore {n : Nat} {s t : State} (h : s.CanProgram n) (he : t.store.engine = s.store.engine)
    (hr : t.store.reads = s.store.reads) (hw : t.store.nextWrite = s.store.nextWrite)
    (hf : t.store.nextFree = s.store.nextFree) (ht : t.store.table = s.store.table) : t.CanProgram n := by
  unfold State.CanProgram at h ⊢
  rwa [he, hr, hw, hf, writeHead_of_table ht, sectorsIn_of_table ht, nextSequence_of_table ht]

/-- The one booking of the index is MISSED, with no meeting current and the store engine at rest. -/
structure Missed (x : IndexEntry) (now : Nat) (s : State) : Prop where
  resting : Resting s
  now : s.now = some now
  index : s.seq.index = [x]
  state : x.state = .missed
  current : s.seq.current = none
  change : s.seq.change = none

section missed
variable {x : IndexEntry} {now : Nat} {s : State} (h : Missed x now s)
include h

/-- While the latch is set the STATE record is dropped, and the evaluation moves nothing. -/
theorem Missed.evaluate_dropped (hlatch : s.store.latch = true) :
    ∃ b, evaluate (handOnState x.number .missed s) = s.withResume b := by
  rw [handOnState_eq (entry_of_index h.index), if_pos hlatch]
  exact evaluate_settled h.now h.resting.engine h.index h.current (by simp [h.state]) (by simp [h.state])

/-- While the latch is clear the STATE record is handed on, and the evaluation moves nothing. -/
theorem Missed.evaluate_handedOn (hlatch : s.store.latch = false) :
    ∃ b, evaluate (handOnState x.number .missed s)
      = (handOn (stateJob .settle x.number x.version .missed) s).withResume b := by
  rw [handOnState_eq (entry_of_index h.index), if_neg (by simp [hlatch])]
  exact evaluate_settled ((now_of_kept (handOn_kept _ s) (by decide)).trans h.now)
    ((handOn_engine _ s).trans h.resting.engine) ((handOn_index _ s).trans h.index)
    ((handOn_current _ s).trans h.current) (by simp [h.state]) (by simp [h.state])

theorem Missed.reads : (settleLink (evaluate (handOnState x.number .missed s))).store.reads = [] := by
  cases hlatch : s.store.latch with
  | true =>
    obtain ⟨b, hb⟩ := h.evaluate_dropped hlatch
    rw [hb]
    exact (h.resting.concluded b).reads
  | false =>
    obtain ⟨b, hb⟩ := h.evaluate_handedOn hlatch
    rw [hb]
    have hu : Unasked ((handOn (stateJob .settle x.number x.version .missed) s).withResume b) :=
      ⟨h.resting.reads, h.resting.queue, h.change⟩
    exact hu.settleLink_reads

/-- Where the STATE record is dropped, or has room, the command concludes. -/
theorem Missed.concluded (hcan : s.store.latch = true ∨ s.CanProgram 1) :
    Concluded s (settleLink (evaluate (handOnState x.number .missed s))) := by
  cases hlatch : s.store.latch with
  | true =>
    obtain ⟨b, hb⟩ := h.evaluate_dropped hlatch
    rw [hb]
    exact h.resting.concluded b
  | false =>
    obtain ⟨b, hb⟩ := h.evaluate_handedOn hlatch
    rw [hb]
    set j := stateJob .settle x.number x.version .missed
    have hbase : Resting (s.withResume b) := h.resting.ofKept (withResume_kept b s) (by decide) (by decide)
    have hroom : (s.withResume b).CanProgram 1 :=
      CanProgram.ofStore (hcan.resolve_left (by simp [hlatch])) rfl rfl rfl rfl rfl
    obtain ⟨-, hk, hr⟩ := pump_of_handOn (handOn_withResume_store j s b) hbase.atRest hlatch hroom rfl
      Purpose.noConfusion
    exact concluded_of_pump ((handOn_withResume_kept j s b).trans hk) h.resting.queue (hr.trans hbase.reads)

end missed

section loadEnds
variable {e : IndexEntry} {m : Current} {now : Nat} {s : State} (h : LoadEnds e m now s) (d : BookingData)
include h

theorem takeLoad_missed (he : e.endMin ≤ now) : takeLoad m (.read d) s
    = handOnState e.number .missed (remarkLabels (Machine.change (missLoaded e.number d.attendees) s)) := by
  have henter : enterLoaded m e d now s = missLoaded e.number d.attendees s := by
    simp only [enterLoaded, he, if_true]
    rw [missCore_of_current (markSeatNotices_current h.current), h.number, missLoaded]
  have hchange : Machine.change (enterLoaded m e d now) s = Machine.change (missLoaded e.number d.attendees) s :=
    congrArg (finishChange false s) henter
  unfold takeLoad
  simp only [h.entry, h.now, Option.getD_some, he, if_true, hchange]
  rw [h.number]

/-- The end has come: the booking is MISSED with its roster dropped, and every label re-evaluated. -/
theorem load_missed (he : e.endMin ≤ now) :
    ∃ v, completeLoad e.number (.read d) s = evaluate (handOnState e.number .missed v)
      ∧ Missed { e with state := .missed } now v ∧ v.store = s.store ∧ v.seq.roster = none ∧ v.LabelsMarked := by
  set f := missLoaded e.number d.attendees with hf
  set v := remarkLabels (Machine.change f s) with hv
  have hkept : KeptBut [.floor, .log, .seats, .screens, .sequencer, .marks] s v :=
    ((missLoaded_kept _ _ s).mono (by decide)).trans
      (((change_kept f s).mono (by decide)).trans ((remarkLabels_kept _).mono (by decide)))
  have hseq : v.seq = (f s).seq := Eq.trans ((remarkLabels_kept _).same .sequencer (by decide)) (seq_change f s)
  have hidx : v.seq.index = [{ e with state := .missed }] := by
    rw [hseq, missLoaded_index, h.index, indexWith_single]
  have hmissed : Missed { e with state := .missed } now v :=
    ⟨h.resting.ofKept hkept (by decide) (by decide), (now_of_kept hkept (by decide)).trans h.now, hidx, rfl,
      hseq ▸ missLoaded_current _ _ s, by rw [hseq, missLoaded_change, h.change]⟩
  rw [completeLoad_eq h, takeLoad_missed h d he]
  exact ⟨v, rfl, hmissed, hkept.same .store (by decide), hseq ▸ missLoaded_roster _ _ s, remarkLabels_marked _⟩

/-- However the load ends, it leaves no read. -/
theorem load_reads (r : MediumRecord) :
    (settleLink (completeLoad e.number (loadResultOf r d) s)).store.reads = [] := by
  unfold loadResultOf
  split
  · by_cases he : e.endMin ≤ now
    · obtain ⟨v, hload, hmissed, -⟩ := load_missed h d he
      rw [hload]
      exact hmissed.reads
    · by_cases hs : e.startMin ≤ now
      · obtain ⟨v, hcon, -⟩ := load_inSession h d (Nat.lt_of_not_le he) hs
        exact hcon.reads
      · obtain ⟨v, hcon, -⟩ := load_lobby h d (Nat.lt_of_not_le he) (Nat.lt_of_not_le hs)
        exact hcon.reads
  · obtain ⟨v, hcon, -⟩ := load_damaged h
    exact hcon.reads

end loadEnds

/-! ## The obligation -/

theorem exec_rosterLoadComplete {s : State} {n : Nat} (hp : s.powered = true) (he : s.store.engine = .idle)
    (hr : s.store.reads = [.roster n]) :
    exec (.rosterLoadComplete []) s = .next (settleLink (completeRosterRead n (takeRead [] s))) := by
  have hread : s.readInProgress = some (.roster n) := by simp [State.readInProgress, he, hr]
  have hexec : exec (.rosterLoadComplete []) s = execRosterLoadComplete [] s := rfl
  rw [hexec, execRosterLoadComplete, event, if_pos hp]
  simp only [hread]

/-- Settles O38: the read taken, the load completes for the current LOADING booking by the clock, or fails with a unit
of the record. -/
theorem rosterLoadEntersMeeting : Obligations.RosterLoadEntersMeeting := by
  unfold Obligations.RosterLoadEntersMeeting
  intro s e m r d now hp hqueue heng hreads hprog hpass hidx hch hcur hnum hphase hstate hnow hrec hbody
  have hk := rosterRead_kept r s
  have hu : LoadEnds e m now (s.rosterRead r) :=
    ⟨⟨hqueue, heng, by simp [State.rosterRead, countCorrected, takeRead, wearStore, hreads], hprog, hpass⟩, hidx, hch,
      hcur, hnum, hphase, hstate, hnow⟩
  have hexec := exec_rosterLoadComplete hp heng hreads
  rw [completeRosterRead_eq (entry_of_index hidx) hrec hbody] at hexec
  have hread : (∀ x ∈ r.health, unitReads x = true) → loadResultOf r d = .read d := fun h =>
    if_pos (List.all_eq_true.mpr h)
  have hfloor : (s.rosterRead r).floor = s.floor := hk.same .floor (by decide)
  set t := settleLink (completeLoad e.number (loadResultOf r d) (s.rosterRead r)) with ht
  refine ⟨t, hexec, ?_, fun hall he => ?_, fun hall he hs => ?_, fun hall he hs hclosed => ?_, fun hall he hcan => ?_,
    fun hbad => ?_⟩
  · exact load_reads hu d r
  · rw [ht, hread hall]
    by_cases hs : e.startMin ≤ now
    · obtain ⟨v, hcon, -, -, -, htot⟩ := load_inSession hu d he hs
      exact (rosterTotals_of_roster hcon.roster).trans htot
    · obtain ⟨v, hcon, -, -, -, htot⟩ := load_lobby hu d he (Nat.lt_of_not_le hs)
      exact (rosterTotals_of_roster hcon.roster).trans htot
  · rw [ht, hread hall]
    obtain ⟨v, hcon, hfl, ⟨w, hw⟩, hindex, -⟩ := load_inSession hu d he hs
    have hopened := hcon.floor.trans hfl
    exact ⟨(congrArg (·.isOpen) hopened :), (congrArg (·.policy) hopened :), (congrArg (·.speakers) hopened :),
      (congrArg (·.requests) hopened :), hcon.index.trans hindex, _, hcon.current.trans hw, hnum, rfl, rfl⟩
  · rw [ht, hread hall]
    obtain ⟨v, hcon, hfl, ⟨w, hw⟩, hindex, -⟩ := load_lobby hu d he hs
    exact ⟨(hcon.floor.trans (hfl (hfloor ▸ hclosed))).trans hfloor, hcon.index.trans hindex, _, hcon.current.trans hw,
      hnum, rfl, rfl⟩
  · rw [ht, hread hall]
    obtain ⟨v, hload, hmissed, hstore, hroster, hmarked⟩ := load_missed hu d he
    have hcan' : v.store.latch = true ∨ v.CanProgram 1 := by
      rw [hstore]
      refine hcan.imp id fun hfree => CanProgram.ofStore hfree ?_ ?_ ?_ ?_ ?_ <;> rw [hstore]
      exacts [rfl, hu.resting.reads, rfl, rfl, rfl]
    have hcon := hmissed.concluded hcan'
    rw [hload]
    exact ⟨hcon.current.trans hmissed.current, hcon.roster.trans hroster, hcon.index.trans hmissed.index,
      LabelsMarked.of_same hmarked hcon.seats hcon.roster⟩
  · obtain ⟨x, hx, hfails⟩ := hbad
    have hnot : ¬ r.health.all unitReads = true := fun hall => by simp [List.all_eq_true.mp hall x hx] at hfails
    have hfailed : loadResultOf r d = .failed := if_neg hnot
    rw [ht, hfailed]
    obtain ⟨v, hcon, hc, hindex, hnote, hmarks⟩ := load_damaged hu
    exact ⟨hcon.current.trans hc, hcon.index.trans hindex, hcon.faultNote.trans hnote, hmarks⟩

end Sys2Proof.Machine
end

section
/-! The log keeps its capacities (R48, R50): only a close pushes a record, and every operation of the floor, the cards and
the presences closes seats by the same shared step. -/

open Sys2Proof Sys2Proof.Machine

namespace Sys2Proof.Machine

/-- A record that joins a log within its capacities leaves it so (R50). -/
theorem SpeechLog.Sound.push {l : SpeechLog} (h : l.Sound) (r : LogRecord) : (l.push r).Sound := by
  unfold SpeechLog.push
  split
  · next hlen => exact ⟨by simpa [Config.logCapacity] using Nat.succ_le_of_lt hlen, h.dropped⟩
  · exact ⟨by have := h.records; simp only [List.length_append, List.length_drop, List.length_singleton]; omega,
      Nat.min_le_left _ _⟩

/-- The log keeps its capacities. -/
def LogFits (s : State) : Prop := s.log.Sound

namespace LogFits

variable {s t : State}

theorem ofLog (h : LogFits s) (hl : t.log = s.log) : LogFits t := by
  unfold LogFits
  rw [hl]
  exact h

theorem ite {c : Prop} [Decidable c] (hs : LogFits s) (ht : LogFits t) : LogFits (if c then s else t) := by
  split
  · exact hs
  · exact ht

theorem foldl {α : Type} {f : State → α → State} (hf : ∀ s a, LogFits s → LogFits (f s a)) (l : List α) :
    ∀ {s : State}, LogFits s → LogFits (l.foldl f s) := by
  induction l with
  | nil => exact fun h => h
  | cons a l ih => exact fun h => ih (hf _ a h)

variable (h : LogFits s)
include h

theorem setFloor (f : Floor) : LogFits (s.setFloor f) := h

theorem setSeq (q : Sequencer) : LogFits (s.setSeq q) := h

theorem modSeat (i : SeatId) (f : SeatRec → SeatRec) : LogFits (s.modSeat i f) := h

theorem modCard (i : SeatId) (f : CardPart → CardPart) : LogFits (modCard i f s) := h

theorem markSeat (u : Station) : LogFits (markSeat u s) := h

theorem setSpeakers (l : List SpeakerEntry) : LogFits (setSpeakers l s) := h

theorem noteClose (i : SeatId) (r : CloseReason) : LogFits (noteClose i r s) := h

theorem modSpeaker (i : SeatId) (f : SpeakerEntry → SpeakerEntry) : LogFits (modSpeaker i f s) := h

/-! ### Closing and opening -/

theorem refuse (i : SeatId) (c : RefusalCode) : LogFits (refuse i c s) := h

theorem clearRefusal (i : SeatId) : LogFits (clearRefusal i s) := h

theorem openSeat (i : SeatId) : LogFits (openSeat i s) := h.ofLog (openSeat_log i s)

theorem withdrawSeat (i : SeatId) : LogFits (withdrawSeat i s) := h.ofLog (withdrawSeat_log i s)

theorem queueSeat (i : SeatId) : LogFits (queueSeat i s) := by
  unfold Machine.queueSeat
  exact ite h h

theorem dropHolder (i : SeatId) : LogFits (dropHolder i s) := by
  unfold Machine.dropHolder
  exact ite (ite h h) h

theorem advance : LogFits (advance s) := h.ofLog (advance_log s)

/-- The one step that writes the log. -/
theorem logSpeech (a : Option Nat) (e : SpeakerEntry) (r : CloseReason) : LogFits (logSpeech a e r s) :=
  SpeechLog.Sound.push h _

theorem closeSeatAs (who : SeatId → Option Nat) (r : CloseReason) (i : SeatId) : LogFits (closeSeatAs who r i s) := by
  unfold Machine.closeSeatAs
  split
  · exact h
  · exact ((((h.logSpeech (who i) _ r).noteClose i r).setSpeakers _).clearRefusal i).dropHolder i

theorem closeSeat (r : CloseReason) (i : SeatId) : LogFits (closeSeat r i s) := h.closeSeatAs _ r i

theorem closeOldest (r : CloseReason) : LogFits (closeOldest r s) := by
  unfold Machine.closeOldest
  split
  · exact h.closeSeat r _
  · exact h

theorem closeAdvanceAs (who : SeatId → Option Nat) (r : CloseReason) (i : SeatId) :
    LogFits (closeAdvanceAs who r i s) := by
  unfold Machine.closeAdvanceAs
  split
  · exact h
  · exact ite (h.closeSeatAs who r i) (h.closeSeatAs who r i).advance

theorem closeAdvance (r : CloseReason) (i : SeatId) : LogFits (closeAdvance r i s) := h.closeAdvanceAs _ r i

theorem closeAll (r : CloseReason) (l : List SeatId) : LogFits (closeAll r l s) :=
  foldl (fun _ i hs => hs.closeSeat r i) l h

theorem emptyRequests : LogFits (emptyRequests s) := foldl (fun _ r hs => hs.withdrawSeat r.seat) _ h

omit h in
theorem grantHeadLoop (replace : Option CloseReason) (n : Nat) :
    ∀ {s : State}, LogFits s → LogFits (grantHeadLoop n replace s).2 := by
  induction n with
  | zero => exact fun h => h
  | succ n ih =>
    intro s h
    unfold Machine.grantHeadLoop
    split
    · exact h
    · split
      · exact ih ((h.withdrawSeat _).refuse _ _)
      · split
        · exact h.openSeat _
        · split
          · split
            · exact h
            · exact (h.closeOldest _).openSeat _
          · exact h

theorem grantHead (replace : Option CloseReason) : LogFits (grantHead replace s).2 := grantHeadLoop replace _ h

theorem openFloor (p : Policy) : LogFits (openFloor p s) := h

theorem closeFloor : LogFits (closeFloor s) := h.emptyRequests.closeAll _ _

/-! ### Keys -/

theorem micPress (i : SeatId) : LogFits (micPress i s) := by
  have hopen (s : State) (h : LogFits s) : LogFits (micOpenMode i s) := by
    unfold micOpenMode
    dsimp only
    repeat' split
    · exact h
    · exact h.openSeat i
    · exact h
    · exact h.queueSeat i
    · exact h
    · exact h
    · exact (h.closeOldest _).openSeat i
  have hrequest (s : State) (h : LogFits s) : LogFits (micRequestMode i s) := by
    unfold micRequestMode
    exact ite (h.queueSeat i) h
  have hc := h.clearRefusal i
  unfold Machine.micPress
  dsimp only
  refine ite h (ite (ite (hc.closeAdvance _ i) hc) (ite (hc.withdrawSeat i) ?_))
  split
  · exact hopen _ hc
  · exact hrequest _ hc

theorem nextPress (i : SeatId) : LogFits (nextPress i s) := by
  unfold Machine.nextPress
  dsimp only
  refine ite h (ite h ?_)
  generalize hr : (if (Machine.clearRefusal i s).floor.policy.fullAction = .replaceOldest then some CloseReason.chair
    else none) = replace
  have hg := (h.clearRefusal i).grantHead replace
  split <;> next heq => rw [heq] at hg; exact hg

theorem applyPriority : LogFits (applyPriority s) := by
  unfold Machine.applyPriority
  split
  · exact h
  · exact h.emptyRequests.closeAll _ _

theorem priorityHeld (i : SeatId) : LogFits (priorityHeld i s) := by
  unfold Machine.priorityHeld
  refine ite h (ite h (ite h (ite h ?_)))
  exact (ite ((h.clearRefusal i).setFloor _) (((h.clearRefusal i).setFloor _).openSeat i)).applyPriority

theorem priorityReleased (i : SeatId) : LogFits (priorityReleased i s) := by
  unfold Machine.priorityReleased
  exact ite h (h.dropHolder i)

/-! ### The speech timer -/

theorem setTiming (i : SeatId) (w o : Bool) : LogFits (setTiming i w o s) := by
  unfold Machine.setTiming
  split
  · exact h
  · exact ite h h

theorem warningCheck (i : SeatId) : LogFits (warningCheck i s) := by
  unfold Machine.warningCheck
  split
  · exact h
  · exact ite (h.setTiming i _ _) h

theorem limitCheckAs (who : SeatId → Option Nat) (i : SeatId) : LogFits (limitCheckAs who i s) := by
  unfold Machine.limitCheckAs
  split
  · exact h
  · refine ite ?_ h
    split
    · exact h.closeAdvanceAs who _ i
    · exact h.setTiming i _ _

theorem allowanceCheckAs (who : SeatId → Option Nat) (i : SeatId) : LogFits (allowanceCheckAs who i s) := by
  unfold Machine.allowanceCheckAs
  split
  · exact h
  · exact ite (h.closeAdvanceAs who _ i) h

theorem barCheckAs (who : SeatId → Option Nat) (i : SeatId) : LogFits (barCheckAs who i s) := by
  unfold Machine.barCheckAs
  exact ite (h.allowanceCheckAs who i) (ite (h.withdrawSeat i) h)

theorem timingCheckAs (who : SeatId → Option Nat) (i : SeatId) : LogFits (timingCheckAs who i s) :=
  ((h.allowanceCheckAs who i).limitCheckAs who i).warningCheck i

theorem secondAtEntry (e0 : SpeakerEntry) : LogFits (secondAtEntry s e0) := by
  unfold Machine.secondAtEntry
  split
  · exact h
  · next e _ =>
    have hm := h.modSpeaker e.seat fun e => { e with elapsed := satAdd 65535 e.elapsed 1 }
    refine ite h (timingCheckAs (ite hm ?_) _ _)
    split
    · exact hm.setSeq _
    · exact hm

theorem secondAtFloor : LogFits (secondAtFloor s) := foldl (fun _ e hs => hs.secondAtEntry e) _ h

theorem policyCheck (e0 : SpeakerEntry) : LogFits (policyCheck s e0) := by
  unfold Machine.policyCheck
  split
  · exact h
  · refine ite h (ite (h.closeAdvance _ _) (ite (h.setTiming _ _ _) (ite ?_ (h.setTiming _ _ _))))
    split
    · exact h.closeAdvance _ _
    · exact h.setTiming _ _ _

theorem policyChecks : LogFits (policyChecks s) :=
  foldl (fun _ r hs => hs.barCheckAs _ r.seat) _ (foldl (fun _ e hs => hs.policyCheck e) _ h)

/-! ### SET_FLOOR and roles -/

omit h in
theorem drainRequests (n : Nat) : ∀ {s : State}, LogFits s → LogFits (drainRequests n s) := by
  induction n with
  | zero => exact fun h => h
  | succ n ih =>
    intro s h
    have hg := h.grantHead none
    unfold Machine.drainRequests
    split
    · next heq => rw [heq] at hg; exact ih hg
    · next heq => rw [heq] at hg; exact hg

theorem adoptPolicy (p : Policy) : LogFits (adoptPolicy p s) := by
  have hc : LogFits (closeExcess (s.setFloor { s.floor with policy := p })) := (h.setFloor _).closeAll _ _
  have hd := ite (c := p.mode = .openMode) (drainRequests
    ((closeExcess (s.setFloor { s.floor with policy := p })).floor.requests.length + 1) hc) hc
  unfold Machine.adoptPolicy
  exact ite hd hd.policyChecks

theorem requestRolePass (c : SeatId → Bool) (r : RequestEntry) : LogFits (requestRolePass c s r) := by
  unfold Machine.requestRolePass
  exact ite (ite (h.withdrawSeat _) (ite h h)) h

theorem speakerRolePass (who : SeatId → Option Nat) (c : SeatId → Bool) (e0 : SpeakerEntry) :
    LogFits (speakerRolePass who c s e0) := by
  have hbecome (i : SeatId) : LogFits (becomeChair who i s) := by
    unfold becomeChair
    exact ite (h.setTiming i _ _) (h.closeAdvanceAs who _ i)
  have hcease (i : SeatId) : LogFits (ceaseChair who i s) := by
    unfold ceaseChair
    exact ite (((h.dropHolder i).modSpeaker i _).timingCheckAs who i) ((h.dropHolder i).closeSeatAs who _ i)
  unfold Machine.speakerRolePass
  split
  · exact h
  · exact ite h (ite (h.closeAdvanceAs who _ _) (allowanceCheckAs (ite h (ite (hbecome _) (hcease _))) who _))

theorem roleConsequences (s0 : State) : LogFits (roleConsequences s0 s) := by
  unfold Machine.roleConsequences
  exact ite h (foldl (fun _ i hs => hs.barCheckAs _ i) _
    (foldl (fun _ e hs => hs.speakerRolePass _ _ e) _ (foldl (fun _ r hs => hs.requestRolePass _ r) _ h)))

theorem finishChange (b : Bool) (s0 : State) : LogFits (finishChange b s0 s) :=
  (h.roleConsequences s0).ofLog (finishChange_log b s0 s)

omit h in
theorem change {f : State → State} (hf : LogFits (f s)) : LogFits (change f s) := hf.finishChange false s

omit h in
theorem changeLevels {f : State → State} (hf : LogFits (f s)) : LogFits (changeLevels f s) := hf.finishChange true s

/-! ### Cards -/

theorem placeCard (i : SeatId) (c : List Byte) (n : RoleId) : LogFits (placeCard i c n s) := by
  unfold Machine.placeCard
  refine ite h ?_
  split
  · exact h
  · exact ite h h

theorem clearCard (i : SeatId) : LogFits (clearCard i s) := by
  have hu : LogFits (unbind i s) := by
    unfold unbind
    split
    · exact h
    · split <;> exact h
  exact hu.modCard i _

theorem endFloorEntry (r : CloseReason) (i : SeatId) : LogFits (endFloorEntry r i s) := by
  unfold Machine.endFloorEntry
  exact ite (h.closeAdvance r i) (h.withdrawSeat i)

theorem insertCard (i : SeatId) : LogFits (insertCard i s) := h

theorem takeCard (i : SeatId) (present seen : Bool) : LogFits (takeCard i present seen s) := by
  have hr : LogFits (removeCard i s) := (h.endFloorEntry .cardOut i).clearCard i
  unfold Machine.takeCard
  dsimp only
  split
  · exact ite h (ite (h.insertCard i) h)
  · exact ite h h
  · exact ite hr (ite (hr.insertCard i) h)

theorem takeIdentity (i : SeatId) (c : List Byte) : LogFits (takeIdentity i c s) := by
  unfold Machine.takeIdentity
  exact ite h (ite h (ite h (h.placeCard i c _)))

theorem loadRoster (l : List Attendee) : LogFits (loadRoster l s) := by
  have hs (s : State) (i : SeatId) (h : LogFits s) : LogFits (searchHeld s i) := by
    unfold searchHeld
    dsimp only
    split
    · exact h.placeCard _ _ _
    · exact h
  exact foldl hs _ (h.setSeq _)

/-! ### Presence -/

theorem setPresence (u : Station) (p : Presence) (n : Nat) : LogFits (setPresence u p n s) := by cases u <;> exact h

theorem recordClean (u : Station) : LogFits (recordClean u s) := by
  unfold Machine.recordClean
  split
  · exact h.setPresence _ _ _
  · exact h.setPresence u .present 0
  · exact h

theorem loseCore (us : List Station) : LogFits (loseCore us s) := by
  have hdrop (s : State) (u : Station) (h : LogFits s) : LogFits (dropUnit s u) := by cases u <;> exact h
  unfold Machine.loseCore
  exact foldl (fun _ i hs => hs.clearCard i) _ (foldl (fun _ i hs => hs.withdrawSeat i) _
    (foldl (fun _ i hs => hs.closeAdvance _ i) _ (foldl hdrop _ h)))

theorem loseUnits (us : List Station) : LogFits (loseUnits us s) :=
  foldl (fun _ i hs => hs.ofLog (by rfl)) _ (changeLevels (h.loseCore us))

theorem recordMiss (u : Station) : LogFits (recordMiss u s) := by
  unfold Machine.recordMiss
  split
  · exact h.setPresence u .silent 1
  · exact ite (h.setPresence _ _ _) (h.loseUnits _)
  · exact h

theorem absentCore (u : Station) : LogFits (absentCore u s) := by
  cases u with
  | seat i => exact ((endFloorEntry (h.setPresence (.seat i) .absent 0) .lost i).clearCard i).modSeat i _
  | screen j => exact h

theorem returnCore (u : Station) (k : UnitKind) : LogFits (returnCore u k s) := by
  cases u with
  | seat i =>
    exact ((((h.endFloorEntry .lost i).setPresence (.seat i) .present 0).clearCard i).modSeat i _).markSeat _
  | screen j => exact h

theorem returnUnit (u : Station) (k : UnitKind) : LogFits (returnUnit u k s) := changeLevels (h.returnCore u k)

theorem takePresence (u : Station) (f : PollFields) : LogFits (takePresence u f s) := by
  have h1 : LogFits (if s.presence u = .lost then Machine.returnUnit u f.kind s else Machine.recordClean u s) :=
    ite (h.returnUnit u f.kind) (h.recordClean u)
  unfold Machine.takePresence
  exact ite (h1.returnUnit u f.kind) h1

theorem takeFetch (i : SeatId) (c : List Byte) : LogFits (takeFetch i c s) :=
  change ((h.recordClean (.seat i)).takeIdentity i c)

end LogFits

end Sys2Proof.Machine
end

section
/-! The capacities of the host link and the log through the meeting sequence and the store engine: a command adds only
replies and notice marks to the host link, and its log keeps its capacities. -/

open Sys2Proof Sys2Proof.Machine

namespace Sys2Proof.Machine

/-- Whether a waiting frame is a REJECT (R206). -/
def OutFrame.isReject (f : OutFrame) : Bool := decide (f.cls = .reject)

/-- What the host link and the log hold at most, less what an idle line says (R50, R202, R206). -/
structure Within (queue : List Frame) (waiting : List OutFrame) (lost outstanding : Nat) (log : SpeechLog) : Prop where
  queue : queue.length ≤ 4
  rejects : (waiting.filter OutFrame.isReject).length ≤ 4
  lost : lost ≤ 255
  outstanding : outstanding ≤ 4
  log : log.Sound

/-- A state keeps its capacities while a command runs. -/
def Capable (s : State) : Prop := Within s.link.queue s.link.waiting s.link.lostRejects s.link.outstanding s.log

namespace Capable

variable {s t : State}

theorem of_sound (hl : s.link.Sound) (hr : s.log.Sound) : Capable s :=
  ⟨hl.queue, hl.rejects, hl.lostRejects, hl.outstanding, hr⟩

/-- With a transmitter that has chosen, the capacities are those of the host link and the log. -/
theorem sound (h : Capable s) (hb : s.link.onLine = none → s.link.waiting = []) : s.link.Sound ∧ s.log.Sound :=
  ⟨⟨h.queue, h.rejects, h.lost, h.outstanding, hb⟩, h.log⟩

theorem logFits (h : Capable s) : LogFits s := h.log

/-- A change of the floor, which blanks to the same state and whose log fits. -/
theorem ofOuter (h : Capable s) (ho : t.outer = s.outer) (hl : LogFits t) : Capable t := by
  unfold Capable
  rw [outer_queue ho, outer_waiting ho, outer_lostRejects ho, outer_outstanding ho]
  exact ⟨h.queue, h.rejects, h.lost, h.outstanding, hl⟩

/-- A command that leaves the input queue, the transmitter and the log. -/
theorem ofKept {m : List Block} (h : Capable s) (hk : KeptBut m s t) (hl : Block.log ∉ m := by decide)
    (hq : Block.inputQueue ∉ m := by decide) (ht : Block.transmitter ∉ m := by decide) : Capable t := by
  obtain ⟨ho, hw, _, hr⟩ := hk .transmitter ht
  unfold Capable
  rw [(hk .inputQueue hq).1, hw, hr, ho, hk .log hl]
  exact h

theorem ite {c : Prop} [Decidable c] (hs : Capable s) (ht : Capable t) : Capable (if c then s else t) := by
  split
  · exact hs
  · exact ht

theorem foldl {α : Type} {f : State → α → State} (hf : ∀ s a, Capable s → Capable (f s a)) (l : List α) :
    ∀ {s : State}, Capable s → Capable (l.foldl f s) := by
  induction l with
  | nil => exact fun h => h
  | cons a l ih => exact fun h => ih (hf _ a h)

variable (h : Capable s)
include h

/-! ### Writes that leave the host link's frames and the log -/

theorem setFloor (f : Floor) : Capable (s.setFloor f) := h
theorem setClock (c : Option Nat) : Capable (s.setClock c) := h
theorem setSeq (q : Sequencer) : Capable (s.setSeq q) := h
theorem setCurrent (c : Option Current) : Capable (setCurrent c s) := h
theorem setChange (c : Option BookingChange) : Capable (setChange c s) := h
theorem modEntry (n : Nat) (f : IndexEntry → IndexEntry) : Capable (modEntry n f s) := h
theorem modStore (f : Store → Store) : Capable (modStore f s) := h
theorem setSeats (v : Vector SeatRec 64) : Capable (s.setSeats v) := h
theorem setScreens (v : Vector ScreenRec 4) : Capable (s.setScreens v) := h
theorem modSeat (i : SeatId) (f : SeatRec → SeatRec) : Capable (s.modSeat i f) := h
theorem modScreen (j : ScreenId) (f : ScreenRec → ScreenRec) : Capable (s.modScreen j f) := h
theorem modLine (l : LineId) (f : Line → Line) : Capable (s.modLine l f) := by cases l <;> exact h
theorem setLine (l : LineId) (x : Line) : Capable (s.setLine l x) := by cases l <;> exact h
theorem markFault (n : FaultNote) : Capable (markFault n s) := h
theorem markMeeting : Capable (markMeeting s) := h
theorem markStore : Capable (markStore s) := h
theorem markSeat (u : Station) : Capable (markSeat u s) := h
theorem askRead (r : ReadJob) : Capable (askRead r s) := h
theorem handOn (j : ProgramJob) : Capable (handOn j s) := h
theorem settleEntry (n : Nat) (b : BookingState) : Capable (settleEntry n b s) := h
theorem noteSettled (n : Nat) (b : BookingState) : Capable (noteSettled n b s) := h
theorem dropRoster : Capable (dropRoster s) := h

theorem handOnState (n : Nat) (b : BookingState) : Capable (handOnState n b s) := by
  unfold Machine.handOnState
  refine ite h ?_
  split
  · exact h.handOn _
  · exact h

theorem damageIfPending (n : Nat) : Capable (damageIfPending n s) := by
  unfold Machine.damageIfPending
  split
  · exact ite ((h.settleEntry n .damaged).markFault _) h
  · exact h

theorem setEntryState (n : Nat) (b : BookingState) : Capable (setEntryState n b s) := by
  have hf : Capable (followSettled n b s) := by
    unfold followSettled
    split
    · exact ite (h.setSeq _) h
    · exact h
  exact hf.modEntry n _

/-- A frame that is no REJECT joins those that wait. -/
theorem placeFrame {f : OutFrame} (hf : f.cls ≠ .reject) : Capable (placeFrame f s) := by
  refine ⟨h.queue, ?_, h.lost, h.outstanding, h.log⟩
  have hn : OutFrame.isReject f = false := decide_eq_false hf
  change ((s.link.waiting ++ [f]).filter OutFrame.isReject).length ≤ 4
  rw [List.filter_append, List.filter_singleton, hn]
  simpa using h.rejects

theorem reply (kind tag : Byte) (r : Result) (body : List Byte) : Capable (reply kind tag r body s) :=
  h.placeFrame FrameClass.noConfusion

/-! ### Changes -/

omit h in
theorem finishChange {s0 : State} (h : Capable s) (b : Bool) : Capable (finishChange b s0 s) :=
  h.ofOuter (outer_finishChange b s0 s) (h.logFits.finishChange b s0)

omit h in
theorem change {f : State → State} (hf : Capable (f s)) : Capable (change f s) := hf.finishChange false

omit h in
theorem changeLevels {f : State → State} (hf : Capable (f s)) : Capable (changeLevels f s) := hf.finishChange true

theorem markSeatNotices (s0 : State) : Capable (markSeatNotices s0 s) := h.ofKept (markSeatNotices_kept s0 s)

theorem closeFloor : Capable (closeFloor s) := h.ofOuter (outer_closeFloor s) h.logFits.closeFloor

theorem openFloor (p : Policy) : Capable (openFloor p s) := h

theorem loadRoster (l : List Attendee) : Capable (loadRoster l s) := h.ofKept (loadRoster_kept l s)

/-! ### The meeting sequence -/

theorem wakeForMeeting (l : LineId) : Capable (wakeForMeeting l s) := by
  cases l <;> exact h.ofKept (wakeForMeeting_kept _ s)

theorem warnCore : Capable (warnCore s) := by
  unfold Machine.warnCore
  split
  · exact ite (h.setCurrent _).markMeeting h
  · exact h

theorem endMeeting (n : Nat) : Capable (endMeeting n s) :=
  change ((h.closeFloor.dropRoster.setCurrent none).settleEntry n .done)

theorem missCore (n : Nat) : Capable (missCore n s) := by
  have hm : Capable (match s.seq.current with
      | some c => if c.number = n then Machine.setCurrent none (Machine.dropRoster s) else s
      | none => s) := by
    split
    · exact ite (h.dropRoster.setCurrent none) h
    · exact h
  exact hm.settleEntry n .missed

theorem missBooking (n : Nat) : Capable (missBooking s n) := (change (h.missCore n)).handOnState n .missed

theorem enterSession (c : Current) : Capable (enterSession c s) := by
  have hc : Capable (enterCore c s) :=
    (((h.openFloor c.policy).setCurrent _).setEntryState c.number .inSession).markMeeting.warnCore
  exact ((change hc).wakeForMeeting .a).wakeForMeeting .b

theorem startLoad (n : Nat) (resumed : Bool) : Capable (startLoad n resumed s) :=
  (change (f := fun s => Machine.markMeeting (Machine.setCurrent _ s)) (h.setCurrent _).markMeeting).askRead _

theorem evaluateEnd (now : Nat) : Capable (evaluateEnd now s) := by
  unfold Machine.evaluateEnd
  split
  · split
    · exact ite ((h.endMeeting _).handOnState _ _) h
    · exact h
  · exact h

theorem evaluateWarning : Capable (evaluateWarning s) := by
  unfold Machine.evaluateWarning
  split
  · exact ite h (change h.warnCore)
  · exact h

theorem evaluateEntry (now : Nat) : Capable (evaluateEntry now s) := by
  unfold Machine.evaluateEntry
  split
  · split
    · exact ite (h.enterSession _) h
    · exact h
  · exact h

theorem evaluateLobby (now : Nat) : Capable (evaluateLobby now s) := by
  have hq := h.setSeq { s.seq with resumeMark := false }
  unfold Machine.evaluateLobby
  refine ite h (ite hq ?_)
  split
  · exact hq.startLoad _ _
  · split
    · exact hq.startLoad _ _
    · exact hq

/-- The evaluation of the meeting sequence (R103). -/
theorem evaluate : Capable (evaluate s) := by
  unfold Machine.evaluate
  split
  · exact h
  · next now _ =>
    exact ite h (((foldl (fun _ n hs => hs.missBooking n) _ (h.evaluateEnd now).evaluateWarning).evaluateEntry
      now).evaluateLobby now)

/-! ### Roster loads -/

theorem enterLoaded (c : Current) (e : IndexEntry) (d : BookingData) (now : Nat) : Capable (enterLoaded c e d now s) := by
  have hl := h.loadRoster d.attendees
  unfold Machine.enterLoaded
  exact ite ((hl.markSeatNotices s).missCore _)
    (ite (((hl.openFloor d.policy).setCurrent _).markMeeting.setEntryState _ _)
      ((hl.setCurrent _).markMeeting.setEntryState _ _))

theorem takeLoad (c : Current) (r : LoadResult) : Capable (takeLoad c r s) := by
  unfold Machine.takeLoad
  split
  · exact h.setCurrent none
  · next e _ =>
    split
    · exact change (f := fun s => Machine.markFault _ (Machine.settleEntry _ _ (Machine.setCurrent none s)))
        (((h.setCurrent none).settleEntry _ _).markFault _)
    · next d =>
      have hc : Capable (Machine.change (Machine.enterLoaded c e d (s.now.getD 0)) s) := change (h.enterLoaded c e d _)
      exact ite ((hc.ofKept (remarkLabels_kept _)).handOnState _ _)
        (((hc.ofKept (remarkItems_kept _)).wakeForMeeting .a).wakeForMeeting .b)

theorem completeLoad (n : Nat) (r : LoadResult) : Capable (completeLoad n r s) := by
  unfold Machine.completeLoad
  refine ite (h.setSeq _) ?_
  split
  · exact ite (h.takeLoad _ r).evaluate h.evaluate
  · exact h.evaluate

/-! ### Booking changes -/

theorem completeChange (c : BookingChange) (r : Result) (body : List Byte) : Capable (completeChange c r body s) := by
  have hr := (h.setChange none).reply (changeKindByte c.kind) c.tag r body
  unfold Machine.completeChange afterChange
  split
  · exact (hr.setSeq _).completeLoad _ _
  · exact hr.evaluate

theorem amendCore (c : BookingChange) (p : Place) (w : Nat) : Capable (amendCore c p w s) := by
  have hf : Capable (match s.entry c.number with
      | some e => followSettled c.number (amendedState e.state) s
      | none => s) := by
    split
    · unfold followSettled
      split
      · exact ite (h.setSeq _) h
      · exact h
    · exact h
  exact hf.modEntry _ _

theorem cancelCore (n : Nat) (note : StateNote) : Capable (cancelCore n note s) := by
  have hm : Capable (match s.seq.current with
      | some c => if c.number = n then
          Machine.setCurrent none (if c.phase = .loading then s else Machine.dropRoster s) else s
      | none => s) := by
    split
    · exact ite ((ite h h.dropRoster).setCurrent none) h
    · exact h
  exact (hm.modEntry _ _).settleEntry n .cancelled

theorem changeSucceeded (c : BookingChange) (p : Place) (w : Nat) : Capable (changeSucceeded c p w s) := by
  unfold Machine.changeSucceeded
  split
  · exact (change (f := admitBooking c p w) (h.setSeq _)).completeChange _ _ _
  · exact (change (f := admitBooking c p w) (h.setSeq _)).completeChange _ _ _
  · exact (change (h.amendCore c p w)).completeChange _ _ _
  · exact (change (h.cancelCore _ _)).completeChange _ _ _
  · exact (change (f := extendCore c p w) ((h.modEntry _ _).setSeq _).markMeeting).completeChange _ _ _
  · exact (h.modEntry _ _).completeChange _ _ _

theorem changeFailed (r : Result) : Capable (changeFailed r s) := by
  unfold Machine.changeFailed
  split
  · exact h.completeChange _ r []
  · exact h

theorem programSucceeded (j : ProgramJob) (p : Place) (w : Nat) : Capable (programSucceeded j p w s) := by
  unfold Machine.programSucceeded
  split
  · split
    · exact h.changeSucceeded _ p w
    · exact h
  · split
    · exact h.modEntry _ _
    · exact h
  · split <;> exact h.modEntry _ _

theorem programFailed (j : ProgramJob) (r : Result) : Capable (programFailed j r s) := by
  unfold Machine.programFailed
  split
  · exact h.changeFailed r
  · exact h

/-! ### The minute -/

theorem remarkClockItem : Capable (remarkClockItem s) := h.ofKept (remarkItemsWhere_kept _ s)

theorem sleepCheck (l : LineId) : Capable (sleepCheck l s) := by
  unfold Machine.sleepCheck
  exact ite (h.setLine l _) h

theorem minuteEvent : Capable (minuteEvent s) := by
  unfold Machine.minuteEvent
  split
  · exact h
  · exact ((((h.modLine .a _).modLine .b _).evaluate.remarkClockItem).sleepCheck .a).sleepCheck .b

end Capable

end Sys2Proof.Machine
end

section
/-! The capacities of the host link and the log through the store engine and the start-up scan. -/

open Sys2Proof Sys2Proof.Machine

namespace Sys2Proof.Machine

namespace Capable

variable {s t : State} (h : Capable s)
include h

/-! ### The ends of programs and passes -/

theorem setPrograms (l : List ProgramJob) : Capable (setPrograms l s) := h.modStore _
theorem setOutcome (o : StoreOutcome) : Capable (setOutcome o s) := h.modStore _
theorem setSector (i : Fin 16) (e : SectorEntry) : Capable (setSector i e s) := h.modStore _
theorem countCorrected (n : Nat) : Capable (countCorrected n s) := h.modStore _

theorem endProgram (r : Result) (j : ProgramJob) : Capable (endProgram r j s) :=
  (h.setOutcome _).markStore.programFailed j r

theorem endAllHalted (l : List ProgramJob) :
    Capable (l.foldl (fun s j => Machine.endProgram .storeHalted j s) s) :=
  foldl (fun _ j hs => hs.endProgram .storeHalted j) l h

theorem endPass (r : Result) (body : List Byte) : Capable (endPass r body s) := by
  have hs := ((h.modStore fun t => { t with pass := none }).setOutcome (outcomeOf r)).markStore
  unfold Machine.endPass
  split
  · exact h
  · dsimp only
    split
    · exact hs.reply _ _ _ _
    · exact hs

theorem setLatch (cause : HaltCause) : Capable (setLatch cause s) :=
  (((h.modStore _).markFault (.storeHalted cause)).markStore.endAllHalted _).endPass .storeHalted []

theorem failHead : Capable (failHead s) := by
  unfold Machine.failHead
  split
  · exact ite ((h.setPrograms _).endProgram _ _) h
  · exact h

/-! ### Finding room -/

theorem closeHead : Capable (closeHead s) := h.ofKept (closeHead_kept s)

theorem startProgram (j : ProgramJob) (p : Place) (q : Option Nat) : Capable (startProgram j p q s) := h.modStore _

theorem openFor (j : ProgramJob) : Capable (openFor j s).2 := by
  unfold Machine.openFor
  dsimp only
  generalize (if j.purpose = .copy then 1 else 2) = needed
  split
  · exact h
  · split
    · exact h
    · split
      · exact h
      · exact h.startProgram _ _ _

theorem beginProgram (j : ProgramJob) : Capable (beginProgram j s).2 := by
  unfold Machine.beginProgram
  split
  · exact h
  · split
    · split
      · exact h.startProgram _ _ _
      · exact h.closeHead.openFor j
    · exact h.openFor j

theorem startPass (tag : Option Byte) : Capable (startPass tag s) := by
  unfold Machine.startPass
  refine ite h ?_
  dsimp only
  split
  · exact h.modStore _
  · split
    · exact (h.setOutcome .ok).markStore.reply _ _ _ _
    · exact (h.setOutcome .ok).markStore

theorem passIfShort : Capable (passIfShort s) := by
  unfold Machine.passIfShort
  exact ite (h.startPass none) h

theorem nextPass : Capable (nextPass s) := by
  unfold Machine.nextPass
  exact ite h h.passIfShort

theorem waitForRoom : Capable (waitForRoom s) := by
  have hw : Capable (headWaits s) := by
    unfold headWaits
    split
    · exact h.setPrograms _
    · exact h
  unfold Machine.waitForRoom
  exact ite (hw.startPass none).failHead (hw.startPass none)

theorem copyNoRoom : Capable (copyNoRoom s) := (h.endPass _ _).failHead.nextPass

/-! ### The next work -/

theorem readForCopy (r : MediumRecord) : Capable (readForCopy r s) := by
  have hc := h.countCorrected (correctedUnits r.health)
  unfold Machine.readForCopy
  exact ite hc (change (hc.damageIfPending r.number))

theorem passStep (p : Pass) : Capable (passStep p s).2 := by
  unfold Machine.passStep
  split
  · exact h.modStore _
  · next r _ _ =>
    have hb := (h.readForCopy r).beginProgram ((Machine.readForCopy r s).copyJob r)
    dsimp only
    split
    · next heq => rw [heq] at hb; exact hb
    · next heq => rw [heq] at hb; exact hb.setLatch _
    · next heq => rw [heq] at hb; exact hb.copyNoRoom

theorem chooseWork : Capable (chooseWork s).2 := by
  unfold Machine.chooseWork
  split
  · next j rest _ =>
    have hb := h.beginProgram j
    split
    · next heq => rw [heq] at hb; exact hb.setPrograms rest
    · next heq => rw [heq] at hb; exact hb.setLatch _
    · next heq =>
      rw [heq] at hb
      dsimp only
      split
      · exact hb.waitForRoom
      · exact hb.waitForRoom.passStep _
  · split
    · exact h
    · exact h.passStep _

omit h in
theorem pumpLoop (n : Nat) : ∀ {s : State}, Capable s → Capable (pumpLoop n s) := by
  induction n with
  | zero => exact fun h => h
  | succ n ih =>
    intro s h
    have hc := h.chooseWork
    unfold Machine.pumpLoop
    refine ite h ?_
    split
    · next heq => rw [heq] at hc; exact ih hc
    · next heq => rw [heq] at hc; exact hc

/-- The store engine going on (R120). -/
theorem pump : Capable (pump s) := by
  have hresume : Capable (resumeErase s) := by
    unfold resumeErase
    exact ite (h.modStore _) h
  have hrefuse : Capable (refuseHalted (resumeErase s)) := by
    unfold refuseHalted
    exact ite ((hresume.setPrograms []).endAllHalted _) hresume
  exact pumpLoop _ hrefuse

/-! ### The end of a program -/

theorem noteSector (p : Programming) (x : SectorState) (n : Nat) : Capable (noteSector p x n s) :=
  (h.setSector _ _).modStore _

theorem headerEnded (p : Programming) : Capable (headerEnded p s) := by
  unfold Machine.headerEnded
  exact ite h h.passIfShort

theorem programRetried (p : Programming) : Capable (programRetried p s) := by
  have hb := h.beginProgram { p.job with retry := true, writeCount := some p.writeCount }
  unfold Machine.programRetried
  dsimp only
  split
  · next heq => rw [heq] at hb; exact hb
  · next heq => rw [heq] at hb; exact (ite hb (hb.setPrograms _)).setLatch _
  · next heq => rw [heq] at hb; exact ite hb.copyNoRoom (hb.setPrograms _).waitForRoom

theorem completeProgram (p : Programming) (wear : List WornUnit) : Capable (completeProgram p wear s) := by
  have hc (f : Store → Store) (n : Nat) := (h.modStore f).countCorrected n
  have hpassed (s : State) (h : Capable s) : Capable (programPassed p s) :=
    (((h.noteSector p .opened _).setOutcome .ok).modStore _).programSucceeded _ _ _
  have hheader (s : State) (h : Capable s) : Capable (headerPassed p s) := (h.noteSector p .opened 1).modStore _
  unfold Machine.completeProgram
  exact ite ((ite (hpassed _ (hc _ _)) (hheader _ (hc _ _))).headerEnded p)
    (ite ((((hc _ _).noteSector p .full _).setLatch .verify).endProgram _ _)
      ((((hc _ _).noteSector p .full _).headerEnded p).programRetried p))

theorem completeOrphan (p : Programming) (wear : List WornUnit) : Capable (completeOrphan p wear s) :=
  (h.modStore _).countCorrected _

/-! ### The end of a read or an erase -/

theorem readBooking (e : IndexEntry) : Capable (readBooking e s).2 := by
  unfold Machine.readBooking
  split
  · exact h
  · dsimp only
    repeat' split
    all_goals exact h.countCorrected _

theorem takeRead (wear : List WornUnit) : Capable (takeRead wear s) := (h.modStore _).modStore _

theorem completeGetBooking (n : Nat) (tag : Byte) : Capable (completeGetBooking n tag s) := by
  unfold Machine.completeGetBooking
  split
  · exact h.reply _ _ _ _
  · next e _ =>
    have hr := h.readBooking e
    have hd := hr.damageIfPending n
    split
    · next heq => rw [heq] at hr; exact ite (hr.reply _ _ _ _) (hr.reply _ _ _ _)
    · next heq => rw [heq] at hd; exact hd.change.reply _ _ _ _
    · next heq => rw [heq] at hd; exact hd.change.reply _ _ _ _

theorem completeExtendRead (n : Nat) : Capable (completeExtendRead n s) := by
  unfold Machine.completeExtendRead
  split
  · next e c _ _ =>
    have hr := h.readBooking e
    split
    · next heq => rw [heq] at hr; exact (hr.setChange _).handOn _
    · next heq => rw [heq] at hr; exact hr.changeFailed _
  · exact h

theorem completeRosterRead (n : Nat) : Capable (completeRosterRead n s) := by
  unfold Machine.completeRosterRead
  split
  · exact h.completeLoad n _
  · next e _ =>
    have hr := h.readBooking e
    split <;> next heq => rw [heq] at hr; exact hr.completeLoad n _

theorem completeErase (p : Pass) (o : EraseOutcome) : Capable (completeErase p o s) := by
  have hm (f : Store → Store) := h.modStore f
  have hv (f : Store → Store) : Capable (if o = .erased then Machine.setSector p.victim ⟨.erased, 0⟩ (Machine.modStore f s)
      else retireSector p.victim (Machine.modStore f s)) :=
    ite ((hm f).setSector _ _) (((hm f).setSector p.victim ⟨.retired, 0⟩).markFault _).markStore
  have hp (f : Store → Store) := (change (f := removeSettled p.victim) ((hv f).setSeq _)).endPass .ok
    (put1 p.victim.val ++ put1 p.reclaimed)
  unfold Machine.completeErase
  exact (ite ((hp _).setLatch _) (hp _)).nextPass

/-! ### The start-up scan -/

theorem buildIndex (notes : List Noted) : Capable (buildIndex notes s) := by
  have hdamaged (s : State) (n : Nat) (h : Capable s) : Capable (faultDamaged s n) := h.markFault _
  have hfound (s : State) (e : IndexEntry) (h : Capable s) : Capable (noteFound s e) := by
    unfold noteFound
    exact ite (hdamaged _ _ (h.noteSettled _ _)) h
  unfold Machine.buildIndex
  dsimp only
  exact (foldl (fun s (e : IndexEntry) hs => hdamaged s e.number hs) _ (foldl (fun _ n hs => hs.noteSettled n .cancelled) _
    ((foldl hfound _ (foldl hdamaged _ h)).setSeq _))).modStore _

theorem completeScan (wear : List WornUnit) (failures : List (Fin 16)) : Capable (completeScan wear failures s) := by
  have hc (f : Store → Store) (n : Nat) := (h.modStore f).countCorrected n
  have hretire (l : List (Fin 16)) (s : State) (h : Capable s) :
      Capable (l.foldl (fun s i => Machine.markStore (Machine.markFault (.storeRetire i.val) s)) s) :=
    foldl (f := fun s i => Machine.markStore (Machine.markFault (.storeRetire i.val) s))
      (fun _ i hs => (hs.markFault (.storeRetire i.val)).markStore) l h
  have hindex (notes : List Noted) (s : State) (h : Capable s) :
      Capable (remarkTitleItem (Machine.change (Machine.buildIndex notes) s)) :=
    (change (h.buildIndex notes)).ofKept (remarkItemsWhere_kept _ _)
  have hcancel (s : State) (h : Capable s) : Capable (handOnCancelled s) :=
    foldl (fun _ e hs => hs.handOnState e.number .cancelled) _ h
  unfold Machine.completeScan
  dsimp only
  exact (hcancel _ ((ite ((hindex _ _ (hretire _ _ (hc _ _))).setLatch _)
    (hindex _ _ (hretire _ _ (hc _ _)))).modStore _).markStore).evaluate.passIfShort

end Capable

end Sys2Proof.Machine
end

section
/-! The capacities of the host link and the log through the seat service and the line engines. -/

open Sys2Proof Sys2Proof.Machine

namespace Sys2Proof.Machine

namespace Capable

variable {s t : State} (h : Capable s)
include h

/-! ### The seat service -/

theorem recordClean (u : Station) : Capable (recordClean u s) :=
  h.ofOuter (outer_recordClean u s) (h.logFits.recordClean u)

theorem recordMiss (u : Station) : Capable (recordMiss u s) :=
  h.ofOuter (outer_recordMiss u s) (h.logFits.recordMiss u)

theorem loseUnits (us : List Station) : Capable (loseUnits us s) :=
  h.ofOuter (outer_loseUnits us s) (h.logFits.loseUnits us)

theorem takeFetch (i : SeatId) (c : List Byte) : Capable (takeFetch i c s) :=
  h.ofOuter (outer_takeFetch i c s) (h.logFits.takeFetch i c)

theorem takePresence (u : Station) (f : PollFields) : Capable (takePresence u f s) :=
  h.ofOuter (outer_takePresence u f s) (h.logFits.takePresence u f)

theorem absentCore (u : Station) : Capable (absentCore u s) :=
  h.ofOuter (outer_absentCore u s) (h.logFits.absentCore u)

theorem resetIdle (l : LineId) : Capable (resetIdle l s) := h.modLine l _

omit h in
theorem repeatStep {f : State → State} (hf : ∀ s, Capable s → Capable (f s)) (n : Nat) :
    ∀ {s : State}, Capable s → Capable (repeatStep f n s) := by
  induction n with
  | zero => exact fun h => h
  | succ n ih => exact fun h => ih (hf _ h)

omit h in
/-- A key event, whose own step changes the floor (R14). -/
theorem keyEvent (i : SeatId) (acts : Bool) {f : State → State} (h : Capable (f s)) : Capable (keyEvent i acts f s) := by
  unfold Machine.keyEvent
  exact ite (h.change.ofKept (remarkStatus_kept i _)) h.change

theorem micPress (i : SeatId) : Capable (micPress i s) := h.ofOuter (outer_micPress i s) (h.logFits.micPress i)

theorem nextPress (i : SeatId) : Capable (nextPress i s) := h.ofOuter (outer_nextPress i s) (h.logFits.nextPress i)

theorem takeCardFields (i : SeatId) (f : PollFields) : Capable (takeCardFields i f s) := by
  have hm := h.modSeat i fun r => { r with heldCard := some f.card }
  have hc (seen : Bool) (s : State) (h : Capable s) : Capable (takeCard i f.cardPresent seen s) :=
    h.ofOuter (outer_takeCard i f.cardPresent seen s) (h.logFits.takeCard i f.cardPresent seen)
  unfold Machine.takeCardFields
  exact (hc _ _ (ite (hm.resetIdle _) hm)).change

theorem takeMic (i : SeatId) (f : PollFields) : Capable (takeMic i f s) := by
  have hm := h.modSeat i fun r => { r with heldMic := some f.mic }
  unfold Machine.takeMic
  exact repeatStep (f := fun s => Machine.keyEvent i s.floor.isOpen (Machine.micPress i) s)
    (fun s hs => (hs.micPress i).keyEvent i _) _ (ite hm (hm.resetIdle _))

theorem takeNext (i : SeatId) (f : PollFields) : Capable (takeNext i f s) := by
  have hm := h.modSeat i fun r => { r with heldNext := some f.next }
  unfold Machine.takeNext
  exact repeatStep (f := fun s => Machine.keyEvent i (s.chairKeyActs i) (Machine.nextPress i) s)
    (fun s hs => (hs.nextPress i).keyEvent i _) _ (ite hm (hm.resetIdle _))

theorem takePriority (i : SeatId) (f : PollFields) : Capable (takePriority i f s) := by
  have hi := (h.modSeat i fun r => { r with heldPriority := f.priority }).resetIdle (lineOfSeat i)
  unfold Machine.takePriority
  exact ite h (ite ((hi.ofOuter (outer_priorityHeld i _) (hi.logFits.priorityHeld i)).keyEvent i _)
    (hi.ofOuter (outer_priorityReleased i _) (hi.logFits.priorityReleased i)).change)

theorem takePoll (u : Station) (probe : Bool) (f : PollFields) : Capable (takePoll u probe f s) := by
  unfold Machine.takePoll
  refine ite ?_ h
  cases u with
  | seat i => exact ((((h.takePresence _ f).takeCardFields i f).takeMic i f).takeNext i f).takePriority i f
  | screen j => exact h.takePresence _ f

theorem putMark (u : Station) (k : OrderKind) (b : Bool) : Capable (putMark u k b s) := by
  cases u <;> cases k <;> exact h

theorem refetch (i : SeatId) : Capable (refetch i s) := by
  unfold Machine.refetch
  exact ite (h.modSeat i _) h

theorem takeOrderFailure (u : Station) (c : OrderContent) : Capable (takeOrderFailure u c s) := by
  have hm := h.putMark u (contentKind c) true
  unfold Machine.takeOrderFailure forgetDisplay
  split
  · exact hm.modSeat _ _
  · exact hm.modSeat _ _
  · exact hm.modScreen _ _
  · exact hm

theorem takeAcknowledgement (u : Station) (c : OrderContent) : Capable (takeAcknowledgement u c s) := by
  have hr := h.recordClean u
  unfold Machine.takeAcknowledgement
  dsimp only
  split
  · cases u
    · exact hr.modSeat _ _
    · exact hr.modScreen _ _
  · exact hr.modScreen _ _
  · exact hr.modSeat _ _
  · exact hr.modSeat _ _
  · exact hr.modSeat _ _
  · exact hr

/-! ### Exchanges -/

theorem nextExchange (l : LineId) : Capable (nextExchange l s) := by
  cases l <;> exact h.ofKept (nextExchange_kept _ s)

theorem arbiter (l : LineId) : Capable (arbiter l s) := by
  cases l <;> exact h.ofKept (arbiter_arbitrated _ s).kept

theorem putExchange (l : LineId) (x : Exchange) : Capable (putExchange l x s) := h.modLine l _
theorem quietLine (l : LineId) : Capable (quietLine l s) := h.modLine l _
theorem sentClean (l : LineId) : Capable (sentClean l s) := h.modLine l _
theorem noteFailure (l : LineId) (k : FailureKind) : Capable (noteFailure l k s) := h.modLine l _
theorem modEnum (l : LineId) (f : EnumState → EnumState) : Capable (modEnum l f s) := h.modLine l _
theorem beginEnumeration (l : LineId) : Capable (beginEnumeration l s) := h.modLine l _
theorem enterRunning (l : LineId) : Capable (enterRunning l s) := h.modLine l _
theorem wakeLine (l : LineId) : Capable (wakeLine l s) := h.modLine l _

theorem endPoll (l : LineId) (a : Nat) (probe : Bool) (f : PollFields) : Capable (endPoll l a probe f s) :=
  ((((h.sentClean l).modLine l _).quietLine l).takePoll _ probe f).nextExchange l

theorem endFetch (l : LineId) (i : SeatId) (c : List Byte) : Capable (endFetch l i c s) :=
  ((((h.sentClean l).modLine l _).quietLine l).takeFetch i c).nextExchange l

theorem endOrder (l : LineId) (u : Station) (c : OrderContent) (seg : Segment) : Capable (endOrder l u c seg s) := by
  have hs := (h.sentClean l).quietLine l
  unfold Machine.endOrder
  split
  · exact ((hs.modLine l _).recordClean _).nextExchange l
  · exact ((hs.modLine l _).takeAcknowledgement u c).nextExchange l

theorem failPoll (l : LineId) (a : Nat) (probe : Bool) (k : FailureKind) : Capable (failPoll l a probe k s) := by
  have hs := (((h.sentClean l).noteFailure l k).modLine l (pollEnded a probe)).quietLine l
  unfold Machine.failPoll
  exact (ite hs (hs.recordMiss _)).nextExchange l

theorem failFetch (l : LineId) (i : SeatId) (k : FailureKind) : Capable (failFetch l i k s) :=
  ((((((h.sentClean l).noteFailure l k).modLine l _).quietLine l).refetch i).recordMiss _).nextExchange l

theorem failOrder (l : LineId) (u : Station) (c : OrderContent) (k : FailureKind) : Capable (failOrder l u c k s) :=
  ((((((h.sentClean l).noteFailure l k).modLine l _).quietLine l).takeOrderFailure u c).recordMiss u).nextExchange l

/-! ### Reports and FAULT -/

theorem setLinkRun (b : Bool) (g : Option Byte) : Capable (s.setLink { s.link with run := b, startTag := g }) := h

theorem startReport : Capable (startReport s) := by
  unfold Machine.startReport
  split
  · exact h
  · exact ite h ((h.setLinkRun true s.link.startTag).evaluate.reply _ _ _ _ |>.setLinkRun _ none)

theorem report (l : LineId) : Capable (report l s) :=
  (foldl (f := fun s tag => rescanReply (s := s) _ tag) (fun _ tag hs => hs.reply 0x41 tag .ok _) _
    (h.setLine l _)).startReport

theorem freezeLine (l : LineId) : Capable (freezeLine l s) :=
  foldl (fun _ i hs => ite hs (hs.modSeat i _)) _ h

theorem cutOffCore (l : LineId) (kinds : List UnitKind) : Capable (cutOffCore l kinds s) := by
  have hseats := foldl (f := fun s (p : SeatId × UnitKind) =>
    s.modSeat p.1 fun r => enumeratedRole p.2 { r with kind := some p.2 })
    (fun _ p hs => hs.modSeat p.1 _) (foundSeats l kinds) h
  have hlost (us : List Station) (s : State) (h : Capable s) : Capable (loseCore us s) :=
    h.ofOuter (outer_loseCore us s) (h.logFits.loseCore us)
  unfold Machine.cutOffCore
  exact foldl (fun _ u hs => hs.absentCore u) _ (hlost _ _ hseats)

theorem enterFault (l : LineId) (cause : FaultCause) : Capable (enterFault l cause s) := by
  have habandon : Capable (abandonItem l s) := by
    unfold abandonItem
    split
    · exact h.takeOrderFailure _ _
    · exact h
  have hf := habandon.modLine l (faultLine cause)
  have hcut (f : Line → Line) :=
    ((hf.cutOffCore l (s.line l).enumeration.kinds).changeLevels.freezeLine l).modLine l f
  have hlost (us : List Station) := hf.loseUnits us
  unfold Machine.enterFault
  exact ite (((ite (hcut _) (hlost _)).markFault (.lineFault l cause)).report l)
    ((ite (hcut _) (hlost _)).markFault _)

/-! ### Bit errors -/

theorem handBack (x : Exchange) : Capable (handBack x s) := by
  unfold Machine.handBack
  split
  · exact h.putMark _ _ _
  · exact h.takeOrderFailure _ _
  · exact h.refetch _
  · exact h

theorem abandonExchange (l : LineId) (x : Exchange) : Capable (abandonExchange l x s) := by
  unfold Machine.abandonExchange
  exact ite (((h.handBack x).modLine l _).enterFault l _) ((h.handBack x).modLine l _)

theorem endGap (l : LineId) (x : Exchange) : Capable (endGap l x s) := by
  unfold Machine.endGap
  exact ite (h.putExchange l x) ((h.quietLine l).nextExchange l)

/-! ### Enumeration -/

theorem assignPosition (l : LineId) (k : Nat) : Capable (assignPosition l k s) := (h.modEnum l _).putExchange l _

theorem endSeatPart (l : LineId) : Capable (endSeatPart l s) := (h.modEnum l _).putExchange l _

theorem positionFound (l : LineId) (k : Nat) (kind : UnitKind) : Capable (positionFound l k kind s) := by
  unfold Machine.positionFound
  exact ite ((h.modEnum l _).assignPosition l _) ((h.modEnum l _).endSeatPart l)

theorem endUnassign (l : LineId) : Capable (endUnassign l s) := by
  unfold Machine.endUnassign
  exact ite (((h.sentClean l).modEnum l _).assignPosition l 1) (((h.sentClean l).modEnum l _).putExchange l _)

theorem endAssign (l : LineId) (k : Nat) (a : LineAnswer) : Capable (endAssign l k a s) := by
  unfold Machine.endAssign
  dsimp only
  split
  · exact (h.sentClean l).positionFound l k _
  · exact (((h.sentClean l).noteFailure l _).modEnum l _).putExchange l _

theorem endConfirmPoll (l : LineId) (k : Nat) (a : LineAnswer) : Capable (endConfirmPoll l k a s) := by
  unfold Machine.endConfirmPoll
  dsimp only
  split
  · exact (h.sentClean l).positionFound l k _
  · next f _ =>
    have hn := (h.sentClean l).noteFailure l f
    exact ite (ite (hn.endSeatPart l) ((hn.modEnum l _).putExchange l _))
      (ite (hn.endSeatPart l) ((hn.modEnum l _).putExchange l _))

theorem findingsCore (l : LineId) (kinds : List UnitKind) (screens : List Nat) :
    Capable (findingsCore l kinds screens s) := by
  have hreturn (u : Station) (k : UnitKind) (s : State) (h : Capable s) : Capable (returnCore u k s) :=
    h.ofOuter (outer_returnCore u k s) (h.logFits.returnCore u k)
  unfold Machine.findingsCore
  refine foldl (fun s u hs => ?_) _ (foldl (f := fun s (p : SeatId × UnitKind) =>
    (returnCore (.seat p.1) p.2 s).modSeat p.1 (enumeratedRole p.2))
    (fun _ p hs => (hreturn _ _ _ hs).modSeat p.1 _) _ h)
  split
  · exact ite hs (hs.absentCore _)
  · exact ite (hreturn _ _ _ hs) (hs.absentCore _)

theorem endEnumeration (l : LineId) : Capable (endEnumeration l s) :=
  ((((((h.findingsCore l _ _).changeLevels).freezeLine l).modLine l _).enterRunning l).arbiter l).report l

theorem endScreenPoll (l : LineId) (addr : Nat) (a : LineAnswer) : Capable (endScreenPoll l addr a s) := by
  have hsettled (found : Bool) (s : State) (h : Capable s) : Capable (screenSettled l addr found s) := by
    unfold screenSettled
    exact ite ((h.modEnum l _).putExchange l _) (((h.modEnum l _).quietLine l).endEnumeration l)
  unfold Machine.endScreenPoll
  dsimp only
  split
  · exact hsettled true _ (h.sentClean l)
  · next f _ =>
    have hn := (h.sentClean l).noteFailure l f
    exact ite (hsettled false _ hn) ((hn.modEnum l _).putExchange l _)

/-! ### Wake, sleep and retries -/

theorem endDelimiter (l : LineId) : Capable (endDelimiter l s) := by
  unfold Machine.endDelimiter
  exact ite ((h.modLine l _).beginEnumeration l) ((h.enterRunning l).nextExchange l)

theorem endSleep (l : LineId) : Capable (endSleep l s) := by
  unfold Machine.endSleep
  exact ite (((h.sentClean l).quietLine l).nextExchange l)
    (ite (((h.sentClean l).setLine l _).wakeLine l) ((h.sentClean l).setLine l _))

theorem recoverLine (l : LineId) : Capable (recoverLine l s) := by
  unfold Machine.recoverLine
  exact ite ((h.sentClean l).beginEnumeration l) ((h.sentClean l).enterRunning l)

theorem endRetry (l : LineId) (r : RetryResult) : Capable (endRetry l r s) := by
  unfold Machine.endRetry
  split
  · exact h.modLine l _
  · exact h.modLine l _
  · exact ite ((h.recoverLine l).nextExchange l) (h.recoverLine l)
  · split
    · exact ((h.recoverLine l).takePoll _ true _).nextExchange l
    · exact ((h.sentClean l).noteFailure l _).modLine l _
  · exact h.modLine l _
  · exact h

theorem secondAtLine (l : LineId) : Capable (secondAtLine l s) := by
  have hb : Capable (beginRound l s) := h.setLine l _
  unfold Machine.secondAtLine
  refine ite h ?_
  split
  · exact h.setLine l _
  · refine ite h ?_
    dsimp only
    split
    · exact hb.putExchange l _
    · exact hb
  · exact h

theorem advanceClock : Capable (advanceClock s) := by
  unfold Machine.advanceClock
  split
  · exact h
  · exact ite (ite (h.setClock _).minuteEvent (h.setClock _)) h

theorem secondEvent : Capable (secondEvent s) :=
  (((h.ofOuter (outer_secondAtFloor s) h.logFits.secondAtFloor).change.advanceClock).secondAtLine .a).secondAtLine .b

end Capable

end Sys2Proof.Machine
end

section
/-! The capacities of the host link and the log through the requests, the input queue and the resets; every step keeps
them. -/

open Sys2Proof Sys2Proof.Machine

namespace Sys2Proof.Machine

namespace Capable

variable {s t : State} (h : Capable s)
include h

/-! ### The requests of the floor, the log and the levels -/

omit h in
theorem fixedForm {kind tag : Byte} {size : Nat} {p : List Byte} {f : State → State} (h : Capable s)
    (hf : Capable (f s)) : Capable (fixedForm kind tag size p f s) := by
  unfold Machine.fixedForm
  exact ite hf (h.reply _ _ _ _)

theorem reqGrant (tag : Byte) (p : List Byte) : Capable (reqGrant tag p s) := by
  refine h.fixedForm ?_
  split
  · exact h.reply _ _ _ _
  · next i _ =>
    have hg : Capable (grantSeat i s) := by
      unfold grantSeat
      exact ite h (ite (h.ofOuter (outer_openSeat i s) (h.logFits.openSeat i))
        (h.ofOuter ((outer_openSeat i _).trans (outer_closeOldest _ s)) ((h.logFits.closeOldest _).openSeat i)))
    exact ite (h.reply _ _ _ _) (hg.change.reply _ _ _ _)

theorem reqClose (tag : Byte) (p : List Byte) : Capable (reqClose tag p s) := by
  refine h.fixedForm ?_
  split
  · exact h.reply _ _ _ _
  · next i _ =>
    have hc : Capable (closeAdvance .host i s) := h.ofOuter (outer_closeAdvance _ i s) (h.logFits.closeAdvance _ i)
    exact ite (h.reply _ _ _ _) (ite (h.reply _ _ _ _) (hc.change.reply _ _ _ _))

theorem reqWithdraw (tag : Byte) (p : List Byte) : Capable (reqWithdraw tag p s) := by
  refine h.fixedForm ?_
  split
  · exact h.reply _ _ _ _
  · next i _ =>
    have hw : Capable (withdrawSeat i s) := h.ofOuter (outer_withdrawSeat i s) (h.logFits.withdrawSeat i)
    exact ite (h.reply _ _ _ _) (ite (h.reply _ _ _ _) (hw.change.reply _ _ _ _))

theorem reqClearFloor (tag : Byte) (p : List Byte) : Capable (reqClearFloor tag p s) := by
  have hc : Capable (clearFloorCore s) :=
    h.ofOuter (clearFloorCore_steady s).outer (h.logFits.emptyRequests.closeAll _ _)
  exact h.fixedForm (ite (h.reply _ _ _ _) (hc.change.reply _ _ _ _))

theorem reqSetFloor (tag : Byte) (p : List Byte) : Capable (reqSetFloor tag p s) := by
  refine h.fixedForm ?_
  split
  · exact h.reply _ _ _ _
  · have ha (q : Policy) : Capable (adoptPolicy q s) := h.ofOuter (outer_adoptPolicy q s) (h.logFits.adoptPolicy q)
    exact ite (h.reply _ _ _ _) ((ha _).change.reply _ _ _ _)

theorem reqFloorStatus (tag : Byte) (p : List Byte) : Capable (reqFloorStatus tag p s) :=
  h.fixedForm (ite (h.reply _ _ _ _) (h.reply _ _ _ _))

/-- READ_LOG leaves a shorter log and a dropped count of 0. -/
theorem drainLog (n : Nat) : Capable (drainLog n s) := by
  have hl : SpeechLog.Sound ⟨s.log.records.drop n, 0⟩ :=
    ⟨(List.length_drop (l := s.log.records) ▸ Nat.sub_le _ n).trans h.log.records, Nat.zero_le _⟩
  have hw : Capable (s.setLog ⟨s.log.records.drop n, 0⟩) := ⟨h.queue, h.rejects, h.lost, h.outstanding, hl⟩
  unfold Machine.drainLog
  exact ite hw hw

theorem reqReadLog (tag : Byte) (p : List Byte) : Capable (reqReadLog tag p s) :=
  h.fixedForm ((h.drainLog _).reply _ _ _ _)

theorem reqSetLevels (tag : Byte) (p : List Byte) : Capable (reqSetLevels tag p s) := by
  refine h.fixedForm ?_
  split
  · exact h.reply _ _ _ _
  · next m _ => exact (changeLevels (f := fun s => s.setMasters (clampMasters m)) h).reply _ _ _ _

theorem reqSetTrim (tag : Byte) (p : List Byte) : Capable (reqSetTrim tag p s) := by
  refine h.fixedForm ?_
  split
  · exact h.reply _ _ _ _
  · exact (changeLevels (f := fun s => s.modSeat _ _) (h.modSeat _ _)).reply _ _ _ _

theorem reqGetLevels (tag : Byte) (p : List Byte) : Capable (reqGetLevels tag p s) := by
  refine h.fixedForm ?_
  split <;> exact h.reply _ _ _ _

/-! ### The requests of roles, filters and displays -/

theorem reqSetRole (tag : Byte) (p : List Byte) : Capable (reqSetRole tag p s) := by
  refine h.fixedForm ?_
  split
  · exact ite (h.reply _ _ _ _) (ite (h.reply _ _ _ _) ((changeLevels (f := setRoleDef _ _) h).reply _ _ _ _))
  · exact h.reply _ _ _ _

theorem reqGetRole (tag : Byte) (p : List Byte) : Capable (reqGetRole tag p s) := by
  refine h.fixedForm ?_
  split <;> exact h.reply _ _ _ _

theorem reqSetSeatRole (tag : Byte) (p : List Byte) : Capable (reqSetSeatRole tag p s) := by
  refine h.fixedForm ?_
  split
  · exact (change (f := setSeatRole _ _) (h.modSeat _ _)).reply _ _ _ _
  · exact h.reply _ _ _ _

theorem setFilterEntry (n : Fin 16) (f : FilterEntry) : Capable (setFilterEntry n f s) := h

theorem reqSetFilter (tag : Byte) (p : List Byte) : Capable (reqSetFilter tag p s) := by
  refine h.fixedForm ?_
  split
  · exact ite (h.reply _ _ _ _) ((h.setFilterEntry _ _).reply _ _ _ _)
  · exact h.reply _ _ _ _

theorem reqGetFilter (tag : Byte) (p : List Byte) : Capable (reqGetFilter tag p s) := by
  refine h.fixedForm ?_
  split <;> exact h.reply _ _ _ _

theorem reqEnableFilter (tag : Byte) (p : List Byte) : Capable (reqEnableFilter tag p s) := by
  refine h.fixedForm ?_
  split
  · exact h.reply _ _ _ _
  · exact (h.setFilterEntry _ _).reply _ _ _ _

theorem reqDisableFilter (tag : Byte) (p : List Byte) : Capable (reqDisableFilter tag p s) := by
  refine h.fixedForm ?_
  split
  · exact h.reply _ _ _ _
  · exact (h.setFilterEntry _ _).reply _ _ _ _

theorem reqSetLabel (tag : Byte) (p : List Byte) : Capable (reqSetLabel tag p s) := by
  refine h.fixedForm ?_
  split
  · exact h.reply _ _ _ _
  · exact ((change (f := setHostLabel _ _) (h.modSeat _ _)).modSeat _ _).reply _ _ _ _

theorem reqGetDisplay (tag : Byte) (p : List Byte) : Capable (reqGetDisplay tag p s) := by
  refine h.fixedForm ?_
  split <;> exact h.reply _ _ _ _

/-! ### The requests of the clock, the room and the bookings -/

theorem reqSetRoom (tag : Byte) (p : List Byte) : Capable (reqSetRoom tag p s) := by
  refine h.fixedForm ?_
  split
  · exact h.reply _ _ _ _
  · exact ite (h.reply _ _ _ _) (ite (h.reply _ _ _ _) ((h.setSeq _).reply _ _ _ _))

theorem reqSetTime (tag : Byte) (p : List Byte) : Capable (reqSetTime tag p s) :=
  h.fixedForm ((h.setClock _).minuteEvent.reply _ _ _ _)

theorem reqGetTime (tag : Byte) (p : List Byte) : Capable (reqGetTime tag p s) := h.fixedForm (h.reply _ _ _ _)

theorem reqList (tag : Byte) (p : List Byte) : Capable (reqList tag p s) :=
  h.fixedForm (ite (h.reply _ _ _ _) (h.reply _ _ _ _))

theorem reqOpenNow (tag : Byte) (p : List Byte) : Capable (reqOpenNow tag p s) := by
  refine h.fixedForm (ite (h.reply _ _ _ _) ?_)
  split
  · exact ite (h.reply _ _ _ _) (ite (h.reply _ _ _ _) ((h.enterSession _).reply _ _ _ _))
  · exact h.reply _ _ _ _

theorem admission (kind : ChangeKind) (k tag : Byte) (d : BookingData) (c : Bool) :
    Capable (admission kind k tag d c s) := by
  unfold Machine.admission
  split
  · exact h.reply _ _ _ _
  · exact ite (h.reply _ _ _ _) ((h.setChange _).handOn _)

theorem reqBook (tag : Byte) (p : List Byte) : Capable (reqBook tag p s) := by
  unfold Machine.reqBook
  refine ite (h.reply _ _ _ _) ?_
  split
  · exact h.reply _ _ _ _
  · split
    · exact h.reply _ _ _ _
    · split
      · exact h.reply _ _ _ _
      · exact h.admission _ _ _ _ _

theorem reqWalkIn (tag : Byte) (p : List Byte) : Capable (reqWalkIn tag p s) := by
  refine h.fixedForm ?_
  split
  · exact h.reply _ _ _ _
  · split
    · exact h.reply _ _ _ _
    · refine ite (h.reply _ _ _ _) ?_
      split
      · exact h.reply _ _ _ _
      · exact h.admission _ _ _ _ _

theorem reqAmend (tag : Byte) (p : List Byte) : Capable (reqAmend tag p s) := by
  unfold Machine.reqAmend
  refine ite (h.reply _ _ _ _) ?_
  split
  · exact h.reply _ _ _ _
  · split
    · exact h.reply _ _ _ _
    · refine ite (h.reply _ _ _ _) ?_
      split
      · exact h.reply _ _ _ _
      · split
        · exact h.reply _ _ _ _
        · exact ite (h.reply _ _ _ _) (ite (h.reply _ _ _ _) ((h.setChange _).handOn _))

theorem startSettle (kind : ChangeKind) (tag : Byte) (e : IndexEntry) (b : BookingState) :
    Capable (startSettle kind tag e b s) := (h.setChange _).handOn _

theorem reqCancel (tag : Byte) (p : List Byte) : Capable (reqCancel tag p s) := by
  refine h.fixedForm ?_
  split
  · exact h.reply _ _ _ _
  · split
    · exact h.reply _ _ _ _
    · exact ite (h.reply _ _ _ _) (ite (h.reply _ _ _ _) (h.startSettle _ _ _ _))

theorem reqExtend (tag : Byte) (p : List Byte) : Capable (reqExtend tag p s) := by
  refine h.fixedForm ?_
  split
  · exact h.reply _ _ _ _
  · split
    · exact h.reply _ _ _ _
    · refine ite (h.reply _ _ _ _) ?_
      split
      · exact h.reply _ _ _ _
      · exact ite (h.reply _ _ _ _) (ite (h.reply _ _ _ _) ((h.setChange _).askRead _))

theorem reqEndNow (tag : Byte) (p : List Byte) : Capable (reqEndNow tag p s) := by
  refine h.fixedForm ?_
  split
  · exact h.reply _ _ _ _
  · split
    · exact h.reply _ _ _ _
    · exact ite ((h.endMeeting _).completeChange _ _ _) ((h.endMeeting _).startSettle _ _ _ _)

theorem reqGetBooking (tag : Byte) (p : List Byte) : Capable (reqGetBooking tag p s) := by
  refine h.fixedForm (ite (h.reply _ _ _ _) ?_)
  split
  · exact h.reply _ _ _ _
  · exact h.askRead _

/-! ### The requests of the store, the lines and the part -/

theorem reqStoreStatus (tag : Byte) (p : List Byte) : Capable (reqStoreStatus tag p s) := by
  refine h.fixedForm ?_
  split
  · exact h.reply _ _ _ _
  · exact ite ((h.reply _ _ _ _).modStore _) (h.reply _ _ _ _)

theorem reqStoreClear (tag : Byte) (p : List Byte) : Capable (reqStoreClear tag p s) :=
  h.fixedForm (ite (h.reply _ _ _ _) (ite (h.reply _ _ _ _) (ite (h.reply _ _ _ _)
    ((h.modStore _).markStore.reply _ _ _ _).passIfShort)))

theorem reqCompact (tag : Byte) (p : List Byte) : Capable (reqCompact tag p s) :=
  h.fixedForm (ite (h.reply _ _ _ _) (ite (h.reply _ _ _ _) (ite (h.reply _ _ _ _) (h.startPass _))))

theorem reqSetLines (tag : Byte) (p : List Byte) : Capable (reqSetLines tag p s) := by
  refine h.fixedForm ?_
  split
  · exact ite (h.reply _ _ _ _) (ite (h.reply _ _ _ _) (((h.modLine .a _).modLine .b _).reply _ _ _ _))
  · exact h.reply _ _ _ _

theorem takeRescan (l : LineId) (tag : Byte) : Capable (takeRescan l tag s) := by
  have hl (us : List Station) := (h.loseUnits us).modLine l fun x => { x with rescans := x.rescans ++ [tag] }
  unfold Machine.takeRescan
  dsimp only
  split
  · exact (hl _).wakeLine l
  · exact ite ((hl _).nextExchange l) (hl _)
  · exact hl _

theorem reqRescan (tag : Byte) (p : List Byte) : Capable (reqRescan tag p s) := by
  refine h.fixedForm ?_
  split
  · exact h.reply _ _ _ _
  · split
    · exact h.reply _ _ _ _
    · exact h.takeRescan _ tag

theorem reqLineStatus (tag : Byte) (p : List Byte) : Capable (reqLineStatus tag p s) := by
  refine h.fixedForm ?_
  split
  · exact ite ((h.reply _ _ _ _).modLine _ _) (h.reply _ _ _ _)
  · exact h.reply _ _ _ _

theorem reqGetSeat (tag : Byte) (p : List Byte) : Capable (reqGetSeat tag p s) := by
  refine h.fixedForm ?_
  split <;> exact h.reply _ _ _ _

theorem startLine (l : LineId) : Capable (startLine l s) := by
  unfold Machine.startLine
  exact ite ((h.wakeLine l).modLine l _) (h.modLine l _)

theorem reqStart (tag : Byte) (p : List Byte) : Capable (reqStart tag p s) :=
  h.fixedForm (ite (h.reply _ _ _ _) (ite (h.reply _ _ _ _)
    (((h.setLinkRun s.link.run (some tag)).startLine .a).startLine .b).startReport))

theorem reqRestart (tag : Byte) (p : List Byte) : Capable (reqRestart tag p s) :=
  h.fixedForm (h.placeFrame (f := ⟨.restartReply, replyFrame 0x49 tag .ok []⟩) FrameClass.noConfusion)

theorem reqSetNotices (tag : Byte) (p : List Byte) : Capable (reqSetNotices tag p s) := by
  refine h.fixedForm ?_
  split
  · exact h.reply _ _ _ _
  · next f _ =>
    have he : Capable (s.setLink { s.link with enables := f }) := h
    exact he.reply _ _ _ _

theorem reqIdentify (tag : Byte) (p : List Byte) : Capable (reqIdentify tag p s) := h.fixedForm (h.reply _ _ _ _)

theorem clearLost : Capable (s.setLink { s.link with lostRejects := 0 }) :=
  ⟨h.queue, h.rejects, Nat.zero_le _, h.outstanding, h.log⟩

theorem reqPing (tag : Byte) (p : List Byte) : Capable (reqPing tag p s) := by
  unfold Machine.reqPing
  exact ite (h.reply _ _ _ _) (h.reply 0x4C tag .ok _).clearLost

theorem reqUnknownKind (kind tag : Byte) : Capable (reqUnknownKind kind tag s) := h.placeFrame FrameClass.noConfusion

/-- Whatever its kind byte, a request keeps the capacities (R203, R218). -/
theorem runRequest (f : Frame) : Capable (runRequest f s) := by
  unfold Machine.runRequest
  split
  · exact h.reqGrant _ _
  · exact h.reqClose _ _
  · exact h.reqWithdraw _ _
  · exact h.reqClearFloor _ _
  · exact h.reqSetFloor _ _
  · exact h.reqFloorStatus _ _
  · exact h.reqReadLog _ _
  · exact h.reqSetLevels _ _
  · exact h.reqSetTrim _ _
  · exact h.reqGetLevels _ _
  · exact h.reqSetRole _ _
  · exact h.reqGetRole _ _
  · exact h.reqSetSeatRole _ _
  · exact h.reqSetFilter _ _
  · exact h.reqGetFilter _ _
  · exact h.reqEnableFilter _ _
  · exact h.reqDisableFilter _ _
  · exact h.reqSetRoom _ _
  · exact h.reqSetTime _ _
  · exact h.reqGetTime _ _
  · exact h.reqList _ _
  · exact h.reqOpenNow _ _
  · exact h.reqBook _ _
  · exact h.reqWalkIn _ _
  · exact h.reqAmend _ _
  · exact h.reqCancel _ _
  · exact h.reqExtend _ _
  · exact h.reqEndNow _ _
  · exact h.reqGetBooking _ _
  · exact h.reqStoreStatus _ _
  · exact h.reqStoreClear _ _
  · exact h.reqCompact _ _
  · exact h.reqSetLabel _ _
  · exact h.reqGetDisplay _ _
  · exact h.reqSetLines _ _
  · exact h.reqRescan _ _
  · exact h.reqLineStatus _ _
  · exact h.reqGetSeat _ _
  · exact h.reqStart _ _
  · exact h.reqRestart _ _
  · exact h.reqSetNotices _ _
  · exact h.reqIdentify _ _
  · exact h.reqPing _ _
  · exact h.reqUnknownKind _ _

end Capable

end Sys2Proof.Machine
end

section
/-! The capacities of the host link and the log through the input queue, the transmitter and the resets; every step, of
every command, keeps them. -/

open Sys2Proof Sys2Proof.Machine

namespace Sys2Proof.Machine

/-! ## Taking and sending frames -/

namespace Capable

variable {s t : State} (h : Capable s)
include h

/-- A REJECT waits only where fewer than 4 do, and the lost ones stop at 255 (R206). -/
theorem reject (tag : Byte) (r : RejectReason) : Capable (reject tag r s) := by
  unfold Machine.reject
  split
  · next hr =>
    refine ⟨h.queue, ?_, h.lost, h.outstanding, h.log⟩
    change ((s.link.waiting ++ [_]).filter OutFrame.isReject).length ≤ 4
    rw [List.filter_append, List.length_append]
    exact Nat.add_le_add (Nat.le_of_lt_succ hr) (List.length_filter_le _ [_])
  · exact ⟨h.queue, h.rejects, Nat.min_le_left _ _, h.outstanding, h.log⟩

/-- The transmitter's choice takes a frame from those that wait, or forms a notice (R206). -/
theorem chooseFrame : Capable (chooseFrame s) := by
  unfold Machine.chooseFrame
  split
  · exact h
  · split
    · next f rest hw =>
      have hr := h.rejects
      rw [hw, List.filter_cons] at hr
      refine ⟨h.queue, (?_ : (rest.filter OutFrame.isReject).length ≤ 4), h.lost, h.outstanding, h.log⟩
      split at hr
      · exact (Nat.le_succ _).trans hr
      · exact hr
    · split
      · next d hd =>
        have ha : Capable d.after := h.ofKept (dueNotice_after hd)
        exact ha
      · exact h

theorem offerFrame (f : Frame) : Capable (offerFrame f s) := by
  unfold Machine.offerFrame
  split
  · next hq =>
    refine ⟨?_, h.rejects, h.lost, h.outstanding, h.log⟩
    change (s.link.queue ++ [f]).length ≤ 4
    rw [List.length_append]
    exact hq
  · exact h.reject _ _

/-- A request is taken only where fewer than 4 are outstanding (R202). -/
theorem takeRequest {f : State → State} (hc : s.canTake = true) (hf : ∀ s, Capable s → Capable (f s)) :
    Capable (takeRequest f s) := by
  have hn : s.link.outstanding < Config.maxOutstanding := of_decide_eq_true ((Bool.and_eq_true _ _).mp hc).1
  have ht : Capable (s.modLink fun k => { k with outstanding := k.outstanding + 1 }) :=
    ⟨h.queue, h.rejects, h.lost, hn, h.log⟩
  exact (hf _ ht).pump

omit h in
theorem takeFrames (n : Nat) : ∀ {s : State}, Capable s → Capable (takeFrames n s) := by
  induction n with
  | zero => exact fun h => h
  | succ n ih =>
    intro s h
    unfold Machine.takeFrames
    split
    · exact h
    · next f rest hq =>
      have hlen := h.queue
      rw [hq] at hlen
      have hr : Capable (s.modLink fun k => { k with queue := rest }) :=
        ⟨(Nat.le_succ _).trans hlen, h.rejects, h.lost, h.outstanding, h.log⟩
      split
      · next hc => exact ih (hr.takeRequest hc fun _ hs => hs.runRequest f)
      · exact h

theorem setReceiver (r : Receiver) : Capable (setReceiver r s) := h

theorem completeFrame (bytes : List Byte) : Capable (completeFrame bytes s) := by
  unfold Machine.completeFrame
  exact ite ((h.setReceiver .hunting).offerFrame _) ((h.setReceiver .hunting).reject _ _)

theorem abandonBadLength : Capable (abandonBadLength s) := (h.setReceiver .hunting).reject 0 .badLength

theorem receiveByte (b : Byte) : Capable (receiveByte b s) := by
  unfold Machine.receiveByte
  split
  · exact ite (h.setReceiver _) h
  · exact ite h.abandonBadLength (ite (h.completeFrame _) (h.setReceiver _))

omit h in
/-- After a reset the host link and the log are empty (R214). -/
theorem bootState (powered : Bool) (rate : Nat) (m : Vector SectorMedium 16) (l : List Instr) :
    Capable (bootState powered rate m l) :=
  of_sound HostLink.initial_sound ⟨Nat.zero_le _, Nat.zero_le _⟩

omit h in
theorem restartReset (s : State) : Capable (restartReset s) :=
  bootState true s.rate s.store.medium s.pending

theorem endFrame : Capable (endFrame s) := by
  unfold Machine.endFrame
  split
  · exact h
  · dsimp only
    split
    · exact restartReset _
    · exact ⟨h.queue, h.rejects, h.lost, (Nat.sub_le _ 1).trans h.outstanding, h.log⟩
    · exact h

end Capable

/-! ## Commands -/

/-- The host link and the log keep their capacities: what holds between commands. -/
def State.Fits (s : State) : Prop := s.link.Sound ∧ s.log.Sound

theorem State.Fits.capable {s : State} (h : s.Fits) : Capable s := .of_sound h.1 h.2

/-- The transmitter's choice leaves no frame waiting for an idle line. -/
theorem Capable.chosen {s : State} (h : Capable s) : (Machine.chooseFrame s).Fits :=
  h.chooseFrame.sound fun ho => (chooseFrame_settled s ho).1

theorem Capable.settled {s : State} (h : Capable s) : (settleLink s).Fits :=
  (Capable.takeFrames _ h.pump.chooseFrame).chosen

section commands
variable {s : State} (h : s.Fits) {f : State → State} (hf : ∀ s, Capable s → Capable (f s))
include h hf

theorem event_fits : (event f s).Fits := by
  unfold event
  split
  · exact (hf s h.capable).settled
  · exact h

theorem hostRequest_fits (frame : Frame) : (hostRequest frame f s).Fits := by
  unfold hostRequest
  split
  · exact h
  · split
    · next hc => exact (h.capable.takeRequest hc.2 hf).chosen
    · exact (h.capable.offerFrame frame).settled

end commands

/-- A command that a frame carries is that frame's request (R203, R218). -/
theorem exec_of_requestFrame {i : Instr} {f : Frame} (hf : requestFrame i = some f) (s : State) :
    exec i s = .next (hostRequest f (runRequest f) s) := by
  cases i <;> cases hf <;> rfl

/-- Whatever the command, what it leads to keeps the capacities. -/
theorem exec_fits {i : Instr} {s t : State} (h : s.Fits) (he : exec i s = .next t) : t.Fits := by
  cases hr : requestFrame i with
  | some f =>
    rw [exec_of_requestFrame hr] at he
    cases he
    exact hostRequest_fits h (fun _ hs => hs.runRequest f) f
  | none =>
    cases i with
    | powerOn => cases he; exact (Capable.bootState _ _ _ _).settled
    | completeFrame bytes => cases he; exact event_fits h fun _ hs => .ite (hs.completeFrame bytes) hs
    | rejectTruncated =>
      cases he
      refine event_fits h fun s hs => ?_
      split
      · exact (hs.setReceiver .hunting).reject _ _
      · exact hs
    | rejectBadLength second =>
      cases he
      refine event_fits h fun s hs => ?_
      split
      · exact .ite hs.abandonBadLength hs
      · exact hs
    | frameSent => cases he; exact event_fits h fun _ hs => hs.endFrame
    | restartReset => cases he; exact event_fits h fun _ hs => .ite (.restartReset _) hs
    | secondEvent => cases he; exact event_fits h fun _ hs => hs.secondEvent
    | speechWarning i =>
      cases he
      exact event_fits h fun s hs => (hs.ofOuter (outer_warningCheck i s) (hs.logFits.warningCheck i)).change
    | speechLimit i =>
      cases he
      exact event_fits h fun s hs => (hs.ofOuter (outer_limitCheck i s) (hs.logFits.limitCheckAs _ i)).change
    | allowanceReached i =>
      cases he
      exact event_fits h fun s hs => (hs.ofOuter (outer_allowanceCheck i s) (hs.logFits.allowanceCheckAs _ i)).change
    | minuteEvent => cases he; exact event_fits h fun _ hs => hs.minuteEvent
    | lineSleep l => cases he; exact event_fits h fun _ hs => hs.sleepCheck l
    | storeProgramComplete wear =>
      cases he
      refine event_fits h fun s hs => ?_
      split
      · exact hs.completeOrphan _ wear
      · exact hs.completeProgram _ wear
      · exact hs
    | storeReadComplete wear =>
      cases he
      refine event_fits h fun s hs => ?_
      split
      · exact (hs.takeRead wear).completeGetBooking _ _
      · exact (hs.takeRead wear).completeExtendRead _
      · exact hs
    | rosterLoadComplete wear =>
      cases he
      refine event_fits h fun s hs => ?_
      split
      · exact (hs.takeRead wear).completeRosterRead _
      · exact hs
    | eraseComplete o =>
      cases he
      refine event_fits h fun s hs => ?_
      split
      · exact hs.completeErase _ o
      · exact hs
    | scanComplete wear failures => cases he; exact event_fits h fun _ hs => .ite (hs.completeScan wear failures) hs
    | pollAnswer l a =>
      cases he
      refine event_fits h fun s hs => ?_
      split
      · split
        · exact hs.endPoll l _ _ _
        · exact hs
      · exact hs
    | fetchAnswer l a =>
      cases he
      refine event_fits h fun s hs => ?_
      split
      · split
        · exact hs.endFetch l _ _
        · exact hs
      · exact hs
    | orderAcknowledged l a =>
      cases he
      refine event_fits h fun s hs => ?_
      split
      · split
        · exact hs.endOrder l _ _ _
        · exact hs
      · exact hs
    | exchangeFailure l a =>
      cases he
      refine event_fits h fun s hs => ?_
      split
      · split
        · exact hs
        · exact hs.failPoll l _ _ _
      · split
        · exact hs
        · exact hs.failFetch l _ _
      · split
        · exact hs
        · exact hs.failOrder l _ _ _
      · exact hs
    | bitError l =>
      cases he
      refine event_fits h fun s hs => ?_
      split
      · exact hs.abandonExchange l _
      · exact hs
    | resyncGapEnd l =>
      cases he
      refine event_fits h fun s hs => ?_
      split
      · exact hs.endGap l _
      · exact hs
    | lineFault l cause =>
      cases he
      refine event_fits h fun s hs => ?_
      split
      · exact .ite (hs.enterFault l _) hs
      · exact .ite (hs.enterFault l _) hs
    | wakeDelimiterEnd l => cases he; exact event_fits h fun _ hs => .ite (hs.endDelimiter l) hs
    | wakeRequest l => cases he; exact event_fits h fun _ hs => .ite (hs.wakeLine l) hs
    | lineRetryEnd l r => cases he; exact event_fits h fun _ hs => .ite (hs.endRetry l r) hs
    | assignAnswer l a =>
      cases he
      refine event_fits h fun s hs => ?_
      split
      · exact hs.endAssign l _ a
      · exact hs
    | confirmingPoll l a =>
      cases he
      refine event_fits h fun s hs => ?_
      split
      · exact hs.endConfirmPoll l _ a
      · exact hs
    | screenPoll l a =>
      cases he
      refine event_fits h fun s hs => ?_
      split
      · exact hs.endScreenPoll l _ a
      · exact hs
    | unassign l => cases he; exact event_fits h fun _ hs => .ite (hs.endUnassign l) hs
    | sleep l => cases he; exact event_fits h fun _ hs => .ite (hs.endSleep l) hs
    | hostByteReceived b => cases he; exact event_fits h fun _ hs => hs.receiveByte b
    | lineGoesHigh l => cases he; exact event_fits h fun _ hs => hs.modLine l _
    | powerLoss units torn =>
      cases he
      split
      · exact ⟨HostLink.initial_sound, ⟨Nat.zero_le _, Nat.zero_le _⟩⟩
      · exact h
    | _ => cases hr

/-- Settles O59: each command is an event or a request, every operation it is made of keeps the capacities, and the
transmitter's choice that ends it leaves no frame waiting for an idle line. -/
theorem capacitiesKept : Obligations.CapacitiesKept := by
  unfold Obligations.CapacitiesKept
  intro s t hl hr hs
  have h : s.Fits := ⟨hl, hr⟩
  unfold step at hs
  split at hs
  · cases hs
    exact h
  · next c rest _ =>
    have hp : (s.setPending rest).Fits := h
    exact exec_fits hp hs

end Sys2Proof.Machine
end

section
/-! READ_LOG and the log's own rule (R50 to R52). -/

open Sys2Proof Sys2Proof.Machine

namespace Sys2Proof.Machine

theorem exec_readLog (tag : Byte) (p : List Byte) (s : State) :
    exec (.readLog tag p) s = .next (hostRequest ⟨0x08, tag, p⟩ (reqReadLog tag p) s) := rfl

/-- The number that READ_LOG asks for, within 1 to 8 (R51, R205). -/
theorem clampTo_readLog (n : Nat) : clampTo 1 8 n = if n = 0 then 1 else if 8 < n then 8 else n := by
  unfold clampTo
  split_ifs <;> omega

/-- A record as R222 lays it out, its flag byte by the two flags it has. -/
theorem recordBytes_eq (r : LogRecord) : recordBytes r =
    put2 r.booking ++ put1 r.seat.val ++ putOptional r.attendee ++ put4 r.openStamp ++ put2 r.duration
      ++ put1 (closeNumber r.reason) ++ put1 ((if r.overran then 1 else 0) + (if r.wasMuted then 2 else 0)) := by
  unfold recordBytes recordFlags flagByte
  cases r.overran <;> cases r.wasMuted <;> rfl

/-- What is taken of a log leaves the rest, and nothing where as many records were asked for as there are. -/
theorem drainLog_eq (n : Nat) (s : State) : drainLog n s = { s with
    log := ⟨s.log.records.drop n, 0⟩
    link := { s.link with marks := { s.link.marks with
      log := if s.log.records.length ≤ n then false else s.link.marks.log } } } := by
  unfold drainLog
  simp only [List.drop_eq_nil_iff]
  split <;> rfl

theorem reqReadLog_eq (tag b : Byte) (s : State) (n : Nat) (hn : n = clampTo 1 8 b.toNat) :
    reqReadLog tag [b] s = reply 0x08 tag (if n = b.toNat then .ok else .okClamped)
      (put1 (min n s.log.records.length) ++ put1 (s.log.records.length - n) ++ put1 s.log.dropped
        ++ (s.log.records.take n).flatMap recordBytes) (drainLog n s) := by
  have hb : num1 [b] 0 = b.toNat := rfl
  have hleft : s.log.records.length - min n s.log.records.length = s.log.records.length - n := by omega
  have hr : okOr (n != b.toNat) = if n = b.toNat then .ok else .okClamped := by
    by_cases h : n = b.toNat <;> simp [okOr, h]
  simp only [reqReadLog, fixedForm, List.length_singleton, if_true, hb, ← hn, List.length_take, hleft, hr]

/-- Settles O18: READ_LOG's reply is formed of what it takes, and a push by the room the log has. -/
theorem logKeepsNewest : Obligations.LogKeepsNewest := by
  unfold Obligations.LogKeepsNewest
  refine ⟨fun s tag hready => ⟨fun b n hn => ?_, fun p hp => ?_⟩, fun l r => ⟨fun hl => ?_, fun old rest hr hl => ?_⟩⟩
  · have hf := reqReadLog_eq tag b s.taken n (hn.trans (clampTo_readLog _).symm)
    rw [drainLog_eq, funext recordBytes_eq] at hf
    rw [exec_readLog, hostRequest_reply _ hready hf hready.1.2.2.1 rfl rfl]
    rfl
  · have hf : reqReadLog tag p s.taken = reply 0x08 tag .badLength [] s.taken := fixedForm_badLength hp _ _
    rw [exec_readLog, hostRequest_answer _ hready hf]
  · exact if_pos hl
  · have hpush : l.push r = _ := if_neg (Nat.not_lt.mpr hl)
    rw [hpush, hr]
    rfl

end Sys2Proof.Machine
end

section
/-! FRAME_SENT: the frame that follows, and the fields of each notice as they stand (R206 to R209). -/

open Sys2Proof Sys2Proof.Machine

namespace Sys2Proof.Machine

theorem exec_frameSent (s : State) : exec .frameSent s = .next (event endFrame s) := rfl

/-! ## The fields of a notice -/

theorem faultBytes_eq (n : Option FaultNote) : faultBytes n = faultFields n := by
  cases n with
  | none => rfl
  | some n =>
    cases n with
    | lineFault l c => cases l <;> rfl
    | _ => rfl

/-- A speaker entry as R222 lays it out, its flag byte by the five flags it has. -/
theorem speakerBytes_eq (e : SpeakerEntry) : speakerBytes e =
    put1 e.seat.val ++ put4 e.openStamp ++ put2 e.elapsed
      ++ put1 ((if e.muted then 1 else 0) + (if e.wasMuted then 2 else 0) + (if e.chairClass then 4 else 0)
        + (if e.warned then 8 else 0) + (if e.overran then 16 else 0)) := by
  unfold speakerBytes speakerFlags flagByte
  generalize e.muted = m, e.wasMuted = w, e.chairClass = c, e.warned = n, e.overran = o
  congr 2
  revert m w c n o
  decide

theorem floorBody_eq (f : Floor) : floorBody f = floorFields f := by
  unfold floorBody floorFields requestBytes
  rw [funext speakerBytes_eq]

theorem seatBody_seat (i : SeatId) (s : State) : seatBody (.seat i) s = s.seatFields i := by
  simp [seatBody, State.seatFields, stationNumber, State.presence, State.kind]

theorem seatBody_screen (j : ScreenId) (s : State) : seatBody (.screen j) s = s.screenFields j := rfl

theorem unitOf_seat (i : SeatId) : unitOf i.val = .seat i := by
  have h : Fin.ofNat 64 i.val = i := Fin.ext (Nat.mod_eq_of_lt i.isLt)
  rw [unitOf, if_pos i.isLt, h]

theorem unitOf_screen (j : ScreenId) : unitOf (64 + j.val) = .screen j := by
  have h : Fin.ofNat 4 j.val = j := Fin.ext (Nat.mod_eq_of_lt j.isLt)
  rw [unitOf, if_neg (by omega), Nat.add_sub_cancel_left, h]

/-! ### SPEECH (R47) -/

/-- The first six bytes of a SPEECH notice: the seat, and its entry where it is SPEAKING. -/
theorem speechNoticeBody_take (i : SeatId) (s : State) : (speechNoticeBody i s).take 6 =
    put1 i.val ++ putYesNo (s.speaker i).isSome ++ put2 (((s.speaker i).map (·.elapsed)).getD 0)
      ++ putYesNo (((s.speaker i).map (·.warned)).getD false)
      ++ putYesNo (((s.speaker i).map (·.overran)).getD false) := rfl

/-- Behind them the bound attendee and its spoken total. -/
theorem speechNoticeBody_drop (i : SeatId) (s : State) : (speechNoticeBody i s).drop 6 =
    putOptional (s.boundAttendee i)
      ++ (match (s.boundAttendee i).bind s.rosterEntry with
        | some r => put2 r.total
        | none => Config.absentField 2) := rfl

/-- A SPEECH notice carries the entry of its seat and the spoken total of the attendee bound there. -/
theorem speechNoticeBody_fields (i : SeatId) (s : State) :
    (∀ e ∈ s.floor.speakers.find? (fun e => decide (e.seat = i)), (speechNoticeBody i s).take 6 =
      put1 i.val ++ [1] ++ put2 e.elapsed ++ putYesNo e.warned ++ putYesNo e.overran)
    ∧ (s.speaking i = false → (speechNoticeBody i s).take 6 = put1 i.val ++ [0] ++ put2 0 ++ [0, 0])
    ∧ (∀ (a : Nat) (r : RosterEntry), s.boundAttendee i = some a → s.rosterEntry a = some r →
        (speechNoticeBody i s).drop 6 = put1 a ++ put2 r.total)
    ∧ (s.boundAttendee i = none → ((speechNoticeBody i s).drop 6).take 1 = [0xFF]) := by
  rw [speechNoticeBody_take, speechNoticeBody_drop]
  refine ⟨fun e he => ?_, fun h => ?_, fun a r ha hr => ?_, fun ha => ?_⟩
  · have hs : s.speaker i = some e := he
    rw [hs]
    rfl
  · rw [(speaker_eq_none_iff s i).mpr h]
    rfl
  · simp [ha, hr, putOptional]
  · rw [ha]
    rfl

/-! ## The notice that is due -/

/-- The body of a notice by its kind byte (R207). -/
def noticeBody (kind : Byte) (s : State) : List Byte :=
  if kind = 0x60 then faultNoticeBody s
  else if kind = 0x61 then meetingNoticeBody s
  else if kind = 0x62 then floorNoticeBody s
  else if kind = 0x63 then seatBody (unitOf (s.link.marks.seats.headD 0)) s
  else if kind = 0x64 then speechNoticeBody (Fin.ofNat 64 (s.link.marks.speeches.headD 0)) s
  else if kind = 0x65 then storeNoticeBody s
  else logNoticeBody s

/-- What a notice that is due carries of a state, and which counts go with it (R47, R52, R115, R134, R180, R208, R209). -/
structure DueNotice.Carries (d : DueNotice) (s : State) : Prop where
  body : d.body = noticeBody d.kind s
  faultNote : d.after.link.faultNote = s.link.faultNote
  faultCount : d.after.link.faultCount = if d.kind = 0x60 then 0 else s.link.faultCount
  closeCount : d.after.link.closeCount = if d.kind = 0x62 then 0 else s.link.closeCount
  lastClose : d.after.link.lastClose = if d.kind = 0x62 then none else s.link.lastClose

theorem dueNotice_carries {s : State} {d : DueNotice} (h : dueNotice s = some d) : d.Carries s := by
  unfold dueNotice at h
  dsimp only at h
  split_ifs at h <;> cases h <;> exact ⟨rfl, rfl, rfl, rfl, rfl⟩

/-- The first notice that is enabled and marked, in the order of R206. -/
theorem dueNotice_order (s : State) :
    (dueNotice s).map (fun d => (FrameClass.notice, d.kind, (0 : Byte))) =
      let on := s.link.enables
      let m := s.link.marks
      if on.fault ∧ m.fault then some (.notice, 0x60, 0)
      else if on.meeting ∧ m.meeting then some (.notice, 0x61, 0)
      else if on.floor ∧ m.floor then some (.notice, 0x62, 0)
      else if on.seat ∧ m.seats ≠ [] then some (.notice, 0x63, 0)
      else if on.speech ∧ m.speeches ≠ [] then some (.notice, 0x64, 0)
      else if on.store ∧ m.store then some (.notice, 0x65, 0)
      else if on.log ∧ m.log then some (.notice, 0x66, 0)
      else none := by
  unfold dueNotice
  dsimp only
  split_ifs <;> rfl

/-- The mark of that notice is cleared; of SEAT and SPEECH the lowest unit leaves its set (R207). -/
theorem dueNotice_marks (s : State) :
    ((dueNotice s).elim s (·.after)).link.marks =
      let on := s.link.enables
      let m := s.link.marks
      if on.fault ∧ m.fault then { m with fault := false }
      else if on.meeting ∧ m.meeting then { m with meeting := false }
      else if on.floor ∧ m.floor then { m with floor := false }
      else if on.seat ∧ m.seats ≠ [] then { m with seats := m.seats.drop 1 }
      else if on.speech ∧ m.speeches ≠ [] then { m with speeches := m.speeches.drop 1 }
      else if on.store ∧ m.store then { m with store := false }
      else if on.log ∧ m.log then { m with log := false }
      else m := by
  unfold dueNotice
  dsimp only
  split_ifs <;> rfl

/-- What a notice of each kind carries, field by field. -/
theorem noticeBody_fields (s : State) :
    noticeBody 0x60 s = faultFields s.link.faultNote ++ put1 s.link.faultCount
    ∧ noticeBody 0x62 s = floorFields s.floor ++ put1 s.link.closeCount
        ++ putOptional (s.link.lastClose.map (·.1.val)) ++ putOptional (s.link.lastClose.map fun x => closeNumber x.2)
    ∧ (∀ i : SeatId, s.link.marks.seats.head? = some i.val → noticeBody 0x63 s = s.seatFields i)
    ∧ (∀ j : ScreenId, s.link.marks.seats.head? = some (64 + j.val) → noticeBody 0x63 s = s.screenFields j)
    ∧ (∀ i : SeatId, s.link.marks.speeches.head? = some i.val → noticeBody 0x64 s = speechNoticeBody i s) := by
  have head {n : Nat} {l : List Nat} (h : l.head? = some n) : l.headD 0 = n := by
    rw [List.headD_eq_head?_getD, h, Option.getD_some]
  have seat : noticeBody 0x63 s = seatBody (unitOf (s.link.marks.seats.headD 0)) s := rfl
  have speech : noticeBody 0x64 s = speechNoticeBody (Fin.ofNat 64 (s.link.marks.speeches.headD 0)) s := rfl
  refine ⟨?_, ?_, fun i hi => ?_, fun j hj => ?_, fun i hi => ?_⟩
  · rw [← faultBytes_eq]
    rfl
  · rw [← floorBody_eq]
    rfl
  · rw [seat, head hi, unitOf_seat, seatBody_seat]
  · rw [seat, head hj, unitOf_screen, seatBody_screen]
  · rw [speech, head hi]
    exact congrArg (speechNoticeBody · s) (Fin.ext (Nat.mod_eq_of_lt i.isLt))

/-! ## The end of a frame -/

/-- The state with the frame on the line ended and a number of requests outstanding (R202, R206). -/
def State.lineEnded (n : Nat) (s : State) : State := s.setLink { s.link with onLine := none, outstanding := n }

theorem endFrame_eq {s : State} {f : OutFrame} (h : s.link.onLine = some f) (hf : f.cls ≠ .restartReply) :
    endFrame s = s.lineEnded (if f.cls = .reply then s.link.outstanding - 1 else s.link.outstanding) := by
  unfold endFrame
  rw [h]
  dsimp only
  split
  · next hc => exact absurd hc hf
  · next hc => rw [if_pos hc]; rfl
  · next hc => rw [if_neg hc]; rfl

theorem lineEnded_kept (n : Nat) (s : State) : KeptBut [.transmitter, .marks] s (s.lineEnded n) := by
  intro b hb
  cases b <;> simp at hb <;> simp [Block.Same, State.lineEnded]

/-- An idle transmitter for which no frame waits begins the notice that is due. -/
theorem chooseFrame_of_notice {s : State} {d : DueNotice} (ho : s.link.onLine = none) (hw : s.link.waiting = [])
    (hd : dueNotice s = some d) :
    chooseFrame s = d.after.modLink fun k => { k with onLine := some ⟨.notice, ⟨d.kind, 0, d.body⟩⟩ } := by
  simp [chooseFrame, ho, hw, hd]

theorem chooseFrame_of_quiet {s : State} (ho : s.link.onLine = none) (hw : s.link.waiting = [])
    (hd : dueNotice s = none) : chooseFrame s = s := by
  simp [chooseFrame, ho, hw, hd]

/-- Settles O9: with the frame ended the transmitter is idle, so it begins the oldest frame that waits, and where none
waits the first notice that is due, whose body is that of its kind. -/
theorem frameSentBeginsNext : Obligations.FrameSentBeginsNext := by
  unfold Obligations.FrameSentBeginsNext
  intro s f hp hq hr ho hf
  set n := if f.cls = .reply then s.link.outstanding - 1 else s.link.outstanding with hn
  have hexec : exec .frameSent s = .next (chooseFrame (s.lineEnded n)) := by
    have he := endFrame_eq ho hf
    rw [exec_frameSent, event_of_atRest endFrame hp (by rw [he]; exact hq) (by rw [he]; exact hr), he]
  have hkept := (lineEnded_kept n s).trans (chooseFrame_kept (s.lineEnded n))
  refine ⟨_, hexec, hkept, ?_⟩
  have hidle : (s.lineEnded n).link.onLine = none := rfl
  cases hw : s.link.waiting with
  | cons g rest =>
    rw [chooseFrame_of_waiting hidle (show (s.lineEnded n).link.waiting = g :: rest from hw)]
    refine ⟨rfl, rfl, fun g' rest' he => ?_, nofun, fun _ => nofun, rfl, ?_⟩
    · cases he
      exact ⟨rfl, rfl, rfl⟩
    · exact ⟨fun h => (nomatch h.1), fun _ => rfl, fun h => (nomatch h.1), fun _ => ⟨rfl, rfl⟩⟩
  | nil =>
    have hwait : (s.lineEnded n).link.waiting = [] := hw
    have horder := dueNotice_order (s.lineEnded n)
    have hmarks := dueNotice_marks (s.lineEnded n)
    cases hd : dueNotice (s.lineEnded n) with
    | none =>
      rw [hd] at horder hmarks
      rw [chooseFrame_of_quiet hidle hwait hd]
      refine ⟨rfl, rfl, fun _ _ => nofun, fun _ => ⟨hw, horder, hmarks⟩, fun _ _ => nofun, rfl, ?_⟩
      exact ⟨fun ⟨_, _, h, _⟩ => (nomatch h), fun _ => rfl, fun ⟨_, _, h, _⟩ => (nomatch h), fun _ => ⟨rfl, rfl⟩⟩
    | some d =>
      rw [hd] at horder hmarks
      obtain ⟨hbody, hnote, hfaults, hcloses, hlast⟩ := dueNotice_carries hd
      obtain ⟨bfault, bfloor, bseat, bscreen, bspeech⟩ := noticeBody_fields (s.lineEnded n)
      obtain ⟨m, faults, closes, last, hafter⟩ := dueNotice_after_eq hd
      rw [chooseFrame_of_notice hidle hwait hd]
      refine ⟨?_, ?_, fun _ _ => nofun, fun _ => ⟨?_, horder, hmarks⟩, fun g _ hg => ?_, hnote, ?_⟩
      · rw [hafter]; rfl
      · rw [hafter]; rfl
      · rw [hafter]; exact hw
      · cases hg
        dsimp only
        rw [hbody]
        refine ⟨fun hk => ?_, fun hk => ?_, fun hk => ?_, fun hk => ?_, fun hk i hi => ?_, fun hk => ?_, fun hk => ?_⟩
        · rw [hk]; exact bfault
        · rw [hk]; rfl
        · rw [hk]; exact bfloor
        · rw [hk]; exact ⟨bseat, bscreen⟩
        · rw [hk, bspeech i hi]; exact speechNoticeBody_fields i (s.lineEnded n)
        · rw [hk]; rfl
        · rw [hk]; rfl
      · have hbegins (kind : Byte) : ([] = ([] : List OutFrame) ∧ ∃ g : OutFrame,
            (some ⟨.notice, ⟨d.kind, 0, d.body⟩⟩ : Option OutFrame) = some g ∧ g.frame.kind = kind) ↔ d.kind = kind := by
          simp
        refine ⟨fun h => ?_, fun h => ?_, fun h => ?_, fun h => ?_⟩
        · exact hfaults.trans (if_pos ((hbegins _).mp h))
        · exact hfaults.trans (if_neg (mt (hbegins _).mpr h))
        · exact ⟨hcloses.trans (if_pos ((hbegins _).mp h)), hlast.trans (if_pos ((hbegins _).mp h))⟩
        · exact ⟨hcloses.trans (if_neg (mt (hbegins _).mpr h)), hlast.trans (if_neg (mt (hbegins _).mpr h))⟩

end Sys2Proof.Machine
end

section
/-! The speech timer's events: the warning, the limit and the allowance at one open speech (R39, R40, R42). -/

open Sys2Proof Sys2Proof.Machine

namespace Sys2Proof.Machine

theorem exec_speechWarning (i : SeatId) (s : State) :
    exec (.speechWarning i) s = .next (event (change (warningCheck i)) s) := rfl

theorem exec_speechLimit (i : SeatId) (s : State) :
    exec (.speechLimit i) s = .next (event (change (limitCheck i)) s) := rfl

theorem exec_allowanceReached (i : SeatId) (s : State) :
    exec (.allowanceReached i) s = .next (event (change (allowanceCheck i)) s) := rfl

/-! ## Pending sets (R207) -/

/-- A unit that joins a pending set is in it, and those that were stay. -/
theorem mem_insertUnit {m n : Nat} {l : List Nat} : m ∈ insertUnit n l ↔ m = n ∨ m ∈ l := by
  induction l with
  | nil => simp [insertUnit]
  | cons x l ih =>
    unfold insertUnit
    split
    · simp
    · split
      · next h => subst h; simp
      · simp [ih, or_left_comm]

/-! ## Events of the floor at a calm part -/

section events
variable {s : State} (h : s.Calm) {f : State → State}
include h

/-- A step that changes nothing leaves a calm part as it was. -/
theorem event_change_of_same (hf : f s = s) : event (change f) s = s := by
  obtain ⟨hp, hq, hr, ht⟩ := h
  have hc : change f s = s := change_of_same hf
  rw [event_of_atRest (change f) hp (by rw [hc]; exact hq) (by rw [hc]; exact hr), hc, chooseFrame_of_settled ht]

/-- A steady step of the floor: its change is handed on and the transmitter chooses. -/
theorem event_change_of_steady (hf : Steady s (f s)) : event (change f) s = chooseFrame (change f s) := by
  have ho : (change f s).outer = s.outer := (outer_change f s).trans hf.outer
  exact event_of_atRest (change f) h.1 ((outer_queue ho).trans h.2.1) (by rw [outer_store ho]; exact h.2.2.1)

end events

/-- What a steady step of the floor has led to at the end of its event: `u` is what the step itself left. -/
structure FloorEvent (s u t : State) : Prop where
  kept : KeptBut [.log, .floor, .seats, .screens, .transmitter, .marks] s t
  floor : t.floor = u.floor
  log : t.log = u.log
  speeches : (∃ g, s.link.onLine = some g) → t.link.marks.speeches = u.link.marks.speeches

theorem change_speeches {f : State → State} {s : State} (hf : Steady s (f s)) :
    (change f s).link.marks.speeches = (f s).link.marks.speeches := by
  have := finishChange_keeps (·.link.marks.speeches) (fun _ _ => rfl) (fun _ => rfl) (fun _ _ => rfl) (fun _ _ => rfl)
    false s (f s)
  rwa [hf.roleConsequences] at this

theorem floorEvent {s : State} (h : s.Calm) {f : State → State} (hf : Steady s (f s)) :
    FloorEvent s (f s) (event (change f) s) := by
  have hk := chooseFrame_kept (change f s)
  have hh := hf.handed
  rw [event_change_of_steady h hf]
  refine ⟨?_, ?_, ?_, fun ⟨g, hg⟩ => ?_⟩
  · exact ((outer_keptBut ((outer_change f s).trans hf.outer) ((seq_change f s).trans hf.seq)).mono (by decide)).trans
      (hk.mono (by decide))
  · exact Eq.trans (hk.same .floor (by decide)) hh.floor
  · exact Eq.trans (hk.same .log (by decide)) hh.log
  · rw [chooseFrame_of_busy ((outer_onLine ((outer_change f s).trans hf.outer)).trans hg)]
    exact change_speeches hf

/-! ## The checks of one entry (R39, R40, R42) -/

/-- The floor with the timing flags of one seat's entry written. -/
def Floor.flagged (f : Floor) (i : SeatId) (warned overran : Bool) : Floor :=
  { f with speakers := f.speakers.map fun x => if x.seat = i then { x with warned := warned, overran := overran } else x }

section checks
variable {s : State} {i : SeatId} {e : SpeakerEntry} (he : s.speaker i = some e)
include he

theorem setTiming_of_change {w o : Bool} (h : ¬ (e.warned = w ∧ e.overran = o)) :
    setTiming i w o s = markSpeech i (s.setFloor (s.floor.flagged i w o)) := by
  unfold setTiming
  rw [he]
  exact if_neg h

theorem warningCheck_eq (hc : e.chairClass = false) : warningCheck i s =
    if 0 < s.floor.policy.speechLimit ∧ s.floor.policy.speechLimit - s.floor.policy.warningLead ≤ e.elapsed
      ∧ e.warned = false ∧ e.overran = false
    then markSpeech i (s.setFloor (s.floor.flagged i true false)) else s := by
  unfold warningCheck Policy.warningPoint
  rw [he]
  simp only [hc]
  split_ifs with h1 h2 h2
  · refine setTiming_of_change he fun h => ?_
    rw [h.1] at h2
    exact Bool.noConfusion h2.2.2.1
  · simp_all
  · simp_all
  · rfl

theorem limitCheckAs_eq (w : SeatId → Option Nat) (hc : e.chairClass = false) : limitCheckAs w i s =
    if 0 < s.floor.policy.speechLimit ∧ s.floor.policy.speechLimit ≤ e.elapsed ∧ e.overran = false
    then match s.floor.policy.atLimit with
      | .close => closeAdvanceAs w .timeUp i s
      | .warn => markSpeech i (s.setFloor (s.floor.flagged i true true))
    else s := by
  unfold limitCheckAs
  rw [he]
  simp only [hc]
  split_ifs with h1 h2 h2
  · cases s.floor.policy.atLimit with
    | close => rfl
    | warn =>
      refine setTiming_of_change he fun h => ?_
      rw [h.2] at h2
      exact Bool.noConfusion h2.2.2
  · simp_all
  · simp_all
  · rfl

theorem allowanceCheck_eq (hc : e.chairClass = false) :
    allowanceCheck i s = if s.attendeeBarred i then closeAdvance .allowance i s else s := by
  unfold allowanceCheck allowanceCheckAs
  rw [he]
  simp [hc, closeAdvance]

end checks

/-- The checks of a seat that is not SPEAKING or is chair-class change nothing (R43). -/
theorem checks_of_no_ordinary {s : State} {i : SeatId}
    (h : ∀ e ∈ s.floor.speakers, e.seat = i → e.chairClass = true) :
    warningCheck i s = s ∧ limitCheck i s = s ∧ allowanceCheck i s = s := by
  unfold warningCheck limitCheck limitCheckAs allowanceCheck allowanceCheckAs
  cases hs : s.speaker i with
  | none => exact ⟨rfl, rfl, rfl⟩
  | some e =>
    have hseat : e.seat = i := by simpa using List.find?_some (p := fun e : SpeakerEntry => e.seat == i) hs
    have hc := h e (List.mem_of_find?_eq_some hs) hseat
    simp [hc]

/-- The attendee bound at a seat bars it by the allowance and its spoken total alone (R43). -/
theorem attendeeBarred_of_bound {s : State} {i : SeatId} {a : Nat} {l : List RosterEntry} {r : RosterEntry}
    (hc : (s.seat i).card.state = .bound) (ha : (s.seat i).card.attendee = some a) (hl : s.seq.roster = some l)
    (hr : l[a]? = some r) :
    s.attendeeBarred i = decide (0 < s.floor.policy.allowance ∧ s.floor.policy.allowance ≤ r.total) := by
  simp [State.attendeeBarred, State.boundAttendee, State.rosterEntry, hc, ha, hl, hr]

theorem attendeeBarred_of_not_bound {s : State} {i : SeatId} (hc : (s.seat i).card.state ≠ .bound) :
    s.attendeeBarred i = false := by
  simp [State.attendeeBarred, State.boundAttendee, hc]

/-! ## What the events come to -/

/-- An event has closed one entry: its record is in the log with the flags of the entry. -/
def SpeechClosed (e : SpeakerEntry) (r : CloseReason) (s t : State) : Prop :=
  t.log = s.log.push (s.logRecord e r) ∧ t.speaking e.seat = false
    ∧ (s.logRecord e r).warned = e.warned ∧ (s.logRecord e r).overran = e.overran
    ∧ KeptBut [.floor, .log, .seats, .screens, .transmitter, .marks] s t

/-- An event has written the timing flags of one entry: its seat is in the SPEECH set where the transmitter is busy. -/
def SpeechFlagged (i : SeatId) (warned overran : Bool) (s t : State) : Prop :=
  t.floor = s.floor.flagged i warned overran
    ∧ KeptBut [.floor, .seats, .screens, .transmitter, .marks] s t
    ∧ ((∃ g, s.link.onLine = some g) → i.val ∈ t.link.marks.speeches)

theorem event_flagged {s : State} (h : s.Calm) {f : State → State} {i : SeatId} {w o : Bool}
    (hf : f s = markSpeech i (s.setFloor (s.floor.flagged i w o))) : SpeechFlagged i w o s (event (change f) s) := by
  have hst : Steady s (f s) := by
    rw [hf]
    have hw : Steady s (s.setFloor (s.floor.flagged i w o)) := .ofFloor rfl rfl
    exact hw.trans (markSpeech_steady i _)
  have he := floorEvent h hst
  rw [hf] at he
  refine ⟨he.floor, he.kept.drop he.log, fun hg => ?_⟩
  rw [he.speeches hg]
  exact mem_insertUnit.mpr (.inl rfl)

theorem event_closed {s : State} (h : s.Calm) (hs : s.floor.Sound) {e : SpeakerEntry} (he : e ∈ s.floor.speakers)
    {f : State → State} {r : CloseReason} (hf : f s = closeAdvance r e.seat s) :
    SpeechClosed e r s (event (change f) s) := by
  have hst : Steady s (f s) := by
    rw [hf]
    exact closeAdvance_steady r e.seat s
  have hc := closeAdvance_closed hs he r
  have hev := floorEvent h hst
  rw [hf] at hev
  exact ⟨hev.log.trans hc.log, (speaking_of_floor hev.floor e.seat).trans hc.gone, rfl, rfl, hev.kept.mono (by decide)⟩

/-- Settles O42: each check is one write of the flags, one close, or nothing, and its event hands that on. -/
theorem speechChecksAct : Obligations.SpeechChecksAct := by
  unfold Obligations.SpeechChecksAct
  refine ⟨fun s i e hcalm _ hsound he hi hc => ?_, fun s i hcalm hnone => ?_⟩
  · subst hi
    have hsp := speaker_of_mem hsound.speakersOnce he
    have hwarn := warningCheck_eq hsp hc
    have hlimit : limitCheck e.seat s = _ := limitCheckAs_eq hsp s.boundAttendee hc
    have hallow := allowanceCheck_eq hsp hc
    refine ⟨fun h => ?_, fun h => ?_, fun h => ?_, fun h => ?_, fun a l r hb ha hl hr => ⟨fun h => ?_, fun h => ?_⟩,
      fun h => ?_⟩
    · exact ⟨_, exec_speechWarning e.seat s, event_flagged hcalm (hwarn.trans (if_pos h))⟩
    · rw [exec_speechWarning, event_change_of_same hcalm (hwarn.trans (if_neg h))]
    · rw [if_pos h] at hlimit
      refine ⟨_, exec_speechLimit e.seat s, fun hp => ?_, fun hp => ?_⟩
      · exact event_flagged hcalm (by rw [hlimit, hp])
      · exact event_closed hcalm hsound he (by rw [hlimit, hp]; rfl)
    · rw [exec_speechLimit, event_change_of_same hcalm (hlimit.trans (if_neg h))]
    · rw [attendeeBarred_of_bound hb ha hl hr, decide_eq_true h] at hallow
      exact ⟨_, exec_allowanceReached e.seat s, event_closed hcalm hsound he hallow⟩
    · rw [attendeeBarred_of_bound hb ha hl hr, decide_eq_false h] at hallow
      rw [exec_allowanceReached, event_change_of_same hcalm hallow]
    · rw [attendeeBarred_of_not_bound h] at hallow
      rw [exec_allowanceReached, event_change_of_same hcalm hallow]
  · obtain ⟨hw, hl, ha⟩ := checks_of_no_ordinary hnone
    rw [exec_speechWarning, exec_speechLimit, exec_allowanceReached, event_change_of_same hcalm hw,
      event_change_of_same hcalm hl, event_change_of_same hcalm ha]
    exact ⟨rfl, rfl, rfl⟩

end Sys2Proof.Machine
end

section
/-! The second event: the counts of the speeches and of the clock (R35, R36, R88). -/

open Sys2Proof Sys2Proof.Machine

namespace Sys2Proof.Machine

theorem exec_secondEvent (s : State) : exec .secondEvent s = .next (event secondEvent s) := rfl

theorem exec_minuteEvent (s : State) : exec .minuteEvent s = .next (event minuteEvent s) := rfl

/-! ## A change that nothing is to be handed on of -/

/-- Two states agree on all that a change hands on. -/
structure Unreported (s u : State) : Prop where
  roles : ∀ i, s.roleKey i = u.roleKey i
  bound : ∀ i, s.boundAttendee i = u.boundAttendee i
  levels : levelsDue s u = false
  seats : ∀ i, s.seatReport i = u.seatReport i
  screens : ∀ j, s.screen j = u.screen j
  floor : s.floorReport = u.floorReport
  labels : ∀ i, s.labelInputs i = u.labelInputs i
  status : ∀ i, s.statusInputs i = u.statusInputs i
  items : ∀ i, itemsDue s u i = false

theorem markSeatNotices_of_unreported {s u : State} (h : Unreported s u) : markSeatNotices s u = u := by
  unfold markSeatNotices
  dsimp only
  rw [foldl_id _ (fun t j => by rw [h.screens j]; exact if_pos ⟨rfl, rfl⟩)]
  exact foldl_id _ (fun t i => if_pos (h.seats i)) _ _

theorem markDisplays_of_unreported {s u : State} (h : Unreported s u) : markDisplays s u = u := by
  have hs : (Vector.ofFn fun i : SeatId => markSeatDisplays s u i u.seats[i]) = u.seats := by
    ext i hi
    simp [markSeatDisplays, h.roles, h.labels, h.status]
  have hc : u.screens.map (markItems u (itemsDue s u)) = u.screens := by
    ext i hi
    rw [funext h.items]
    simp [markItems_none]
  unfold markDisplays
  rw [hs, hc]
  rfl

theorem change_of_unreported {f : State → State} {s : State} (h : Unreported s (f s)) : change f s = f s := by
  unfold change finishChange
  dsimp only
  rw [roleConsequences_same h.roles h.bound, h.levels, Bool.or_false, if_neg Bool.false_ne_true,
    markSeatNotices_of_unreported h, if_pos h.floor, markDisplays_of_unreported h]

/-! ## The elapsed counts (R36) -/

/-- An entry with one second more. -/
def SpeakerEntry.older (e : SpeakerEntry) : SpeakerEntry := { e with elapsed := oneMore e.elapsed }

/-- The state with one second more at every speech. -/
def State.older (s : State) : State := s.setFloor { s.floor with speakers := s.floor.speakers.map SpeakerEntry.older }

theorem older_speaker (s : State) (i : SeatId) : s.older.speaker i = (s.speaker i).map SpeakerEntry.older := by
  unfold State.speaker State.older
  rw [State.setFloor_floor, List.find?_map]
  rfl

/-- The count of a second is no change of the lists (log entry 24), nor of a role, a level, a label or a status. -/
theorem older_unreported (s : State) : Unreported s s.older where
  roles _ := rfl
  bound _ := rfl
  levels := by
    refine List.any_eq_false.mpr fun i _ => ?_
    have hlive : s.older.live i = s.live i := by
      simp [State.live, State.older, List.any_map, Function.comp_def, SpeakerEntry.older]
    have hrole : s.older.roleKey i = s.roleKey i := rfl
    rw [older_speaker, hlive, hrole]
    cases s.speaker i <;> simp [SpeakerEntry.older]
  seats _ := rfl
  screens _ := rfl
  floor := by simp [State.floorReport, State.older, Function.comp_def, SpeakerEntry.older]
  labels _ := rfl
  status i := by
    have hentry := older_speaker s i
    unfold State.statusInputs
    rw [hentry]
    cases s.speaker i <;> rfl
  items i := by
    have hfloor : s.older.floorReport = s.floorReport := by
      simp [State.floorReport, State.older, Function.comp_def, SpeakerEntry.older]
    have hspeakers : s.older.speakerSlotInputs = s.speakerSlotInputs := by
      unfold State.speakerSlotInputs
      rw [hfloor]
      simp only [State.older, State.setFloor_floor, List.map_map, Function.comp_def, SpeakerEntry.older]
      rfl
    have hqueue : s.older.queueSlotInputs = s.queueSlotInputs := by
      unfold State.queueSlotInputs
      rw [hfloor]
      rfl
    have htitle : s.older.titleInputs = s.titleInputs := rfl
    have hclock : s.older.clockItem = s.clockItem := rfl
    unfold itemsDue
    rw [hspeakers, hqueue, htitle]
    split
    · simp
    · split
      · next h0 h1 => simp [State.itemKey, h1, hclock]
      · simp

/-- With neither a limit nor an allowance the check of an entry finds nothing (R37). -/
theorem timingCheckAs_of_untimed {s : State} (hl : s.floor.policy.speechLimit = 0) (ha : s.floor.policy.allowance = 0)
    (w : SeatId → Option Nat) (i : SeatId) : timingCheckAs w i s = s := by
  have hbar : s.attendeeBarred i = false := by
    unfold State.attendeeBarred
    split <;> simp [ha]
  have hallow : allowanceCheckAs w i s = s := by
    unfold allowanceCheckAs
    split <;> simp [hbar]
  have hlimit : limitCheckAs w i s = s := by
    unfold limitCheckAs
    split <;> simp [hl]
  have hwarn : warningCheck i s = s := by
    unfold warningCheck
    split <;> simp [hl]
  unfold timingCheckAs
  rw [hallow, hlimit, hwarn]

/-- Of a list that names each seat once a change of one seat's entry changes that entry alone. -/
theorem map_seat_eq {done rest : List SpeakerEntry} {e : SpeakerEntry} (hn : ((done ++ e :: rest).map (·.seat)).Nodup)
    (f : SpeakerEntry → SpeakerEntry) :
    (done ++ e :: rest).map (fun x => if x.seat = e.seat then f x else x) = done ++ f e :: rest := by
  rw [List.map_append, List.map_cons, List.nodup_append, List.nodup_cons] at hn
  obtain ⟨-, ⟨hrest, -⟩, hdone⟩ := hn
  have hid {l : List SpeakerEntry} (h : ∀ x ∈ l, x.seat ≠ e.seat) :
      l.map (fun x => if x.seat = e.seat then f x else x) = l :=
    (List.map_congr_left (g := id) fun x hx => if_neg (h x hx)).trans (List.map_id l)
  rw [List.map_append, List.map_cons, if_pos rfl,
    hid fun x hx h => hdone _ (List.mem_map_of_mem hx) _ List.mem_cons_self h,
    hid fun x hx h => hrest (List.mem_map.mpr ⟨x, hx, h⟩)]

/-- The state with another speaker list. -/
def State.withSpeakers (s : State) (l : List SpeakerEntry) : State := s.setFloor { s.floor with speakers := l }

/-- A second at one entry counts at that entry. -/
theorem secondAtEntry_of_untimed {s : State} (hl : s.floor.policy.speechLimit = 0) (ha : s.floor.policy.allowance = 0)
    {done rest : List SpeakerEntry} {e : SpeakerEntry} (hn : ((done ++ e :: rest).map (·.seat)).Nodup) :
    secondAtEntry (s.withSpeakers (done ++ e :: rest)) e = s.withSpeakers (done ++ e.older :: rest) := by
  have hsp : (s.withSpeakers (done ++ e :: rest)).speaker e.seat = some e :=
    speaker_of_mem (s := s.withSpeakers (done ++ e :: rest)) hn (by simp [State.withSpeakers])
  have hcount : modSpeaker e.seat (fun e => { e with elapsed := satAdd 65535 e.elapsed 1 })
      (s.withSpeakers (done ++ e :: rest)) = s.withSpeakers (done ++ e.older :: rest) :=
    congrArg s.withSpeakers (map_seat_eq hn SpeakerEntry.older)
  have ha' : (s.withSpeakers (done ++ e :: rest)).floor.policy.allowance = 0 := ha
  unfold secondAtEntry
  rw [hsp]
  simp only [ha', or_true, if_true, ne_eq, not_true_eq_false, if_false, hcount]
  exact timingCheckAs_of_untimed (s := s.withSpeakers (done ++ e.older :: rest)) hl ha _ _

/-- With neither a limit nor an allowance a second counts at every entry, and nothing else (R35, R36). -/
theorem secondAtFloor_of_untimed {s : State} (hl : s.floor.policy.speechLimit = 0) (ha : s.floor.policy.allowance = 0)
    (hn : (s.floor.speakers.map (·.seat)).Nodup) : secondAtFloor s = s.older := by
  have hfold (rest : List SpeakerEntry) : ∀ done : List SpeakerEntry, ((done ++ rest).map (·.seat)).Nodup →
      rest.foldl secondAtEntry (s.withSpeakers (done ++ rest))
        = s.withSpeakers (done ++ rest.map SpeakerEntry.older) := by
    induction rest with
    | nil => exact fun _ _ => rfl
    | cons e rest ih =>
      intro done hnodup
      rw [List.foldl_cons, secondAtEntry_of_untimed hl ha hnodup]
      have hseats : ((done ++ [e.older]) ++ rest).map (·.seat) = (done ++ e :: rest).map (·.seat) := by
        simp [SpeakerEntry.older]
      have := ih (done ++ [e.older]) (hseats ▸ hnodup)
      rwa [List.append_assoc, List.append_assoc] at this
  exact hfold s.floor.speakers [] hn

end Sys2Proof.Machine
end

section
/-! The second event at the lines and the minute it may bring (R88, R171, R186, R192). -/

open Sys2Proof Sys2Proof.Machine

namespace Sys2Proof.Machine

/-! ## The lines (R171, R192) -/

/-- The addresses of a line go by the presences of its units alone. -/
theorem addressesWith_of_presence {s t : State} (h : ∀ u, t.presence u = s.presence u) (l : LineId)
    (test : Presence → Bool) : t.addressesWith l test = s.addressesWith l test := by
  unfold State.addressesWith
  simp only [h]

theorem presence_of_units {s t : State} (hs : t.seats = s.seats) (hc : t.screens = s.screens) (u : Station) :
    t.presence u = s.presence u := by
  cases u with
  | seat i => exact congrArg (fun v : Vector SeatRec 64 => v[i].presence) hs
  | screen j => exact congrArg (fun v : Vector ScreenRec 4 => v[j].presence) hc

theorem address_pos {s : State} {l : LineId} {test : Presence → Bool} {n : Nat} (h : n ∈ s.addressesWith l test) :
    0 < n := by
  have hall : ∀ a ∈ addresses, 0 < a := by decide
  exact hall n (List.mem_of_mem_filter h)

section secondAtLine
variable {l : LineId} {s : State}

theorem secondAtLine_kept (l : LineId) (s : State) : KeptBut [Block.ofLine l] s (secondAtLine l s) := by
  have hset (x : Line) (s : State) : KeptBut [Block.ofLine l] s (s.setLine l x) := modLine_kept l (fun _ => x) s
  unfold secondAtLine
  dsimp only
  repeat' split
  · exact .refl _ s
  · exact hset _ s
  · exact .refl _ s
  · exact (hset _ s).trans (modLine_kept l _ _)
  · exact hset _ s
  · exact .refl _ s

theorem secondAtLine_of_busy (h : (s.line l).activity ≠ .none) : secondAtLine l s = s := if_pos h

theorem secondAtLine_of_fault (ha : (s.line l).activity = .none) (hs : (s.line l).state = .fault) :
    secondAtLine l s = s.setLine l { s.line l with activity := .retry, begun := false } := by
  simp [secondAtLine, ha, hs]

/-- A line that is no FAULT line, and no RUNNING line with LOST units, is left. -/
theorem secondAtLine_of_quiet (hf : (s.line l).activity = .none → (s.line l).state ≠ .fault)
    (hr : (s.line l).activity = .none → (s.line l).state = .running → s.lostAddresses l = []) :
    secondAtLine l s = s := by
  unfold secondAtLine
  dsimp only
  split
  · rfl
  · next ha =>
    have ha' := not_not.mp ha
    split
    · next h => exact absurd h (hf ha')
    · next h => rw [if_pos (hr ha' h)]
    · rfl

/-- A RUNNING line that waits with only LOST units begins a probing round with the lowest of them. -/
theorem secondAtLine_of_lost {n : Nat} {rest : List Nat} (ha : (s.line l).activity = .none)
    (hs : (s.line l).state = .running) (hserved : s.servedAddresses l = []) (hlost : s.lostAddresses l = n :: rest) :
    secondAtLine l s = s.setLine l { s.line l with
      activity := .exchange (.poll n true), begun := false
      round := ⟨if (s.line l).round.begun then ((s.line l).round.number + 1) % 8 else 0, true, true, 0, 0⟩ } := by
  have hpres : ∀ u, (beginRound l s).presence u = s.presence u :=
    presence_of_units (State.setLine_seats ..) (State.setLine_screens ..)
  have hpos : 0 < n := address_pos (s := s) (l := l) (test := (· == .lost)) (by
    rw [show s.addressesWith l (· == .lost) = n :: rest from hlost]; exact List.mem_cons_self)
  have hround : ((beginRound l s).line l).round
      = ⟨if (s.line l).round.begun then ((s.line l).round.number + 1) % 8 else 0, true, true, 0, 0⟩ := by
    simp [beginRound, State.newRound, hserved]
  have hpoll : (beginRound l s).pollInRound l = some (.poll n true) := by
    have h1 : (beginRound l s).servedAddresses l = [] := (addressesWith_of_presence hpres l _).trans hserved
    have h2 : (beginRound l s).lostAddresses l = n :: rest := (addressesWith_of_presence hpres l _).trans hlost
    simp [State.pollInRound, hround, h1, h2, hpos]
  have hne : s.lostAddresses l ≠ [] := by rw [hlost]; exact List.cons_ne_nil _ _
  have hstep : secondAtLine l s = putExchange l (.poll n true) (beginRound l s) := by
    simp [secondAtLine, ha, hs, hne, hpoll]
  have hline : (beginRound l s).line l = { s.line l with
      round := ⟨if (s.line l).round.begun then ((s.line l).round.number + 1) % 8 else 0, true, true, 0, 0⟩ } := by
    rw [← hround]
    simp [beginRound]
  rw [hstep, putExchange, State.modLine, hline]
  cases l <;> rfl

end secondAtLine

/-! ## A calm part stays so -/

/-- A part that differs in no block of the engine or the transmitter is as calm as it was. -/
theorem Calm.ofKept {m : List Block} {s t : State} (h : s.Calm) (hk : KeptBut m s t)
    (hm : ∀ b ∈ [Block.power, .inputQueue, .store, .transmitter, .enables, .marks], b ∉ m := by decide) : t.Calm := by
  obtain ⟨hp, hq, hr, ht⟩ := h
  obtain ⟨hpower, -⟩ : Block.power.Same s t := hk _ (hm _ (by decide))
  obtain ⟨hqueue, -⟩ : Block.inputQueue.Same s t := hk _ (hm _ (by decide))
  obtain ⟨-, hwait, hline, -⟩ : Block.transmitter.Same s t := hk _ (hm _ (by decide))
  obtain ⟨hmarks, -⟩ : Block.marks.Same s t := hk _ (hm _ (by decide))
  have hstore : t.store = s.store := hk .store (hm _ (by decide))
  have henables : t.link.enables = s.link.enables := hk .enables (hm _ (by decide))
  refine ⟨hpower.trans hp, hqueue.trans hq, by rw [hstore]; exact hr, ?_⟩
  rw [transmitterSettled_iff] at ht ⊢
  unfold HostLink.noticeDue at ht ⊢
  rwa [hline, hwait, hmarks, henables]

theorem settleLink_of_calm {s : State} (h : s.Calm) : settleLink s = s :=
  (settleLink_of_atRest h.2.1 h.2.2.1).trans (chooseFrame_of_settled h.2.2.2)

/-! ## The clock (R88) -/

theorem advanceClock_of_set {s : State} {c : Nat} (hc : s.clock = some c) : advanceClock s =
    if c < 4294967295 then
      if (c + 1) % 60 = 0 then minuteEvent (s.setClock (some (c + 1))) else s.setClock (some (c + 1))
    else s := by
  unfold advanceClock
  rw [hc]
  rfl

/-- Between minutes the clock goes up by 1, to its highest value. -/
theorem advanceClock_of_second {s : State}
    (h : ∀ c, s.clock = some c → c ≤ 4294967295 ∧ (c < 4294967295 → (c + 1) % 60 ≠ 0)) :
    advanceClock s = s.setClock (s.clock.map fun c => min 4294967295 (c + 1)) := by
  have hself : s.setClock s.clock = s := rfl
  cases hc : s.clock with
  | none =>
    rw [hc] at hself
    rw [Option.map_none, hself]
    simp [advanceClock, hc]
  | some c =>
    obtain ⟨hle, hmin⟩ := h c hc
    rw [advanceClock_of_set hc, Option.map_some]
    split
    · next hlt => rw [if_neg (hmin hlt), Nat.min_eq_right hlt]
    · next hge =>
      have hmax : min 4294967295 (c + 1) = c := by omega
      rw [hmax, ← hc, hself]

theorem advanceClock_of_minute {s : State} {c : Nat} (hc : s.clock = some c) (hlt : c < 4294967295)
    (hm : (c + 1) % 60 = 0) : advanceClock s = minuteEvent (s.setClock (some (c + 1))) := by
  rw [advanceClock_of_set hc, if_pos hlt, if_pos hm]

/-! ## The minute where nothing is due (R88, R103 to R110) -/

theorem mem_insertEntry {key : IndexEntry → Nat} {x e : IndexEntry} {l : List IndexEntry} :
    e ∈ insertEntry key x l ↔ e = x ∨ e ∈ l := by
  induction l with
  | nil => simp [insertEntry]
  | cons y l ih =>
    unfold insertEntry
    split
    · simp
    · simp [ih, or_left_comm]

theorem mem_byStart {e : IndexEntry} {l : List IndexEntry} : e ∈ byStart l ↔ e ∈ l := by
  induction l with
  | nil => rfl
  | cons x l ih =>
    have hcons : byStart (x :: l) = insertEntry (·.startMin) x (byStart l) := rfl
    rw [hcons, mem_insertEntry, ih, List.mem_cons]

/-- Where nothing of the meeting sequence is due an evaluation changes nothing (R103). -/
theorem evaluate_of_nothingDue {s : State} (h : s.NothingDue) : evaluate s = s := by
  obtain ⟨hcur, hmark, hindex⟩ := h
  unfold evaluate
  cases hnow : s.now with
  | none => rfl
  | some now =>
    have hlater : ∀ e ∈ s.seq.index, (e.state = .pending ∨ e.state = .lobby) →
        now + s.seq.room.lobbyLead < e.startMin ∧ e.startMin ≤ e.endMin := hindex now hnow
    have hend : evaluateEnd now s = s := by simp [evaluateEnd, hcur]
    have hwarn : evaluateWarning s = s := by simp [evaluateWarning, hcur]
    have hentry : evaluateEntry now s = s := by simp [evaluateEntry, hcur]
    have hmissed : s.missedAt now = [] := by
      unfold State.missedAt
      rw [List.map_eq_nil_iff, List.filter_eq_nil_iff]
      intro e he hdue
      simp only [Bool.and_eq_true, decide_eq_true_eq] at hdue
      obtain ⟨⟨⟨hstate, hover⟩, -⟩, -⟩ := hdue
      have := hlater e (mem_byStart.mp he) hstate
      omega
    have hlobbyDue : s.lobbyDue now = none := by
      unfold State.lobbyDue
      split
      · next e he =>
        have hp : e.state = .pending := by simpa using List.find?_some he
        have := hlater e (mem_byStart.mp (List.mem_of_find?_eq_some he)) (.inl hp)
        rw [if_neg (by omega)]
      · rfl
    have hlobby : evaluateLobby now s = s := by
      have hself : s.setSeq { s.seq with resumeMark := false } = s := by rw [← hmark]; rfl
      unfold evaluateLobby
      dsimp only
      rw [hself, hmark, hcur]
      simp [hlobbyDue]
    dsimp only
    rw [hend, hwarn, hmissed, List.foldl_nil, hentry, hlobby]
    split <;> rfl

end Sys2Proof.Machine
end

section
/-! SECOND_EVENT (R35, R36, R88, R171, R186, R192). -/

open Sys2Proof Sys2Proof.Machine

namespace Sys2Proof.Machine

/-! ## What a minute leaves of the lines -/

/-- A line keeps its state, and an engine that makes an exchange goes on with it or with another. -/
structure Line.Ticked (x y : Line) : Prop where
  state : y.state = x.state
  busy : y.activity = .none → x.activity = .none

theorem Line.Ticked.refl (x : Line) : x.Ticked x := ⟨rfl, fun h => h⟩

theorem Line.Ticked.trans {x y z : Line} (h : x.Ticked y) (k : y.Ticked z) : x.Ticked z :=
  ⟨k.state.trans h.state, fun hz => h.busy (k.busy hz)⟩

theorem countIdle_ticked (now : Nat) (meeting : Bool) (x : Line) : x.Ticked (countIdle now meeting x) := by
  unfold countIdle
  repeat' split
  all_goals exact ⟨rfl, fun h => h⟩

theorem modLine_ticked {f : Line → Line} (hf : ∀ x : Line, x.Ticked (f x)) (k l : LineId) (s : State) :
    (s.line l).Ticked ((s.modLine k f).line l) := by
  by_cases h : l = k
  · rw [h, State.modLine_line]
    exact hf _
  · rw [State.modLine_line_other s f h]
    exact .refl _

theorem sleepCheck_ticked (k l : LineId) (s : State) : (s.line l).Ticked ((sleepCheck k s).line l) := by
  unfold sleepCheck
  dsimp only
  split
  · have hx : (s.line k).Ticked { s.line k with
        sleepDue := true
        activity := if (s.line k).activity = .none then .exchange .sleep else (s.line k).activity
        begun := if (s.line k).activity = .none then false else (s.line k).begun } := by
      refine ⟨rfl, fun h => ?_⟩
      dsimp only at h
      split at h
      · cases h
      · exact h
    by_cases h : l = k
    · rw [h, State.setLine_line]
      exact hx
    · rw [State.setLine_line_other s _ h]
      exact .refl _
  · exact .refl _

theorem remarkItemsWhere_presence (due : ItemId → Bool) (s : State) (u : Station) :
    (remarkItemsWhere due s).presence u = s.presence u := by
  cases u with
  | seat i => rfl
  | screen j =>
    have hmark (c : ScreenRec) : (markItems s due c).presence = c.presence := by
      unfold markItems
      split <;> rfl
    simp [State.presence, State.screen, remarkItemsWhere, hmark]

theorem setLine_presence (l : LineId) (x : Line) (s : State) (u : Station) : (s.setLine l x).presence u = s.presence u :=
  presence_of_units (State.setLine_seats ..) (State.setLine_screens ..) u

theorem sleepCheck_presence (l : LineId) (s : State) (u : Station) : (sleepCheck l s).presence u = s.presence u := by
  unfold sleepCheck
  dsimp only
  split
  · exact setLine_presence ..
  · rfl

/-- A minute at which nothing is due counts the lines' idle minutes, and a line may begin its SLEEP (R88, R168). -/
theorem minuteEvent_of_nothingDue {s : State} (h : s.NothingDue) :
    (∀ l, (s.line l).Ticked ((minuteEvent s).line l)) ∧ ∀ u, (minuteEvent s).presence u = s.presence u := by
  unfold minuteEvent
  split
  · exact ⟨fun _ => .refl _, fun _ => rfl⟩
  · next now hnow =>
    set s1 := (s.modLine .a (countIdle now s.meetingOn)).modLine .b (countIdle now s.meetingOn) with hs1
    have hdue : s1.NothingDue := h
    have hline (l : LineId) : (s.line l).Ticked (s1.line l) :=
      (modLine_ticked (countIdle_ticked now s.meetingOn) .a l s).trans
        (modLine_ticked (countIdle_ticked now s.meetingOn) .b l _)
    have hpres (u : Station) : s1.presence u = s.presence u := rfl
    dsimp only
    rw [evaluate_of_nothingDue hdue]
    refine ⟨fun l => ?_, fun u => ?_⟩
    · exact ((hline l).trans (sleepCheck_ticked .a l (remarkClockItem s1))).trans (sleepCheck_ticked .b l _)
    · rw [sleepCheck_presence, sleepCheck_presence]
      exact (remarkItemsWhere_presence _ s1 u).trans (hpres u)

/-! ## The obligation -/

/-- What a second does to a line that finds it as `x`, with the presences of `s` (R171, R192). -/
theorem secondAtLine_line {s v : State} {l : LineId} {x : Line} (hx : v.line l = x)
    (hp : ∀ u, v.presence u = s.presence u) :
    (x.activity ≠ .none → (secondAtLine l v).line l = x)
    ∧ (x.activity = .none → x.state = .fault →
        (secondAtLine l v).line l = { x with activity := .retry, begun := false })
    ∧ (x.activity = .none → x.state ≠ .fault → (x.state = .running → s.lostAddresses l = []) →
        (secondAtLine l v).line l = x)
    ∧ ∀ (n : Nat) (rest : List Nat), x.activity = .none → x.state = .running → s.servedAddresses l = [] →
        s.lostAddresses l = n :: rest → (secondAtLine l v).line l = { x with
          activity := .exchange (.poll n true), begun := false
          round := ⟨if x.round.begun then (x.round.number + 1) % 8 else 0, true, true, 0, 0⟩ } := by
  subst hx
  have hlost : v.lostAddresses l = s.lostAddresses l := addressesWith_of_presence hp l _
  have hserved : v.servedAddresses l = s.servedAddresses l := addressesWith_of_presence hp l _
  refine ⟨fun ha => ?_, fun ha hs => ?_, fun _ hs hr => ?_, fun n rest ha hs h1 h2 => ?_⟩
  · rw [secondAtLine_of_busy ha]
  · rw [secondAtLine_of_fault ha hs, State.setLine_line]
  · rw [secondAtLine_of_quiet (fun _ => hs) fun _ h => hlost.trans (hr h)]
  · rw [secondAtLine_of_lost ha hs (hserved.trans h1) (hlost.trans h2), State.setLine_line]

/-- Settles O41: without a limit or an allowance the floor's part counts alone, and each line's part is its own; with no
speech and nothing due the minute is all that the second brings. -/
theorem secondEventCounts : Obligations.SecondEventCounts := by
  unfold Obligations.SecondEventCounts
  refine ⟨fun s hcalm hlimit hallow hnodup hclock => ?_, fun s c hcalm hc hlt hmin hnone hdue hlines => ?_⟩
  · set u := s.older.setClock (s.clock.map fun c => min 4294967295 (c + 1)) with hu
    have hfloor : change secondAtFloor s = s.older := by
      have ho := secondAtFloor_of_untimed hlimit hallow hnodup
      have := change_of_unreported (f := secondAtFloor) (s := s) (by rw [ho]; exact older_unreported s)
      exact this.trans ho
    have hsecond : secondEvent s = secondAtLine .b (secondAtLine .a u) := by
      unfold secondEvent
      rw [hfloor, advanceClock_of_second (s := s.older) hclock]
      rfl
    have hku : KeptBut [.floor, .clock] s u := by
      intro b hb
      cases b <;> simp at hb <;> simp [Block.Same, hu, State.older]
    have ha := secondAtLine_kept .a u
    have hb := secondAtLine_kept .b (secondAtLine .a u)
    have hlinesKept : KeptBut [.lineA, .lineB] u (secondEvent s) := by
      rw [hsecond]
      exact (ha.mono (by decide)).trans (hb.mono (by decide))
    have hk : KeptBut [.floor, .clock, .lineA, .lineB] s (secondEvent s) :=
      (hku.mono (by decide)).trans (hlinesKept.mono (by decide))
    have hexec : exec .secondEvent s = .next (secondEvent s) := by
      have hev : event secondEvent s = settleLink (secondEvent s) := if_pos hcalm.1
      rw [exec_secondEvent, hev, settleLink_of_calm (Calm.ofKept hcalm hk)]
    refine ⟨_, hexec, hk, hlinesKept.same .floor (by decide), hlinesKept.same .clock (by decide), fun l => ?_⟩
    have hpres (t : State) (h : KeptBut [.lineA, .lineB] u t) (v : Station) : t.presence v = s.presence v :=
      presence_of_units (h.same .seats (by decide)) (h.same .screens (by decide)) v
    cases l with
    | a =>
      have hother : (secondEvent s).line .a = (secondAtLine .a u).line .a := by
        rw [hsecond]
        exact hb.line (l := .a) (by decide)
      rw [hother]
      exact secondAtLine_line rfl (hpres u (.refl _ _))
    | b =>
      have hother : (secondAtLine .a u).line .b = s.line .b := ha.line (l := .b) (by decide)
      rw [hsecond]
      exact secondAtLine_line hother (hpres _ (ha.mono (by decide)))
  · set s1 : State := { s with clock := some (c + 1) } with hs1
    have hfloor : change secondAtFloor s = s := change_of_same (by unfold secondAtFloor; rw [hnone]; rfl)
    obtain ⟨hline, hpres⟩ := minuteEvent_of_nothingDue hdue
    have hquiet (l : LineId) : secondAtLine l (minuteEvent s1) = minuteEvent s1 := by
      have hx : (s.line l).Ticked ((minuteEvent s1).line l) := hline l
      have hlost : (minuteEvent s1).lostAddresses l = s.lostAddresses l := addressesWith_of_presence hpres l _
      refine secondAtLine_of_quiet (fun ha => ?_) fun ha hr => ?_
      · rw [hx.state]
        exact (hlines l (hx.busy ha)).1
      · rw [hx.state] at hr
        exact hlost.trans ((hlines l (hx.busy ha)).2 hr)
    have hsecond : secondEvent s = minuteEvent s1 := by
      unfold secondEvent
      rw [hfloor, advanceClock_of_minute hc hlt hmin]
      exact (congrArg (secondAtLine .b) (hquiet .a)).trans (hquiet .b)
    have hev1 : event secondEvent s = settleLink (secondEvent s) := if_pos hcalm.1
    have hev2 : event minuteEvent s1 = settleLink (minuteEvent s1) := if_pos hcalm.1
    rw [exec_secondEvent, exec_minuteEvent, hev1, hev2, hsecond]

end Sys2Proof.Machine
end

section
/-! Closes with the attendees of another state, and passes in which one seat alone acts. -/

open Sys2Proof Sys2Proof.Machine

namespace Sys2Proof.Machine

/-! ## A pass over a list in which one entry alone can act -/

theorem foldl_of_idle {α : Type} {f : State → α → State} {l : List α} (h : ∀ a ∈ l, ∀ s, f s a = s) (s : State) :
    l.foldl f s = s := by
  induction l with
  | nil => rfl
  | cons a l ih =>
    obtain ⟨ha, hl⟩ := List.forall_mem_cons.mp h
    rw [List.foldl_cons, ha]
    exact ih hl

theorem foldl_of_single {α : Type} {f : State → α → State} (seat : α → SeatId) {i : SeatId}
    (h : ∀ a, seat a ≠ i → ∀ s, f s a = s) {l : List α} (hn : (l.map seat).Nodup) {a : α} (ha : a ∈ l)
    (hi : seat a = i) (s : State) : l.foldl f s = f s a := by
  induction l with
  | nil => simp at ha
  | cons b l ih =>
    obtain ⟨hb, hl⟩ := List.nodup_cons.mp hn
    rw [List.foldl_cons]
    rcases List.mem_cons.mp ha with rfl | ha
    · exact foldl_of_idle (fun c hc => h c fun hci => hb (List.mem_map.mpr ⟨c, hc, hci.trans hi.symm⟩)) _
    · rw [h b fun hbi => hb (List.mem_map.mpr ⟨a, ha, hi.trans hbi.symm⟩)]
      exact ih hl ha

/-! ## The log does not decide who is advanced -/

theorem openSeat_setLog (i : SeatId) (s : State) (x : SpeechLog) :
    openSeat i (s.setLog x) = (openSeat i s).setLog x := by
  have hn : (s.setLog x).newSpeaker i = s.newSpeaker i := rfl
  unfold openSeat
  dsimp only
  rw [hn]
  split <;> rfl

theorem withdrawSeat_setLog (i : SeatId) (s : State) (x : SpeechLog) :
    withdrawSeat i (s.setLog x) = (withdrawSeat i s).setLog x := by
  have hr : (s.setLog x).requesting i = s.requesting i := rfl
  unfold withdrawSeat
  rw [hr]
  split <;> rfl

theorem grantHeadLoop_setLog (fuel : Nat) (s : State) (x : SpeechLog) :
    (grantHeadLoop fuel none (s.setLog x)).2 = (grantHeadLoop fuel none s).2.setLog x := by
  induction fuel generalizing s with
  | zero => rfl
  | succ n ih =>
    unfold grantHeadLoop
    cases hq : s.floor.requests with
    | nil => simp only [State.setLog_floor, hq]
    | cons r rest =>
      have he : (s.setLog x).eligibleToSpeak r.seat = s.eligibleToSpeak r.seat := rfl
      have hd : (s.setLog x).seatDef r.seat = s.seatDef r.seat := rfl
      have hroom : (s.setLog x).roomFor (s.seatDef r.seat).chairClass = s.roomFor (s.seatDef r.seat).chairClass := rfl
      simp only [State.setLog_floor, hq, he, hd, hroom, withdrawSeat_setLog, openSeat_setLog]
      split
      · exact ih (refuse r.seat .notPermitted (withdrawSeat r.seat s))
      · split <;> rfl

theorem advance_setLog (s : State) (x : SpeechLog) : advance (s.setLog x) = (advance s).setLog x := by
  have hg : (grantHead none (s.setLog x)).2 = (grantHead none s).2.setLog x := grantHeadLoop_setLog _ s x
  unfold advance
  rw [hg, State.setLog_floor]
  split <;> split <;> rfl

theorem dropHolder_setLog (i : SeatId) (s : State) (x : SpeechLog) :
    dropHolder i (s.setLog x) = (dropHolder i s).setLog x := by
  by_cases hi : i ∈ s.floor.holders
  · by_cases hl : s.floor.holders.filter (fun j => !(j == i)) = [] ∧ s.floor.muting = true
    · simp only [dropHolder, State.setLog_floor, State.setFloor_floor, hi, hl, and_self, if_true]
      rfl
    · simp only [dropHolder, State.setLog_floor, State.setFloor_floor, hi, hl, if_true, if_false]
      rfl
  · rw [dropHolder_of_not_holder hi, dropHolder_of_not_holder (by exact hi)]

/-- The attendees that `who` gives are named in the log record alone (R49). -/
theorem closeSeatAs_eq (w : SeatId → Option Nat) (r : CloseReason) {i : SeatId} {s : State} {e : SpeakerEntry}
    (h : s.speaker i = some e) :
    closeSeatAs w r i s = (closeSeat r i s).setLog (s.log.push (s.logRecordFor (w i) e r)) := by
  unfold closeSeat closeSeatAs
  rw [h]
  dsimp only
  rw [← dropHolder_setLog]
  rfl

theorem closeAdvanceAs_eq_setLog (w : SeatId → Option Nat) (r : CloseReason) {i : SeatId} {s : State} {e : SpeakerEntry}
    (h : s.speaker i = some e) :
    closeAdvanceAs w r i s = (closeAdvance r i s).setLog (s.log.push (s.logRecordFor (w i) e r)) := by
  have hs : closeSeatAs s.boundAttendee r i s = closeSeat r i s := rfl
  unfold closeAdvance
  cases hc : e.chairClass with
  | true => rw [closeAdvanceAs_of_chair h hc, closeAdvanceAs_of_chair h hc, closeSeatAs_eq w r h, hs]
  | false =>
    rw [closeAdvanceAs_of_ordinary h hc, closeAdvanceAs_of_ordinary h hc, closeSeatAs_eq w r h, advance_setLog, hs]

end Sys2Proof.Machine
end

section
/-! What becomes of one seat's floor entry when that seat alone is given another effective role, or an attendee is bound
there (R44, R45, R86, R87). -/

open Sys2Proof Sys2Proof.Machine

namespace Sys2Proof.Machine

/-- Between `s` and `u` one seat has been given an effective role and its card part: the floor, the log, and the roles
and the eligibility of the other seats are as they were. -/
structure Regiven (i : SeatId) (s u : State) : Prop where
  floor : u.floor = s.floor
  log : u.log = s.log
  roles : u.roles = s.roles
  current : u.seq.current = s.seq.current
  refusal : (u.seat i).refusal = (s.seat i).refusal
  effRole : ∀ j, j ≠ i → u.effRole j = s.effRole j
  eligible : ∀ j, j ≠ i → u.eligibleToSpeak j = s.eligibleToSpeak j
  bound : ∀ j, j ≠ i → u.boundAttendee j = s.boundAttendee j

/-- The seats whose role a change from `s` to `u` altered (R85). -/
def State.changedTo (s u : State) (j : SeatId) : Bool := decide (s.roleKey j ≠ u.roleKey j)

/-- An attendee has become bound at a seat between `s` and `u` (R44). -/
def State.newlyBound (s u : State) (j : SeatId) : Bool :=
  decide (u.boundAttendee j ≠ none ∧ s.boundAttendee j ≠ u.boundAttendee j)

/-- The consequences of a change depend on the roles and the bindings before it alone. -/
theorem roleConsequences_congr {s0 s : State} (hk : ∀ j, s0.roleKey j = s.roleKey j)
    (hb : ∀ j, s0.boundAttendee j = s.boundAttendee j) (u : State) : roleConsequences s0 u = roleConsequences s u := by
  unfold roleConsequences
  simp only [hk, hb, funext hb]

theorem roleConsequences_open {s u : State} (h : u.floor.isOpen = true) : roleConsequences s u =
    (allSeats.filter (s.newlyBound u)).foldl (fun v j => barCheckAs s.boundAttendee j v)
      ((u.floor.requests.foldl (requestRolePass (s.changedTo u)) u).floor.speakers.foldl
        (speakerRolePass s.boundAttendee (s.changedTo u))
        (u.floor.requests.foldl (requestRolePass (s.changedTo u)) u)) := by
  unfold roleConsequences
  rw [h]
  rfl

/-! ## The checks that find nothing -/

/-- The allowance finds nothing to close at a seat: its attendee is not barred, or its entry is chair-class (R43). -/
def Spared (i : SeatId) (s : State) : Prop :=
  s.attendeeBarred i = false ∨ ∀ e ∈ s.floor.speakers, e.seat = i → e.chairClass = true

theorem mem_of_speaker {s : State} {i : SeatId} {e : SpeakerEntry} (h : s.speaker i = some e) :
    e ∈ s.floor.speakers ∧ e.seat = i :=
  ⟨List.mem_of_find?_eq_some h, by simpa using List.find?_some (p := fun e : SpeakerEntry => e.seat == i) h⟩

section checks
variable {s : State} {i : SeatId} (w : SeatId → Option Nat)

theorem spared_of_not_speaking (h : s.speaking i = false) : Spared i s :=
  .inr fun e he hi => absurd hi ((not_speaking_iff s i).mp h e he)

theorem allowanceCheckAs_of_spared (h : Spared i s) : allowanceCheckAs w i s = s := by
  unfold allowanceCheckAs
  split
  · rfl
  · next e he =>
    obtain ⟨hmem, hi⟩ := mem_of_speaker he
    rcases h with h | h
    · simp [h]
    · simp [h e hmem hi]

theorem barCheckAs_of_spared (h : Spared i s) (hr : s.requesting i = true → s.barred i = false) :
    barCheckAs w i s = s := by
  unfold barCheckAs
  split
  · exact allowanceCheckAs_of_spared w h
  · exact if_neg fun hq => by rw [hr hq.1] at hq; exact Bool.noConfusion hq.2

theorem barCheckAs_of_absent (hs : s.speaking i = false) (hr : s.requesting i = false) : barCheckAs w i s = s :=
  barCheckAs_of_spared w (spared_of_not_speaking hs) fun h => by rw [hr] at h; exact Bool.noConfusion h

theorem warningCheck_of_not_speaking (h : s.speaking i = false) : warningCheck i s = s := by
  unfold warningCheck
  rw [(speaker_eq_none_iff s i).mpr h]

end checks

/-! ## The two passes at one seat -/

section regiven
variable {i : SeatId} {s u : State} (hg : Regiven i s u)
include hg

theorem Regiven.seatDef {j : SeatId} (hj : j ≠ i) : u.seatDef j = s.seatDef j := by
  simp [State.seatDef, State.roleDef, hg.effRole j hj, hg.roles]

theorem Regiven.changed_other {j : SeatId} (hj : j ≠ i) : s.changedTo u j = false := by
  simp [State.changedTo, State.roleKey, State.roleDef, hg.effRole j hj, hg.roles]

theorem Regiven.changed_iff : s.changedTo u i = true ↔ s.effRole i ≠ u.effRole i := by
  simp only [State.changedTo, State.roleKey, State.roleDef, hg.roles, decide_eq_true_eq, ne_eq, Prod.mk.injEq]
  exact not_congr ⟨fun h => h.1, fun h => ⟨h, by rw [h]⟩⟩

theorem Regiven.newlyBound_other {j : SeatId} (hj : j ≠ i) : s.newlyBound u j = false := by
  simp [State.newlyBound, hg.bound j hj]

/-- An entry of another seat is passed by. -/
theorem Regiven.requestPass_other (r : RequestEntry) (hr : r.seat ≠ i) (v : State) :
    requestRolePass (s.changedTo u) v r = v :=
  requestRolePass_of_not fun h => by rw [hg.changed_other hr] at h; exact Bool.noConfusion h.1

theorem Regiven.speakerPass_other (e : SpeakerEntry) (he : e.seat ≠ i) (v : State) :
    speakerRolePass s.boundAttendee (s.changedTo u) v e = v := by
  unfold speakerRolePass
  split
  · rfl
  · next x hx =>
    have hc := hg.changed_other fun h => he ((mem_of_speaker hx).2.symm.trans h)
    simp [hc]

/-- The bar is looked at where an attendee has become bound, which is at the one seat or nowhere (R44). -/
theorem Regiven.barPass (v : State) :
    (allSeats.filter (s.newlyBound u)).foldl (fun v j => barCheckAs s.boundAttendee j v) v
      = if s.newlyBound u i = true then barCheckAs s.boundAttendee i v else v := by
  rw [List.foldl_filter]
  refine foldl_of_single (fun j => j) (i := i) (fun j hj v => ?_) ?_ (List.mem_finRange i) rfl v
  · exact if_neg (by rw [hg.newlyBound_other hj]; exact Bool.false_ne_true)
  · rw [List.map_id']
    exact List.nodup_finRange 64

variable (hs : s.floor.Sound) (ho : s.floor.isOpen = true)
include hs ho

omit hs in
/-- An idle seat's new role has no consequence. -/
theorem Regiven.consequences_idle (hsp : s.speaking i = false) (hrq : s.requesting i = false) :
    roleConsequences s u = u := by
  have hr : u.floor.requests.foldl (requestRolePass (s.changedTo u)) u = u :=
    foldl_of_idle (fun r hr => hg.requestPass_other r ((not_requesting_iff s i).mp hrq r (hg.floor ▸ hr))) u
  have hsu : u.floor.speakers.foldl (speakerRolePass s.boundAttendee (s.changedTo u)) u = u :=
    foldl_of_idle (fun e he => hg.speakerPass_other e ((not_speaking_iff s i).mp hsp e (hg.floor ▸ he))) u
  rw [roleConsequences_open (hg.floor ▸ ho), hr, hsu, hg.barPass, barCheckAs_of_absent, ite_self]
  · rwa [speaking_of_floor hg.floor]
  · simpa [State.requesting, hg.floor] using hrq

/-- A waiting seat: the first pass at its entry, then the bar. -/
theorem Regiven.consequences_requesting {r : RequestEntry} (hr : r ∈ s.floor.requests) (hi : r.seat = i) :
    roleConsequences s u = if s.newlyBound u i = true
      then barCheckAs s.boundAttendee i (requestRolePass (s.changedTo u) u r)
      else requestRolePass (s.changedTo u) u r := by
  have hrp : u.floor.requests.foldl (requestRolePass (s.changedTo u)) u = requestRolePass (s.changedTo u) u r :=
    foldl_of_single (·.seat) hg.requestPass_other (hg.floor ▸ hs.requestsOnce) (hg.floor ▸ hr) hi u
  have hsame : (requestRolePass (s.changedTo u) u r).floor.speakers = u.floor.speakers := by
    unfold requestRolePass
    split
    · split
      · exact (congrArg Floor.speakers (withdrawSeat_floor r.seat u) :)
      · split <;> rfl
    · rfl
  have hsu : (requestRolePass (s.changedTo u) u r).floor.speakers.foldl
      (speakerRolePass s.boundAttendee (s.changedTo u)) (requestRolePass (s.changedTo u) u r)
        = requestRolePass (s.changedTo u) u r := by
    refine foldl_of_idle (fun e he => hg.speakerPass_other e ?_) _
    rw [hsame, hg.floor] at he
    exact hi ▸ hs.requester_not_speaker hr he
  rw [roleConsequences_open (hg.floor ▸ ho), hrp, hsu, hg.barPass]

/-- A speaking seat: the second pass at its entry, then the bar. -/
theorem Regiven.consequences_speaking {e : SpeakerEntry} (he : e ∈ s.floor.speakers) (hi : e.seat = i) :
    roleConsequences s u = if s.newlyBound u i = true
      then barCheckAs s.boundAttendee i (speakerRolePass s.boundAttendee (s.changedTo u) u e)
      else speakerRolePass s.boundAttendee (s.changedTo u) u e := by
  have hr : u.floor.requests.foldl (requestRolePass (s.changedTo u)) u = u :=
    foldl_of_idle (fun r hr => hg.requestPass_other r
      (hi ▸ (hs.requester_not_speaker (hg.floor ▸ hr) he).symm)) u
  have hsu : u.floor.speakers.foldl (speakerRolePass s.boundAttendee (s.changedTo u)) u
      = speakerRolePass s.boundAttendee (s.changedTo u) u e :=
    foldl_of_single (·.seat) hg.speakerPass_other (hg.floor ▸ hs.speakersOnce) (hg.floor ▸ he) hi u
  rw [roleConsequences_open (hg.floor ▸ ho), hr, hsu, hg.barPass]

end regiven

end Sys2Proof.Machine
end

section
/-! What the two passes of R86 come to at one seat. -/

open Sys2Proof Sys2Proof.Machine

namespace Sys2Proof.Machine

/-! ## Requests in order (R3) -/

theorem insertRequest_filter {e : RequestEntry} {i : SeatId} (hi : e.seat = i) (l : List RequestEntry) :
    (insertRequest e l).filter (fun r => decide (r.seat ≠ i)) = l.filter fun r => decide (r.seat ≠ i) := by
  induction l with
  | nil => simp [insertRequest, hi]
  | cons x l ih =>
    unfold insertRequest
    split
    · rw [List.filter_cons_of_neg (by simp [hi])]
    · rw [List.filter_cons, List.filter_cons, ih]

/-- An entry is inserted behind those that may stand before it, and before the others (R3). -/
theorem insertRequest_pairwise (e : RequestEntry) {l : List RequestEntry} (h : l.Pairwise requestBefore) :
    (insertRequest e l).Pairwise requestBefore := by
  induction l with
  | nil => simp [insertRequest]
  | cons x l ih =>
    obtain ⟨hx, hl⟩ := List.pairwise_cons.mp h
    unfold insertRequest
    split
    · next hlt =>
      have hex : requestBefore e x := hlt.imp id fun h => ⟨h.1.symm, h.2.le⟩
      refine List.pairwise_cons.mpr ⟨fun y hy => ?_, h⟩
      rcases List.mem_cons.mp hy with rfl | hy
      · exact hex
      · have hxy := hx y hy
        unfold requestBefore at hex hxy ⊢
        omega
    · next hge =>
      refine List.pairwise_cons.mpr ⟨fun y hy => ?_, ih hl⟩
      rcases mem_insertRequest.mp hy with rfl | hy
      · unfold requestBefore
        omega
      · exact hx y hy

/-! ## What is left of a change -/

/-- The floor, the log and the refusal codes of `v` are those of `t`. -/
structure Passed (v t : State) : Prop where
  floor : t.floor = v.floor
  log : t.log = v.log
  refusal : ∀ i, (t.seat i).refusal = (v.seat i).refusal

theorem Handed.passed {v t : State} (h : Handed v t) : Passed v t := ⟨h.floor, h.log, h.refusal⟩

theorem Passed.refl (v : State) : Passed v v := ⟨rfl, rfl, fun _ => rfl⟩

theorem Passed.trans {v t u : State} (h : Passed v t) (k : Passed t u) : Passed v u :=
  ⟨k.floor.trans h.floor, k.log.trans h.log, fun i => (k.refusal i).trans (h.refusal i)⟩

section passed
variable {s v t : State} (h : Passed v t)
include h

theorem Closed.passed {e : SpeakerEntry} {r : CloseReason} (hc : Closed e r s v) : Closed e r s t where
  log := h.log.trans hc.log
  gone := (speaking_of_floor h.floor e.seat).trans hc.gone
  quiet hq := h.floor.trans (hc.quiet hq)
  advance := by
    rw [h.floor]
    exact hc.advance

theorem Withdrawn.passed {i : SeatId} {c : Option RefusalCode} (hw : Withdrawn i c s v) : Withdrawn i c s t :=
  ⟨h.floor.trans hw.1, (h.refusal i).trans hw.2.1, h.log.trans hw.2.2⟩

end passed

/-! ## Closing in a state where one seat has another role -/

section regiven
variable {i : SeatId} {s u : State} (hg : Regiven i s u) (hs : s.floor.Sound)
include hg hs

theorem Regiven.speaker {e : SpeakerEntry} (he : e ∈ s.floor.speakers) (hi : e.seat = i) : u.speaker i = some e :=
  hi ▸ speaker_of_mem (hg.floor ▸ hs.speakersOnce) (hg.floor ▸ he)

/-- A close of the seat's entry is as in the state before, and its record names the attendee bound then (R49). -/
theorem Regiven.closed {e : SpeakerEntry} (he : e ∈ s.floor.speakers) (hi : e.seat = i) (r : CloseReason) :
    Closed e r s (closeAdvanceAs s.boundAttendee r i u) := by
  subst hi
  have hu : u.floor.Sound := hg.floor ▸ hs
  have hc := closeAdvance_closed hu (e := e) (hg.floor ▸ he) r
  rw [closeAdvanceAs_eq_setLog _ r (hg.speaker hs he rfl)]
  refine ⟨?_, hc.gone, fun hq => ?_, fun q others hch hreq helig hmode hroom => ?_⟩
  · rw [State.setLog_log, hg.log]
    simp [State.logRecord, State.logRecordFor, hg.current]
  · have := hc.quiet (hg.floor ▸ hq)
    rwa [hg.floor] at this
  · have hq : q.seat ≠ e.seat := (hs.requester_not_speaker (hreq ▸ List.mem_cons_self) he).symm
    have := hc.advance q others hch (hg.floor ▸ hreq) ((hg.eligible _ hq).trans helig) (hg.floor ▸ hmode) (by
      simp only [hg.floor, hg.roles, hg.effRole _ hq]
      exact hroom)
    rwa [hg.floor] at this

/-- After the close the seat is IDLE. -/
theorem Regiven.closed_absent {e : SpeakerEntry} (he : e ∈ s.floor.speakers) (hi : e.seat = i) (r : CloseReason) :
    (closeAdvanceAs s.boundAttendee r i u).speaking i = false
      ∧ (closeAdvanceAs s.boundAttendee r i u).requesting i = false := by
  subst hi
  refine ⟨(hg.closed hs he rfl r).gone, ?_⟩
  rw [closeAdvanceAs_eq_setLog _ r (hg.speaker hs he rfl), not_requesting_iff]
  intro q hq
  have := closeAdvance_requests (s := u) (hg.floor ▸ hs) (hg.floor ▸ he) r q hq
  exact (hs.requester_not_speaker (hg.floor ▸ this) he).symm

/-! ## Requests -/

omit hs in
theorem Regiven.withdrawn (c : RefusalCode) : Withdrawn i (some c) s (refuse i c (withdrawSeat i u)) := by
  refine ⟨?_, refuse_refusal_same _ i c, ?_⟩
  · rw [refuse_floor, withdrawSeat_floor, hg.floor]
  · rw [refuse_log, withdrawSeat_log, hg.log]

omit hs in
theorem Regiven.requesting (j : SeatId) : u.requesting j = s.requesting j := by
  simp [State.requesting, hg.floor]

omit hs in
theorem Regiven.speaking (j : SeatId) : u.speaking j = s.speaking j := speaking_of_floor hg.floor j

section request
variable {r : RequestEntry} (hr : r ∈ s.floor.requests) (hi : r.seat = i)
include hr hi

omit hs in
/-- A seat that may no longer request, or is restricted, loses its request (R86). -/
theorem Regiven.requestPass_refused (hch : s.effRole i ≠ u.effRole i)
    (hno : (u.seatDef i).mayRequest = false ∨ (u.effRole i).restricted = true) :
    requestRolePass (s.changedTo u) u r = refuse i (u.refusalFor i) (withdrawSeat i u) := by
  subst hi
  have hc := hg.changed_iff.mpr hch
  have hq : u.requesting r.seat = true := by
    rw [hg.requesting, requesting_iff]
    exact ⟨r, hr, rfl⟩
  have href : (withdrawSeat r.seat u).refusalFor r.seat = u.refusalFor r.seat := (withdrawSeat_steady _ u).refusalFor _
  have hno' : (!(u.seatDef r.seat).mayRequest) = true ∨ (u.effRole r.seat).restricted = true := by simpa using hno
  unfold requestRolePass
  rw [if_pos ⟨hc, hq⟩, if_pos hno']

omit hs in
/-- Another seat that may request keeps its place, or takes the place of its new band (R86). -/
theorem Regiven.requestPass_placed (hch : s.effRole i ≠ u.effRole i) (hmay : (u.seatDef i).mayRequest = true)
    (hfree : (u.effRole i).restricted = false) :
    requestRolePass (s.changedTo u) u r = if (u.seatDef i).band ≠ r.band
      then setRequests (insertRequest { r with band := (u.seatDef i).band }
        (u.floor.requests.filter fun x => decide (x.seat ≠ i))) u
      else u := by
  subst hi
  have hc := hg.changed_iff.mpr hch
  have hq : u.requesting r.seat = true := by
    rw [hg.requesting, requesting_iff]
    exact ⟨r, hr, rfl⟩
  unfold requestRolePass
  rw [if_pos ⟨hc, hq⟩, if_neg (by simp [hmay, hfree])]
  simp only [← not_seat_beq]

omit hg in
/-- The request list is one entry and the entries of the other seats. -/
theorem requests_perm : s.floor.requests.Perm (r :: s.floor.requests.filter fun x => decide (x.seat ≠ i)) := by
  subst hi
  have hn := hs.requestsOnce
  refine (List.perm_ext_iff_of_nodup (hn.of_map _) (List.nodup_cons.mpr ⟨by simp, (hn.of_map _).filter _⟩)).mpr
    fun x => ?_
  rw [List.mem_cons, List.mem_filter, decide_eq_true_eq]
  refine ⟨fun hx => ?_, fun hx => ?_⟩
  · by_cases h : x.seat = r.seat
    · exact .inl (List.inj_on_of_nodup_map hn hx hr h)
    · exact .inr ⟨hx, h⟩
  · rcases hx with rfl | hx
    · exact hr
    · exact hx.1

end request

end regiven

end Sys2Proof.Machine
end

section
/-! A new effective role at a seat that the allowance does not bar (R45, R86, R87). -/

open Sys2Proof Sys2Proof.Machine

namespace Sys2Proof.Machine

/-- The allowance closes nothing at a seat: its attendee is not barred, or its new role is chair-class (R43). -/
def Unbarred (i : SeatId) (s u : State) : Prop :=
  u.attendeeBarred i = false ∨ ((u.seatDef i).chairClass = true ∧ s.effRole i ≠ u.effRole i)

theorem Unbarred.barred {i : SeatId} {s u : State} (h : Unbarred i s u) : u.barred i = false := by
  unfold State.barred
  rcases h with h | ⟨h, _⟩ <;> simp [h]

/-- After the passes the bar does nothing at a seat without an entry (R44). -/
theorem barNew_of_absent {i : SeatId} {s u v : State} (hs : v.speaking i = false) (hr : v.requesting i = false) :
    (if s.newlyBound u i = true then barCheckAs s.boundAttendee i v else v) = v := by
  rw [barCheckAs_of_absent _ hs hr, ite_self]

theorem barNew_of_spared {i : SeatId} {s u v : State} (hst : Steady u v) (hb : u.barred i = false) (hv : Spared i v) :
    (if s.newlyBound u i = true then barCheckAs s.boundAttendee i v else v) = v := by
  rw [barCheckAs_of_spared _ hv fun _ => (hst.barred i).trans hb, ite_self]

section regiven
variable {i : SeatId} {s u : State} (hg : Regiven i s u) (hs : s.floor.Sound)
include hg hs

theorem Regiven.not_speaking {r : RequestEntry} (hr : r ∈ s.floor.requests) (hi : r.seat = i) : u.speaking i = false := by
  rw [hg.speaking, not_speaking_iff]
  exact fun e he => hi ▸ hs.requester_not_speaker hr he

theorem Regiven.not_requesting {e : SpeakerEntry} (he : e ∈ s.floor.speakers) (hi : e.seat = i) :
    u.requesting i = false := by
  rw [hg.requesting, not_requesting_iff]
  exact fun r hr => hi ▸ (hs.requester_not_speaker hr he).symm

omit hg hs in
theorem withdrawn_absent (hsp : u.speaking i = false) (c : RefusalCode) :
    (refuse i c (withdrawSeat i u)).speaking i = false ∧ (refuse i c (withdrawSeat i u)).requesting i = false := by
  have hf : (refuse i c (withdrawSeat i u)).floor = _ := withdrawSeat_floor i u
  constructor
  · rw [not_speaking_iff] at hsp ⊢
    rw [hf]
    exact hsp
  · exact not_requesting_of_withdrawn (s := u) (by rw [hf])

variable (ho : s.floor.isOpen = true)
include ho

section request
variable {r : RequestEntry} (hr : r ∈ s.floor.requests) (hi : r.seat = i)
include hr hi

theorem Regiven.request_refused (hch : s.effRole i ≠ u.effRole i)
    (hno : (u.seatDef i).mayRequest = false ∨ (u.effRole i).restricted = true) :
    roleConsequences s u = refuse i (u.refusalFor i) (withdrawSeat i u) := by
  obtain ⟨hsp, hrq⟩ := withdrawn_absent (hg.not_speaking hs hr hi) (u.refusalFor i)
  rw [hg.consequences_requesting hs ho hr hi, hg.requestPass_refused hr hi hch hno, barNew_of_absent hsp hrq]

theorem Regiven.request_placed (hch : s.effRole i ≠ u.effRole i) (hmay : (u.seatDef i).mayRequest = true)
    (hfree : (u.effRole i).restricted = false) (hb : u.barred i = false) :
    roleConsequences s u = if (u.seatDef i).band ≠ r.band
      then setRequests (insertRequest { r with band := (u.seatDef i).band }
        (u.floor.requests.filter fun x => decide (x.seat ≠ i))) u
      else u := by
  have hsp : Spared i u := spared_of_not_speaking (hg.not_speaking hs hr hi)
  rw [hg.consequences_requesting hs ho hr hi, hg.requestPass_placed hr hi hch hmay hfree]
  refine barNew_of_spared (.ite (setRequests_steady _ u) (.refl u)) hb ?_
  split
  · exact hsp
  · exact hsp

end request

section speech
variable {e : SpeakerEntry} (he : e ∈ s.floor.speakers) (hi : e.seat = i)
include he hi

omit ho in
/-- The second pass at the entry of a seat whose role has changed (R86, R87). -/
theorem Regiven.speakerPass_eq (hch : s.effRole i ≠ u.effRole i) :
    speakerRolePass s.boundAttendee (s.changedTo u) u e =
      if (u.seatDef i).maySpeak = false ∨ (u.effRole i).restricted = true
      then closeAdvanceAs s.boundAttendee .role i u
      else allowanceCheckAs s.boundAttendee i
        (if e.chairClass = (u.seatDef i).chairClass then u
          else if (u.seatDef i).chairClass then becomeChair s.boundAttendee i u
          else ceaseChair s.boundAttendee i u) := by
  subst hi
  have hc := hg.changed_iff.mpr hch
  unfold speakerRolePass
  rw [hg.speaker hs he rfl]
  simp only [hc, ne_eq, not_true_eq_false, Bool.not_true, Bool.false_eq_true, or_self, if_false, Bool.not_eq_true']

omit ho in
theorem Regiven.speakerPass_same (hch : s.effRole i = u.effRole i) :
    speakerRolePass s.boundAttendee (s.changedTo u) u e = u := by
  subst hi
  have hc : s.changedTo u e.seat = false := Bool.eq_false_iff.mpr fun h => hg.changed_iff.mp h hch
  unfold speakerRolePass
  rw [hg.speaker hs he rfl]
  simp [hc]

theorem Regiven.speech_refused (hch : s.effRole i ≠ u.effRole i)
    (hno : (u.seatDef i).maySpeak = false ∨ (u.effRole i).restricted = true) :
    roleConsequences s u = closeAdvanceAs s.boundAttendee .role i u := by
  obtain ⟨hsp, hrq⟩ := hg.closed_absent hs he hi .role
  rw [hg.consequences_speaking hs ho he hi, hg.speakerPass_eq hs he hi hch, if_pos hno, barNew_of_absent hsp hrq]

/-- Where the allowance closes nothing, the entry's change of class is all (R87). -/
theorem Regiven.speech_reclassed (hb : u.barred i = false) (hch : s.effRole i ≠ u.effRole i)
    (hmay : (u.seatDef i).maySpeak = true) (hfree : (u.effRole i).restricted = false) {v : State}
    (hv : (if e.chairClass = (u.seatDef i).chairClass then u
      else if (u.seatDef i).chairClass then becomeChair s.boundAttendee i u else ceaseChair s.boundAttendee i u) = v)
    (hsp : Spared i v) : roleConsequences s u = v := by
  have hst : Steady u v := by
    rw [← hv]
    exact .ite (.refl u) (.ite (becomeChair_steady _ i u) (ceaseChair_steady _ i u))
  have hno : ¬ ((u.seatDef i).maySpeak = false ∨ (u.effRole i).restricted = true) := by simp [hmay, hfree]
  rw [hg.consequences_speaking hs ho he hi, hg.speakerPass_eq hs he hi hch, if_neg hno, hv,
    allowanceCheckAs_of_spared _ hsp, barNew_of_spared hst hb hsp]

end speech

/-- Where the role is as it was and the allowance bars nobody, nothing happens. -/
theorem Regiven.consequences_same (hch : s.effRole i = u.effRole i) (hb : u.attendeeBarred i = false) :
    roleConsequences s u = u := by
  have hbar : u.barred i = false := by simp [State.barred, hb]
  have hend : (if s.newlyBound u i = true then barCheckAs s.boundAttendee i u else u) = u :=
    barNew_of_spared (.refl u) hbar (.inl hb)
  cases hsp : s.speaking i with
  | true =>
    obtain ⟨e, he, hi⟩ := (speaking_iff s i).mp hsp
    rw [hg.consequences_speaking hs ho he hi, hg.speakerPass_same hs he hi hch, hend]
  | false =>
    cases hrq : s.requesting i with
    | true =>
      obtain ⟨r, hr, hi⟩ := (requesting_iff s i).mp hrq
      have hpass : requestRolePass (s.changedTo u) u r = u :=
        requestRolePass_of_not fun h => hg.changed_iff.mp (hi ▸ h.1) hch
      rw [hg.consequences_requesting hs ho hr hi, hpass, hend]
    | false => exact hg.consequences_idle ho hsp hrq

end regiven

end Sys2Proof.Machine
end

section
/-! An entry that becomes chair-class or ceases to be (R45, R87). -/

open Sys2Proof Sys2Proof.Machine

namespace Sys2Proof.Machine

/-! ## Writing the timing flags -/

theorem Floor.flagged_same {f : Floor} {i : SeatId} {w o : Bool}
    (h : ∀ x ∈ f.speakers, x.seat = i → x.warned = w ∧ x.overran = o) : f.flagged i w o = f := by
  have hmap : f.speakers.map (fun x => if x.seat = i then { x with warned := w, overran := o } else x) = f.speakers := by
    refine (List.map_congr_left fun x hx => ?_).trans f.speakers.map_id
    split
    · next hi =>
      obtain ⟨rfl, rfl⟩ := h x hx hi
      rfl
    · rfl
  unfold Floor.flagged
  rw [hmap]

section timing
variable {s : State} {i : SeatId} {e : SpeakerEntry} (he : s.speaker i = some e)
  (hone : ∀ x ∈ s.floor.speakers, x.seat = i → x = e)

omit he hone in
theorem setTiming_log (w o : Bool) : (setTiming i w o s).log = s.log := by
  unfold setTiming
  split
  · rfl
  · split <;> rfl

include he hone

theorem setTiming_floor (w o : Bool) : (setTiming i w o s).floor = s.floor.flagged i w o := by
  by_cases h : e.warned = w ∧ e.overran = o
  · have hsame : setTiming i w o s = s := by
      unfold setTiming
      rw [he]
      exact if_pos h
    rw [hsame, Floor.flagged_same fun x hx hi => hone x hx hi ▸ h]
  · rw [setTiming_of_change he h]
    rfl

/-- The checks of an ordinary entry without flags, of a seat whose attendee is not barred (R37, R45). -/
theorem timingCheckAs_fresh (w : SeatId → Option Nat) (hc : e.chairClass = false) (hw : e.warned = false)
    (ho : e.overran = false) (hb : s.attendeeBarred i = false) :
    let p := s.floor.policy
    let late := decide (0 < p.speechLimit ∧ p.speechLimit ≤ e.elapsed)
    (late = true → p.atLimit = .close → timingCheckAs w i s = warningCheck i (closeAdvanceAs w .timeUp i s))
    ∧ (¬ (late = true ∧ p.atLimit = .close) → (timingCheckAs w i s).log = s.log
        ∧ (timingCheckAs w i s).floor
          = s.floor.flagged i (decide (0 < p.speechLimit ∧ p.speechLimit ≤ e.elapsed + p.warningLead)) late) := by
  intro p late
  have hlimit := limitCheckAs_eq he w hc
  have hall : timingCheckAs w i s = warningCheck i (limitCheckAs w i s) := by
    unfold timingCheckAs
    rw [allowanceCheckAs_of_spared w (.inl hb)]
  by_cases hl : 0 < s.floor.policy.speechLimit ∧ s.floor.policy.speechLimit ≤ e.elapsed
  · have hlate : late = true := decide_eq_true hl
    rw [if_pos ⟨hl.1, hl.2, ho⟩] at hlimit
    refine ⟨fun _ hcl => by rw [hall, hlimit, show s.floor.policy.atLimit = .close from hcl], fun hn => ?_⟩
    cases ha : s.floor.policy.atLimit with
    | close => exact absurd ⟨hlate, ha⟩ hn
    | warn =>
      rw [ha] at hlimit
      have hflag : ∀ x ∈ (s.floor.flagged i true true).speakers, x.seat = i → x.overran = true := by
        intro x hx hi
        obtain ⟨y, _, rfl⟩ := List.mem_map.mp hx
        by_cases hy : y.seat = i <;> simp_all
      have hwarned : decide (0 < p.speechLimit ∧ p.speechLimit ≤ e.elapsed + p.warningLead) = true :=
        decide_eq_true ⟨hl.1, Nat.le_add_right_of_le hl.2⟩
      have hdone : warningCheck i (limitCheckAs w i s) = limitCheckAs w i s := by
        rw [hlimit]
        unfold warningCheck
        split
        · rfl
        · next x hx =>
          obtain ⟨hmem, hi⟩ := mem_of_speaker hx
          exact if_neg fun h => by rw [hflag x hmem hi] at h; simp at h
      rw [hall, hdone, hlimit, hlate, hwarned]
      exact ⟨rfl, rfl⟩
  · have hlate : late = false := decide_eq_false hl
    rw [if_neg fun h => hl ⟨h.1, h.2.1⟩] at hlimit
    refine ⟨fun h => by rw [hlate] at h; exact Bool.noConfusion h, fun _ => ?_⟩
    have hwarn := warningCheck_eq he hc
    rw [hall, hlimit, hwarn, hlate]
    by_cases hp : 0 < s.floor.policy.speechLimit ∧ s.floor.policy.speechLimit ≤ e.elapsed + s.floor.policy.warningLead
    · have hwarned : decide (0 < p.speechLimit ∧ p.speechLimit ≤ e.elapsed + p.warningLead) = true := decide_eq_true hp
      rw [if_pos ⟨hp.1, Nat.sub_le_iff_le_add.mpr hp.2, hw, ho⟩, hwarned]
      exact ⟨rfl, rfl⟩
    · have hwarned : decide (0 < p.speechLimit ∧ p.speechLimit ≤ e.elapsed + p.warningLead) = false :=
        decide_eq_false hp
      rw [if_neg fun h => hp ⟨h.1, Nat.sub_le_iff_le_add.mp h.2.1⟩, hwarned]
      exact ⟨rfl, (Floor.flagged_same fun x hx hi => hone x hx hi ▸ ⟨hw, ho⟩).symm⟩

end timing

/-! ## The floor without one holder (R25) -/

section released
variable {f : Floor} (i : SeatId)

theorem Floor.released_map {β : Type} (g : SpeakerEntry → β) (hg : ∀ e b, g { e with muted := b } = g e) :
    (f.released i).speakers.map g = f.speakers.map g := by
  unfold Floor.released
  dsimp only
  rw [List.map_map]
  refine List.map_congr_left fun e _ => ?_
  dsimp only [Function.comp]
  split
  · exact hg e false
  · rfl

theorem Floor.released_not_holder : i ∉ (f.released i).holders := by simp [Floor.released]

theorem Floor.released_classCount (c : Bool) : classCount c (f.released i).speakers = classCount c f.speakers := by
  rw [classCount_eq_count, classCount_eq_count, Floor.released_map i (·.chairClass) fun _ _ => rfl]

/-- A chair-class entry is not muted, so that the release leaves it. -/
theorem Floor.Sound.mem_released (h : f.Sound) {e : SpeakerEntry} (he : e ∈ f.speakers) (hc : e.chairClass = true) :
    e ∈ (f.released i).speakers := by
  have hm : e.muted = false := by rw [h.muted e he, hc]; simp
  refine List.mem_map.mpr ⟨e, he, ?_⟩
  split
  · rw [← hm]
  · rfl

end released

end Sys2Proof.Machine
end

section
/-! An entry whose seat's new role is of the other class (R45, R87). -/

open Sys2Proof Sys2Proof.Machine

namespace Sys2Proof.Machine

/-- An entry that has ceased to be chair-class on a floor with this muting mark (R87). -/
def SpeakerEntry.ceased (muting : Bool) (e : SpeakerEntry) : SpeakerEntry :=
  { e with chairClass := false, muted := muting, wasMuted := e.wasMuted || muting }

/-- The floor on which one seat's entry has ceased to be chair-class. -/
def Floor.lowered (i : SeatId) (f : Floor) : Floor :=
  { f.released i with speakers :=
      (f.released i).speakers.map fun x => if x.seat = i then x.ceased (f.released i).muting else x }

section regiven
variable {i : SeatId} {s u : State} (hg : Regiven i s u) (hs : s.floor.Sound) {e : SpeakerEntry}
  (he : e ∈ s.floor.speakers) (hi : e.seat = i) (w : SeatId → Option Nat)
include hg hs he hi

/-- With a chair-class place free the entry takes it, and loses its mute and its timing flags (R87). -/
theorem Regiven.becomeChair_room (hroom : classCount true s.floor.speakers < 2) :
    (becomeChair w i u).log = s.log ∧ (becomeChair w i u).floor = { s.floor with
      speakers := s.floor.speakers.map fun x =>
        if x.seat = i then { x with chairClass := true, muted := false, warned := false, overran := false } else x } := by
  subst hi
  have hr : u.roomFor true = true := by
    simp only [State.roomFor, if_true, hg.floor]
    exact decide_eq_true hroom
  have hfl := setTiming_floor (hg.speaker hs he rfl)
    (fun x hx hxi => hs.entry_unique (hg.floor ▸ hx) he hxi) false false
  unfold becomeChair
  rw [if_pos hr]
  refine ⟨(setTiming_log false false).trans hg.log, ?_⟩
  simp only [modSpeaker, setSpeakers, State.setFloor_floor, hfl, hg.floor, Floor.flagged, List.map_map]
  refine congrArg (fun l => { s.floor with speakers := l }) (List.map_congr_left fun x _ => ?_)
  by_cases hx : x.seat = e.seat <;> simp [hx]

omit hs he hi in
theorem Regiven.becomeChair_full (hroom : 2 ≤ classCount true s.floor.speakers) :
    becomeChair w i u = closeAdvanceAs w .limit i u := by
  have hr : u.roomFor true = false := by
    simp only [State.roomFor, if_true, hg.floor]
    exact decide_eq_false (Nat.not_lt.mpr hroom)
  unfold becomeChair
  rw [hr]
  rfl

/-! ## Ceasing to be chair-class -/

omit he hi in
theorem Regiven.dropHolder_floor : (dropHolder i u).floor = s.floor.released i := by
  rw [Machine.dropHolder_floor i (s := u) fun hm x hx => hs.unmuted (hg.floor ▸ hx) (hg.floor ▸ hm), hg.floor]

omit he hi in
theorem Regiven.dropHolder_roomFor : (dropHolder i u).roomFor false
    = decide (classCount false s.floor.speakers < s.floor.policy.smax) := by
  simp only [State.roomFor, Bool.false_eq_true, if_false, hg.dropHolder_floor hs, Floor.released_classCount]
  rfl

omit hg he hi in
theorem released_once : ((s.floor.released i).speakers.map (·.seat)).Nodup := by
  rw [Floor.released_map i (·.seat) fun _ _ => rfl]
  exact hs.speakersOnce

variable (hc : e.chairClass = true)
include hc

theorem Regiven.dropHolder_speaker : (dropHolder i u).speaker i = some e := by
  have hfl := hg.dropHolder_floor hs
  subst hi
  exact speaker_of_mem (by rw [hfl]; exact released_once hs) (by rw [hfl]; exact hs.mem_released _ he hc)

/-- Without an ordinary place free the entry is closed LIMIT (R87). -/
theorem Regiven.ceaseChair_full (hroom : s.floor.policy.smax ≤ classCount false s.floor.speakers) :
    Closed e .limit s (ceaseChair s.boundAttendee i u) := by
  have hsp := hg.dropHolder_speaker hs he hi hc
  have hfl := hg.dropHolder_floor hs
  have hnot : i ∉ (dropHolder i u).floor.holders := by rw [hfl]; exact Floor.released_not_holder i
  have heq : ceaseChair s.boundAttendee i u = closeSeatAs s.boundAttendee .limit i (dropHolder i u) := by
    unfold ceaseChair
    dsimp only
    rw [hg.dropHolder_roomFor hs, decide_eq_false (Nat.not_lt.mpr hroom)]
    rfl
  have hfloor := closeSeatAs_floor_of_not_holder (w := s.boundAttendee) (r := .limit) hsp hnot
  rw [hfl] at hfloor
  rw [heq]
  subst hi
  refine ⟨?_, ?_, fun _ => hfloor, fun _ _ hn => absurd hc (by rw [hn]; exact Bool.false_ne_true)⟩
  · rw [closeSeatAs_log hsp, dropHolder_log, hg.log, (dropHolder_steady e.seat u).logRecordFor]
    simp [State.logRecord, State.logRecordFor, hg.current]
  · rw [not_speaking_iff, hfloor]
    intro x hx
    simpa using (List.mem_filter.mp hx).2

omit he hi hc in
/-- With an ordinary place free the entry takes it, and is checked at once (R45, R87). -/
theorem Regiven.ceaseChair_room (hroom : classCount false s.floor.speakers < s.floor.policy.smax) :
    ∃ v : State, Steady u v ∧ v.floor = s.floor.lowered i ∧ v.log = s.log
      ∧ ceaseChair w i u = timingCheckAs w i v := by
  have hfl := hg.dropHolder_floor hs
  refine ⟨modSpeaker i (SpeakerEntry.ceased (dropHolder i u).floor.muting) (dropHolder i u), ?_, ?_, ?_, ?_⟩
  · exact (dropHolder_steady i u).trans (modSpeaker_steady _ _ _)
  · rw [hfl]
    simp only [modSpeaker, setSpeakers, State.setFloor_floor, hfl]
    rfl
  · exact (dropHolder_log i u).trans hg.log
  · unfold ceaseChair
    dsimp only
    rw [hg.dropHolder_roomFor hs, decide_eq_true hroom]
    rfl

omit hg in
/-- The seat's entry on that floor. -/
theorem lowered_speaker {v : State} (hv : v.floor = s.floor.lowered i) :
    v.speaker i = some (e.ceased (s.floor.released i).muting)
      ∧ (∀ x ∈ v.floor.speakers, x.seat = i → x = e.ceased (s.floor.released i).muting) := by
  have hmem : e.ceased (s.floor.released i).muting ∈ v.floor.speakers := by
    rw [hv]
    exact List.mem_map.mpr ⟨e, hs.mem_released i he hc, if_pos hi⟩
  have hnodup : (v.floor.speakers.map (·.seat)).Nodup := by
    have hmap : v.floor.speakers.map (·.seat) = (s.floor.released i).speakers.map (·.seat) := by
      rw [hv]
      simp only [Floor.lowered, List.map_map]
      refine List.map_congr_left fun x _ => ?_
      dsimp only [Function.comp]
      split <;> rfl
    rw [hmap, Floor.released_map i (·.seat) fun _ _ => rfl]
    exact hs.speakersOnce
  subst hi
  refine ⟨speaker_of_mem hnodup hmem, fun x hx hxi => List.inj_on_of_nodup_map hnodup hx hmem hxi⟩

end regiven

end Sys2Proof.Machine
end

section
/-! One seat's new effective role acts on the floor (R45, R85 to R87). -/

open Sys2Proof Sys2Proof.Machine

namespace Sys2Proof.Machine

theorem RoleActs.passed {i : SeatId} {d : RoleDef} {restricted : Bool} {code : RefusalCode} {s v t : State}
    (hp : Passed v t) (h : RoleActs i d restricted code s v) : RoleActs i d restricted code s t where
  idle hs hr := by
    obtain ⟨hf, hl, hc⟩ := h.idle hs hr
    exact ⟨hp.floor.trans hf, hp.log.trans hl, (hp.refusal i).trans hc⟩
  withdrawn hr hd := (h.withdrawn hr hd).passed hp
  placed r hr hi hd hn := by
    rw [hp.floor, hp.log]
    exact h.placed r hr hi hd hn
  closed e he hi hd := (h.closed e he hi hd).passed hp
  kept e he hi hd hn hc := by
    rw [hp.floor, hp.log]
    exact h.kept e he hi hd hn hc
  raised e he hi hd hn hc hr := by
    obtain ⟨hfull, hroom⟩ := h.raised e he hi hd hn hc hr
    rw [hp.floor, hp.log]
    exact ⟨fun hq => (hfull hq).passed hp, hroom⟩
  lowered e he hi hd hn hc hr hw ho := by
    obtain ⟨hfull, hclose, hkept⟩ := h.lowered e he hi hd hn hc hr hw ho
    rw [hp.floor, hp.log, speaking_of_floor hp.floor]
    exact ⟨fun hq => (hfull hq).passed hp, hclose, hkept⟩

/-- The flags that the checks of an entry that was chair-class write (R45). -/
theorem lowered_flagged {i : SeatId} {s : State} (hs : s.floor.Sound) {e : SpeakerEntry} (he : e ∈ s.floor.speakers)
    (hi : e.seat = i) (hc : e.chairClass = true) (warned overran : Bool) :
    (s.floor.lowered i).flagged i warned overran = { s.floor.released i with
      speakers := (s.floor.released i).speakers.map fun x =>
        if x.seat = i then { e.ceased (s.floor.released i).muting with warned := warned, overran := overran } else x } := by
  have hone : ∀ x ∈ (s.floor.released i).speakers, x.seat = i → x = e := fun x hx hxi =>
    List.inj_on_of_nodup_map (released_once hs) hx (hs.mem_released i he hc) (hxi.trans hi.symm)
  simp only [Floor.flagged, Floor.lowered, List.map_map]
  refine congrArg (fun l => { s.floor.released i with speakers := l }) (List.map_congr_left fun x hx => ?_)
  dsimp only [Function.comp]
  by_cases hxi : x.seat = i
  · have hxe := hone x hx hxi
    subst hxe
    simp [hxi, SpeakerEntry.ceased]
  · simp [hxi]

section regiven
variable {i : SeatId} {s u : State} (hg : Regiven i s u) (hs : s.floor.Sound)
include hg hs

omit hs in
theorem Regiven.seatDef_self : u.seatDef i = s.roles.defs[(u.effRole i).number] := by
  unfold State.seatDef State.roleDef
  rw [hg.roles]

/-- The limit closes an entry that has just ceased to be chair-class (R40, R45). -/
theorem Regiven.lowered_timeUp {v : State} (hst : Steady u v) (hv : v.floor = s.floor.lowered i) (hl : v.log = s.log)
    {e : SpeakerEntry} (he : e ∈ s.floor.speakers) (hi : e.seat = i) (hc : e.chairClass = true) :
    (closeAdvanceAs s.boundAttendee .timeUp i v).log
        = s.log.push (s.logRecord (e.ceased (s.floor.released i).muting) .timeUp)
      ∧ (closeAdvanceAs s.boundAttendee .timeUp i v).speaking i = false := by
  obtain ⟨hsp, _⟩ := lowered_speaker hs he hi hc hv
  have hnot : i ∉ v.floor.holders := by rw [hv]; exact Floor.released_not_holder i
  have hclosed : (closeSeatAs s.boundAttendee .timeUp i v).speaking i = false := by
    rw [not_speaking_iff, closeSeatAs_floor_of_not_holder hsp hnot]
    intro x hx
    simpa using (List.mem_filter.mp hx).2
  have hrq : ∀ r ∈ (closeSeatAs s.boundAttendee .timeUp i v).floor.requests, r.seat ≠ i := by
    rw [closeSeatAs_requests, hv]
    exact fun r hr => hi ▸ (hs.requester_not_speaker hr he).symm
  refine ⟨?_, ?_⟩
  · subst hi
    rw [closeAdvanceAs_eq_setLog _ _ hsp, State.setLog_log, hl, hst.logRecordFor]
    simp [State.logRecord, State.logRecordFor, hg.current, SpeakerEntry.ceased]
  · rcases closeAdvanceAs_eq (w := s.boundAttendee) (r := .timeUp) hsp with h | h
    · rw [h]; exact hclosed
    · rw [h]; exact advance_speaking hclosed hrq

variable (ho : s.floor.isOpen = true) (hch : s.effRole i ≠ u.effRole i)
include ho hch

section request
variable {r : RequestEntry} (hr : r ∈ s.floor.requests) (hi : r.seat = i)
include hr hi

/-- What becomes of the place of a request that stays (R86). -/
theorem Regiven.placed (hb : u.barred i = false) (hmay : (u.seatDef i).mayRequest = true)
    (hfree : (u.effRole i).restricted = false) :
    (roleConsequences s u).floor = { s.floor with requests := (roleConsequences s u).floor.requests }
      ∧ (roleConsequences s u).log = s.log
      ∧ (roleConsequences s u).floor.requests.Perm
          ({ r with band := (u.seatDef i).band } :: s.floor.requests.filter fun x => decide (x.seat ≠ i))
      ∧ (roleConsequences s u).floor.requests.Pairwise requestBefore
      ∧ ((u.seatDef i).band = r.band → (roleConsequences s u).floor = s.floor) := by
  have heq := hg.request_placed hs ho hr hi hch hmay hfree hb
  by_cases hband : (u.seatDef i).band = r.band
  · rw [if_neg (not_not.mpr hband)] at heq
    rw [heq, hg.floor, hg.log, hband]
    exact ⟨rfl, rfl, requests_perm hs hr hi, hs.ordered, fun _ => rfl⟩
  · rw [if_pos hband] at heq
    have hreq : (roleConsequences s u).floor.requests = insertRequest { r with band := (u.seatDef i).band }
        (s.floor.requests.filter fun x => decide (x.seat ≠ i)) := by
      rw [heq, hg.floor]
      rfl
    refine ⟨?_, ?_, ?_, ?_, fun h => absurd h hband⟩
    · rw [heq, hg.floor]
      simp only [setRequests, State.setFloor_floor, hg.floor]
    · rw [heq]
      exact hg.log
    · rw [hreq]
      exact Bounded.insertRequest_perm _ _
    · rw [hreq]
      exact insertRequest_pairwise _ (hs.ordered.filter _)

end request

section speech
variable {e : SpeakerEntry} (he : e ∈ s.floor.speakers) (hi : e.seat = i) (hmay : (u.seatDef i).maySpeak = true)
  (hfree : (u.effRole i).restricted = false) (hb : Unbarred i s u)
include he hi hmay hfree hb

/-- An entry of the class of the new role stays as it is (R87). -/
theorem Regiven.kept (hc : e.chairClass = (u.seatDef i).chairClass) : roleConsequences s u = u := by
  refine hg.speech_reclassed hs ho he hi hb.barred hch hmay hfree (if_pos hc) ?_
  refine hb.imp id fun hchair x hx hxi => ?_
  rw [hs.entry_unique (hg.floor ▸ hx) he (hxi.trans hi.symm), hc]
  exact hchair.1

/-- An entry that becomes chair-class (R87). -/
theorem Regiven.raised (hc : e.chairClass = false) (hd : (u.seatDef i).chairClass = true) :
    (2 ≤ classCount true s.floor.speakers → Closed e .limit s (roleConsequences s u))
    ∧ (classCount true s.floor.speakers < 2 → (roleConsequences s u).log = s.log
        ∧ (roleConsequences s u).floor = { s.floor with speakers := s.floor.speakers.map fun x =>
          if x.seat = i then { x with chairClass := true, muted := false, warned := false, overran := false } else x }) := by
  have heq {v : State} (hv : becomeChair s.boundAttendee i u = v) (hsp : Spared i v) : roleConsequences s u = v :=
    hg.speech_reclassed hs ho he hi hb.barred hch hmay hfree (by rw [hc, hd, ← hv]; rfl) hsp
  constructor <;> intro hroom
  · obtain ⟨hsp, _⟩ := hg.closed_absent hs he hi .limit
    rw [heq (hg.becomeChair_full s.boundAttendee hroom) (spared_of_not_speaking hsp)]
    exact hg.closed hs he hi .limit
  · obtain ⟨hlog, hfloor⟩ := hg.becomeChair_room hs he hi s.boundAttendee hroom
    have hsp : Spared i (becomeChair s.boundAttendee i u) := .inr fun x hx hxi => by
      rw [hfloor] at hx
      obtain ⟨y, _, rfl⟩ := List.mem_map.mp hx
      by_cases hy : y.seat = i
      · simp [hy]
      · simp [hy] at hxi
    rw [heq rfl hsp]
    exact ⟨hlog, hfloor⟩

/-- An entry that ceases to be chair-class (R45, R87). -/
theorem Regiven.lowered (hc : e.chairClass = true) (hd : (u.seatDef i).chairClass = false) (hw : e.warned = false)
    (hov : e.overran = false) :
    let p := s.floor.policy
    let f := s.floor.released i
    let after := e.ceased f.muting
    let late := decide (0 < p.speechLimit ∧ p.speechLimit ≤ e.elapsed)
    (p.smax ≤ classCount false s.floor.speakers → Closed e .limit s (roleConsequences s u))
    ∧ (classCount false s.floor.speakers < p.smax → late = true → p.atLimit = .close →
        (roleConsequences s u).log = s.log.push (s.logRecord after .timeUp) ∧ (roleConsequences s u).speaking i = false)
    ∧ (classCount false s.floor.speakers < p.smax → ¬ (late = true ∧ p.atLimit = .close) →
        (roleConsequences s u).log = s.log
        ∧ (roleConsequences s u).floor = { f with speakers := f.speakers.map fun x =>
          if x.seat = i then
            { after with
              warned := decide (0 < p.speechLimit ∧ p.speechLimit ≤ e.elapsed + p.warningLead), overran := late }
          else x }) := by
  intro p f after late
  have hbar : u.attendeeBarred i = false := hb.resolve_right fun h => by rw [hd] at h; exact Bool.noConfusion h.1
  have heq : roleConsequences s u = ceaseChair s.boundAttendee i u :=
    hg.speech_reclassed hs ho he hi hb.barred hch hmay hfree (by rw [hc, hd]; rfl)
      (.inl (((ceaseChair_steady _ i u).attendeeBarred i).trans hbar))
  rw [heq]
  refine ⟨hg.ceaseChair_full hs he hi hc, fun hroom => ?_, fun hroom => ?_⟩
  · obtain ⟨v, hst, hv, hl, hcease⟩ := hg.ceaseChair_room hs s.boundAttendee hroom
    obtain ⟨hsp, hone⟩ := lowered_speaker hs he hi hc hv
    obtain ⟨hclose, _⟩ := timingCheckAs_fresh hsp hone s.boundAttendee rfl hw hov ((hst.attendeeBarred i).trans hbar)
    obtain ⟨hlog, hgone⟩ := hg.lowered_timeUp hs hst hv hl he hi hc
    intro hlate hcl
    rw [hst.policy, hg.floor] at hclose
    rw [hcease, hclose hlate hcl, warningCheck_of_not_speaking hgone]
    exact ⟨hlog, hgone⟩
  · obtain ⟨v, hst, hv, hl, hcease⟩ := hg.ceaseChair_room hs s.boundAttendee hroom
    obtain ⟨hsp, hone⟩ := lowered_speaker hs he hi hc hv
    obtain ⟨_, hstay⟩ := timingCheckAs_fresh hsp hone s.boundAttendee rfl hw hov ((hst.attendeeBarred i).trans hbar)
    intro hn
    rw [hst.policy, hg.floor] at hstay
    obtain ⟨hlog, hfloor⟩ := hstay hn
    rw [hcease]
    refine ⟨hlog.trans hl, hfloor.trans ?_⟩
    rw [hv]
    exact lowered_flagged hs he hi hc _ _

end speech

/-- A changed role at a seat that the allowance does not bar acts on the seat's entry (R86, R87). -/
theorem Regiven.roleActs (hb : Unbarred i s u) : RoleActs i s.roles.defs[(u.effRole i).number]
    (u.effRole i).restricted (u.refusalFor i) s (roleConsequences s u) := by
  rw [← hg.seatDef_self]
  refine ⟨fun hsp hrq => ?_, fun hrq hno => ?_, fun r hr hi hmay hfree => ?_, fun e he hi hno => ?_,
    fun e he hi hmay hfree hc => ?_, fun e he hi hmay hfree hc hd => ?_, fun e he hi hmay hfree hc hd hw hov => ?_⟩
  · rw [hg.consequences_idle ho hsp hrq]
    exact ⟨hg.floor, hg.log, hg.refusal⟩
  · obtain ⟨r, hr, hi⟩ := (requesting_iff s i).mp hrq
    rw [hg.request_refused hs ho hr hi hch hno]
    exact hg.withdrawn _
  · exact hg.placed hs ho hch hr hi hb.barred hmay hfree
  · rw [hg.speech_refused hs ho he hi hch hno]
    exact hg.closed hs he hi .role
  · rw [hg.kept hs ho hch he hi hmay hfree hb hc]
    exact ⟨hg.floor, hg.log⟩
  · exact hg.raised hs ho hch he hi hmay hfree hb hc hd
  · exact hg.lowered hs ho hch he hi hmay hfree hb hc hd hw hov

omit ho hch in
/-- What being given an effective role comes to (R85, R86). -/
theorem Regiven.roleGiven (hb : Unbarred i s u) {t : State} (ht : Passed (roleConsequences s u) t) :
    RoleGiven i (u.effRole i) (u.refusalFor i) s t := by
  refine ⟨fun hsame => ?_, fun hch ho => (hg.roleActs hs ho hch hb).passed ht⟩
  have heq : roleConsequences s u = u := by
    cases ho : s.floor.isOpen with
    | false => exact roleConsequences_of_closed (hg.floor ▸ ho) s
    | true =>
      have hch : s.effRole i = u.effRole i := hsame.resolve_right fun h => by rw [ho] at h; exact Bool.noConfusion h
      exact hg.consequences_same hs ho hch (hb.resolve_right fun h => h.2 hch)
  rw [heq] at ht
  exact ⟨ht.floor.trans hg.floor, ht.log.trans hg.log⟩

end regiven

end Sys2Proof.Machine
end

section
/-! An attendee whose spoken total has reached the allowance is bound at a seat (R43, R44). -/

open Sys2Proof Sys2Proof.Machine

namespace Sys2Proof.Machine

section bar
variable {s : State} {i : SeatId} (w : SeatId → Option Nat)

theorem allowanceCheckAs_of_barred {e : SpeakerEntry} (he : s.speaker i = some e) (hc : e.chairClass = false)
    (hb : s.attendeeBarred i = true) : allowanceCheckAs w i s = closeAdvanceAs w .allowance i s := by
  unfold allowanceCheckAs
  rw [he]
  simp [hc, hb]

theorem barCheckAs_of_speaking (h : s.speaking i = true) : barCheckAs w i s = allowanceCheckAs w i s := if_pos h

theorem barCheckAs_of_barred (hs : s.speaking i = false) (hr : s.requesting i = true) (hb : s.barred i = true) :
    barCheckAs w i s = refuse i .timeUsed (withdrawSeat i s) := by
  unfold barCheckAs
  rw [if_neg (by rw [hs]; exact Bool.false_ne_true), if_pos ⟨hr, hb⟩]

end bar

/-- A floor that holds an entry is open (R1). -/
theorem open_of_entry {s : State} (hs : s.floor.Sound) {j : SeatId} (h : s.speaking j = true ∨ s.requesting j = true) :
    s.floor.isOpen = true := by
  by_contra hno
  obtain ⟨hsp, hrq, _⟩ := hs.closed (Bool.eq_false_iff.mpr hno)
  simp [State.speaking, State.requesting, hsp, hrq] at h

section regiven
variable {i : SeatId} {s u : State} (hg : Regiven i s u) (hs : s.floor.Sound)
  (hb : u.attendeeBarred i = true) (hchair : (u.seatDef i).chairClass = false)
include hg hs hb hchair

variable (hnew : s.newlyBound u i = true)
include hnew

/-- A barred seat that waits is withdrawn with TIME_USED, whatever its new role makes of its place (R44). -/
theorem Regiven.barred_request (hcode : u.refusalFor i = .timeUsed) (hrq : s.requesting i = true) :
    Withdrawn i (some .timeUsed) s (roleConsequences s u) := by
  have ho := open_of_entry hs (.inr hrq)
  obtain ⟨r, hr, hi⟩ := (requesting_iff s i).mp hrq
  have hsp := hg.not_speaking hs hr hi
  have hbar : u.barred i = true := by simp [State.barred, hb, hchair]
  have hcons := hg.consequences_requesting hs ho hr hi
  rw [if_pos hnew] at hcons
  have hstay (hpass : requestRolePass (s.changedTo u) u r = u) :
      Withdrawn i (some .timeUsed) s (roleConsequences s u) := by
    rw [hcons, hpass, barCheckAs_of_barred _ hsp ((hg.requesting i).trans hrq) hbar]
    exact hg.withdrawn _
  by_cases hch : s.effRole i = u.effRole i
  · exact hstay (requestRolePass_of_not fun h => hg.changed_iff.mp (hi ▸ h.1) hch)
  · by_cases hno : (u.seatDef i).mayRequest = false ∨ (u.effRole i).restricted = true
    · rw [hg.request_refused hs ho hr hi hch hno, hcode]
      exact hg.withdrawn _
    · obtain ⟨hmay, hfree⟩ := not_or.mp hno
      have hpass := hg.requestPass_placed hr hi hch (by simpa using hmay) (by simpa using hfree)
      by_cases hband : (u.seatDef i).band = r.band
      · exact hstay (hpass.trans (if_neg (not_not.mpr hband)))
      · rw [if_pos hband] at hpass
        set v := setRequests (insertRequest { r with band := (u.seatDef i).band }
          (u.floor.requests.filter fun x => decide (x.seat ≠ i))) u with hv
        have hvr : v.requesting i = true := by
          rw [requesting_iff]
          exact ⟨_, mem_insertRequest.mpr (.inl rfl), hi⟩
        have hst : Steady u v := setRequests_steady _ u
        rw [hcons, hpass, barCheckAs_of_barred _ (show v.speaking i = false from hsp) hvr ((hst.barred i).trans hbar)]
        refine ⟨?_, refuse_refusal_same _ i _, ?_⟩
        · have hvf : v.floor.requests.filter (fun x => decide (x.seat ≠ i))
              = s.floor.requests.filter fun x => decide (x.seat ≠ i) := by
            rw [← hg.floor]
            refine (insertRequest_filter (e := { r with band := (u.seatDef i).band }) hi _).trans ?_
            simp [List.filter_filter]
          rw [refuse_floor, withdrawSeat_floor, hvf]
          simp only [hv, setRequests, State.setFloor_floor, hg.floor]
        · rw [refuse_log, withdrawSeat_log]
          exact hg.log

/-- A barred seat's ordinary speech is closed ALLOWANCE, by the pass where its role changed, else by the bar (R44). -/
theorem Regiven.barred_speech {e : SpeakerEntry} (he : e ∈ s.floor.speakers) (hi : e.seat = i)
    (hc : e.chairClass = false) (hmay : (u.seatDef i).maySpeak = true) (hfree : (u.effRole i).restricted = false) :
    Closed e .allowance s (roleConsequences s u) := by
  have ho := open_of_entry hs (.inl ((speaking_iff s i).mpr ⟨e, he, hi⟩))
  have hclose : allowanceCheckAs s.boundAttendee i u = closeAdvanceAs s.boundAttendee .allowance i u :=
    allowanceCheckAs_of_barred _ (hg.speaker hs he hi) hc hb
  have hcons := hg.consequences_speaking hs ho he hi
  have heq : roleConsequences s u = closeAdvanceAs s.boundAttendee .allowance i u := by
    by_cases hch : s.effRole i = u.effRole i
    · have hsp : u.speaking i = true := (hg.speaking i).trans ((speaking_iff s i).mpr ⟨e, he, hi⟩)
      rw [hcons, hg.speakerPass_same hs he hi hch, if_pos hnew, barCheckAs_of_speaking _ hsp, hclose]
    · obtain ⟨hsp, hrq⟩ := hg.closed_absent hs he hi .allowance
      have hno : ¬ ((u.seatDef i).maySpeak = false ∨ (u.effRole i).restricted = true) := by simp [hmay, hfree]
      rw [hcons, hg.speakerPass_eq hs he hi hch, if_neg hno, if_pos (hc.trans hchair.symm), hclose,
        barNew_of_absent hsp hrq]
  rw [heq]
  exact hg.closed hs he hi .allowance

end regiven

end Sys2Proof.Machine
end

section
/-! What a fetched identity writes at its seat and in the roster (R79, R82), and what the other seats see of it. -/

open Sys2Proof Sys2Proof.Machine

namespace Sys2Proof.Machine

/-! ## One seat's record -/

/-- Between `s` and `u` one seat has been found PRESENT with a card part, and beside it only the roster and the notice
marks may differ. -/
structure CardTaken (i : SeatId) (c : CardPart) (s u : State) : Prop where
  floor : u.floor = s.floor
  log : u.log = s.log
  roles : u.roles = s.roles
  current : u.seq.current = s.seq.current
  seat : u.seat i = { s.seat i with presence := .present, missCount := 0, card := c }
  others : ∀ j, j ≠ i → u.seat j = s.seat j

/-- The roster reads the same at every seat but one, and its attendees and totals are the same. -/
structure RosterSeen (i : SeatId) (s u : State) : Prop where
  assigned : ∀ j, j ≠ i → u.assignedAttendee j = s.assignedAttendee j
  entries : ∀ a, (u.rosterEntry a).map (fun x => (x.attendee, x.total))
    = (s.rosterEntry a).map fun x => (x.attendee, x.total)

theorem RosterSeen.ofRoster {i : SeatId} {s u : State} (h : u.seq.roster = s.seq.roster) : RosterSeen i s u :=
  ⟨fun j _ => by simp [State.assignedAttendee, h], fun a => by simp [State.rosterEntry, h]⟩

/-- A write at a place where a search finds nothing does not change what it finds. -/
theorem find?_modify_of_neg {α : Type} {p : α → Bool} {f : α → α} (hf : ∀ x, p (f x) = p x) (l : List α) (n : Nat)
    (hn : ∀ x, l[n]? = some x → p x = false) : (l.modify n f).find? p = l.find? p := by
  induction l generalizing n with
  | nil => simp
  | cons y l ih =>
    cases n with
    | zero =>
      have hy : p y = false := hn y rfl
      simp [hf, hy]
    | succ n =>
      simp only [List.modify_succ_cons, List.find?_cons]
      rw [ih n hn]

theorem RosterSeen.ofBound {i : SeatId} {s u : State} {r : List RosterEntry} {n : Nat} {x : RosterEntry}
    (hs : s.seq.roster = some r) (hx : r[n]? = some x) (hseat : x.attendee.seat = none ∨ x.attendee.seat = some i)
    (hu : u.seq.roster = some (r.modify n fun y => { y with boundSeat := some i })) : RosterSeen i s u where
  assigned j hj := by
    simp only [State.assignedAttendee, hs, hu, Option.getD_some]
    refine find?_modify_of_neg (p := fun y => y.attendee.seat == some j) (f := fun y => { y with boundSeat := some i })
      (fun _ => rfl) r n fun y hy => ?_
    obtain rfl : x = y := Option.some.inj (hx.symm.trans hy)
    rcases hseat with h | h <;> simp [h, Ne.symm hj]
  entries a := by
    have hmap := map_modify_of_eq (fun y : RosterEntry => (y.attendee, y.total))
      (fun y => { y with boundSeat := some i }) (fun _ => rfl) r n
    simp only [State.rosterEntry, hs, hu, Option.getD_some, ← List.getElem?_map, hmap]

/-! ## What the other seats see -/

section seen
variable {i : SeatId} {c : CardPart} {s u : State} (h : CardTaken i c s u) (hr : RosterSeen i s u)
include h hr

omit h in
theorem RosterSeen.roleAt (a : Option Nat) : (a.bind u.rosterEntry).bind (·.attendee.role)
    = (a.bind s.rosterEntry).bind (·.attendee.role) := by
  have hmap (o : Option RosterEntry) : o.bind (·.attendee.role)
      = (o.map fun x => (x.attendee, x.total)).bind (·.1.role) := by cases o <;> rfl
  cases a with
  | none => rfl
  | some a => rw [Option.bind_some, Option.bind_some, hmap, hmap, hr.entries]

theorem CardTaken.effRole {j : SeatId} (hj : j ≠ i) : u.effRole j = s.effRole j := by
  simp only [State.effRole, State.uncardedRole, h.others j hj, hr.assigned j hj, h.floor, hr.roleAt]

omit h hr in
/-- The bar reads the spoken total of the attendee bound at the seat (R43). -/
theorem attendeeBarred_eq (t : State) (j : SeatId) : t.attendeeBarred j =
    (((t.boundAttendee j).bind t.rosterEntry).map fun x => (x.attendee, x.total)).any fun p =>
      decide (0 < t.floor.policy.allowance ∧ t.floor.policy.allowance ≤ p.2) := by
  unfold State.attendeeBarred
  cases (t.boundAttendee j).bind t.rosterEntry <;> rfl

theorem CardTaken.attendeeBarred {j : SeatId} (hj : j ≠ i) : u.attendeeBarred j = s.attendeeBarred j := by
  have hb : u.boundAttendee j = s.boundAttendee j := by simp [State.boundAttendee, h.others j hj]
  rw [attendeeBarred_eq, attendeeBarred_eq, hb, h.floor]
  cases s.boundAttendee j with
  | none => rfl
  | some a => rw [Option.bind_some, Option.bind_some, hr.entries]

theorem CardTaken.regiven : Regiven i s u where
  floor := h.floor
  log := h.log
  roles := h.roles
  current := h.current
  refusal := by rw [h.seat]
  effRole j hj := h.effRole hr hj
  eligible j hj := by
    simp only [State.eligibleToSpeak, State.barred, State.seatDef, State.roleDef, h.roles, h.effRole hr hj,
      h.attendeeBarred hr hj, h.others j hj]
  bound j hj := by simp [State.boundAttendee, h.others j hj]

end seen

/-! ## The seat's own role -/

section own
variable {i : SeatId} {c : CardPart} {s u : State} (h : CardTaken i c s u)
include h

theorem CardTaken.boundAttendee : u.boundAttendee i = if c.state = .bound then c.attendee else none := by
  simp [State.boundAttendee, h.seat]

theorem CardTaken.not_barred (hc : c.state ≠ .bound) : u.attendeeBarred i = false := by
  simp [State.attendeeBarred, h.boundAttendee, hc]

/-! ### The cases of R84 that a card gives -/

theorem CardTaken.effRole_held (hc : c.state = .held) : u.effRole i = ⟨(s.seat i).defaultRole, false⟩ := by
  simp [State.effRole, h.seat, hc]

theorem CardTaken.effRole_unlisted (hc : c.state = .unlisted) :
    u.effRole i = ⟨c.role.getD (s.seat i).defaultRole, s.floor.policy.closedList⟩ := by
  simp [State.effRole, h.seat, h.floor, hc]

theorem CardTaken.effRole_duplicate (hc : c.state = .duplicate) :
    u.effRole i = ⟨c.role.getD (s.seat i).defaultRole, true⟩ := by
  simp [State.effRole, h.seat, hc]

theorem CardTaken.effRole_bound (hc : c.state = .bound) : u.effRole i =
    ⟨((c.attendee.bind u.rosterEntry).bind (·.attendee.role)).getD (c.role.getD (s.seat i).defaultRole), false⟩ := by
  simp [State.effRole, h.seat, hc]

theorem CardTaken.refusalFor (hn : c.state ≠ .none) (hr : c.state ≠ .reading) : u.refusalFor i =
    if c.state = .duplicate then .cardInUse else if u.barred i then .timeUsed else .notPermitted := by
  simp [State.refusalFor, h.seat, noCard, hn, hr]

end own

/-! ## The places of a card (R79, R82) -/

section place
variable {i : SeatId} {s v : State}

/-- A write of the card part of a seat that has been found PRESENT. -/
theorem CardTaken.modCard {c : CardPart} (h : CardTaken i c s v) (d : CardPart) :
    CardTaken i d s (Machine.modCard i (fun _ => d) v) where
  floor := h.floor
  log := h.log
  roles := h.roles
  current := h.current
  seat := by
    unfold Machine.modCard
    rw [State.modSeat_seat_same, h.seat]
  others j hj := by
    unfold Machine.modCard
    rw [State.modSeat_seat, if_neg hj]
    exact h.others j hj

theorem CardTaken.setBoundSeat {c : CardPart} (h : CardTaken i c s v) (n : Nat) (o : Option SeatId) :
    CardTaken i c s (Machine.setBoundSeat n o v) := ⟨h.floor, h.log, h.roles, h.current, h.seat, h.others⟩

theorem findAttendee_eq_none {identity : List Byte} {r : List RosterEntry} (hr : v.seq.roster = some r)
    (h : ∀ x ∈ r, x.attendee.card ≠ some identity) : v.findAttendee identity = none := by
  refine List.find?_eq_none.mpr fun p hp => ?_
  simp only [State.rosterList, hr, Option.getD_some] at hp
  have hmem := List.mem_of_getElem? (List.mem_zipIdx_iff_getElem?.mp hp)
  simpa using h p.1 hmem

theorem findAttendee_eq_some {identity : List Byte} {r : List RosterEntry} {n : Nat} {x : RosterEntry}
    (hr : v.seq.roster = some r) (hx : r[n]? = some x) (hc : x.attendee.card = some identity)
    (hfirst : ∀ m < n, ∀ y, r[m]? = some y → y.attendee.card ≠ some identity) :
    v.findAttendee identity = some (x, n) := by
  obtain ⟨hn, hget⟩ := List.getElem?_eq_some_iff.mp hx
  unfold State.findAttendee State.rosterList
  rw [hr, Option.getD_some]
  refine List.find?_eq_some_iff_getElem.mpr ⟨by simp [hc], n, by simpa using hn, by simp [hget], fun m hm => ?_⟩
  have := hfirst m hm r[m] (List.getElem?_eq_getElem (hm.trans hn))
  simpa using this

section reading
variable {c : CardPart} (h : CardTaken i c s v) (hread : c.state = .reading) {identity : List Byte}
include h hread

theorem takeIdentity_none : takeIdentity i [] v = modCard i (fun _ => CardPart.empty) v := by
  have hstate : (v.seat i).card.state = .reading := by rw [h.seat]; exact hread
  simp [takeIdentity, hstate]

theorem takeIdentity_unreadable (hne : identity ≠ []) (hlen : identity.length < 4 ∨ 16 < identity.length) :
    takeIdentity i identity v = modCard i (fun _ => { CardPart.empty with unreadable := true }) v := by
  have hstate : (v.seat i).card.state = .reading := by rw [h.seat]; exact hread
  simp [takeIdentity, hstate, hne, hlen]

theorem takeIdentity_placed (h4 : 4 ≤ identity.length) (h16 : identity.length ≤ 16) :
    takeIdentity i identity v = placeCard i identity (v.cardRole identity) v := by
  have hstate : (v.seat i).card.state = .reading := by rw [h.seat]; exact hread
  unfold takeIdentity
  rw [if_neg (not_not.mpr hstate), if_neg (by omega), if_neg (by omega)]

end reading

section placed
variable {identity : List Byte} {role : RoleId}

theorem placeCard_held (hr : v.seq.roster = none) : placeCard i identity role v
    = modCard i (fun _ => ⟨.held, some identity, some role, none, false⟩) v := by
  unfold placeCard
  rw [if_pos hr]

theorem placeCard_unlisted {r : List RosterEntry} (hr : v.seq.roster = some r)
    (h : ∀ x ∈ r, x.attendee.card ≠ some identity) : placeCard i identity role v
      = modCard i (fun _ => ⟨.unlisted, some identity, some role, none, false⟩) v := by
  unfold placeCard
  rw [if_neg (by simp [hr]), findAttendee_eq_none hr h]

variable {r : List RosterEntry} {n : Nat} {x : RosterEntry} (hr : v.seq.roster = some r)
  (hf : v.findAttendee identity = some (x, n))
include hr hf

theorem placeCard_bound (hb : x.boundSeat = none) : placeCard i identity role v
    = setBoundSeat n (some i) (modCard i (fun _ => ⟨.bound, some identity, some role, some n, false⟩) v) := by
  unfold placeCard
  rw [if_neg (by simp [hr]), hf]
  exact if_pos hb

theorem placeCard_duplicate (hb : x.boundSeat ≠ none) : placeCard i identity role v
    = modCard i (fun _ => ⟨.duplicate, some identity, some role, some n, false⟩) v := by
  unfold placeCard
  rw [if_neg (by simp [hr]), hf]
  exact if_neg hb

end placed

end place

end Sys2Proof.Machine
end

section
/-! The end of a clean FETCH: the line's count, the identity taken as one change, and the next exchange (R79, R184). -/

open Sys2Proof Sys2Proof.Machine

namespace Sys2Proof.Machine

/-! ## What the marks and the levels leave of a seat -/

/-- The presence, the miss count and the card part of a seat. -/
def SeatRec.unit (r : SeatRec) : Presence × Nat × CardPart := (r.presence, r.missCount, r.card)

theorem SeatRec.Remarked.unit {r r' : SeatRec} (h : r.Remarked r') : r'.unit = r.unit := by
  obtain ⟨_, _, rfl⟩ := h
  rfl

theorem markLevels_unit (r : SeatRec) : (markLevels r).unit = r.unit := by
  have hm : (markMicStage r).unit = r.unit := by unfold markMicStage; repeat' split <;> try rfl
  have hs (q : SeatRec) : (markSpeakerStage q).unit = q.unit := by unfold markSpeakerStage; split <;> rfl
  unfold markLevels
  split
  · rw [hs, hm]
  · rfl

theorem recompute_unit (s : State) (i : SeatId) : ((recompute s).seat i).unit = (s.seat i).unit := by
  have hr : (s.retargeted s.liveSeats i).unit = (s.seat i).unit := by
    unfold State.retargeted
    dsimp only
    split <;> rfl
  unfold recompute
  simp only [State.seat, State.setSeats, Fin.getElem_fin, Vector.getElem_ofFn]
  split
  · rw [markLevels_unit]; exact hr
  · exact hr

theorem markDisplays_unit (s0 s1 : State) (i : SeatId) : ((markDisplays s0 s1).seat i).unit = (s1.seat i).unit := by
  unfold markDisplays
  simp only [State.seat, State.setSeats, State.setScreens, Fin.getElem_fin, Vector.getElem_ofFn]
  unfold markSeatDisplays
  split <;> rfl

theorem change_unit (f : State → State) (s : State) (i : SeatId) : ((change f s).seat i).unit = ((f s).seat i).unit := by
  have hn (v : State) : ((markSeatNotices s v).seat i).unit = (v.seat i).unit :=
    markSeatNotices_keeps (fun v => (v.seat i).unit) (fun _ _ => rfl) s v
  have hf (v : State) : ((if s.floorReport = v.floorReport then v else markFloor v).seat i).unit = (v.seat i).unit := by
    split <;> rfl
  have hc : ((roleConsequences s (f s)).seat i).unit = ((f s).seat i).unit :=
    (congrArg SeatRec.unit ((roleConsequences_steady s (f s)).seats i) :)
  unfold change finishChange
  dsimp only
  rw [markDisplays_unit, hf, hn]
  split
  · rw [recompute_unit, hc]
  · exact hc

/-! ## A clean exchange with a unit in service (R184) -/

theorem recordClean_taken {s v : State} {i : SeatId} (hf : v.floor = s.floor) (hl : v.log = s.log)
    (hr : v.roles = s.roles) (hc : v.seq.current = s.seq.current) (hseats : ∀ j, v.seat j = s.seat j)
    (h : inService (s.seat i).presence = true) : CardTaken i (s.seat i).card s (recordClean (.seat i) v) := by
  have hset : CardTaken i (s.seat i).card s (setPresence (.seat i) .present 0 v) := by
    refine ⟨hf, hl, hr, hc, ?_, fun j hj => ?_⟩
    · unfold setPresence
      rw [State.modSeat_seat_same, hseats]
    · unfold setPresence
      rw [State.modSeat_seat, if_neg hj, hseats]
  have hp : v.presence (.seat i) = (s.seat i).presence := congrArg SeatRec.presence (hseats i)
  unfold recordClean
  rw [hp]
  cases hpres : (s.seat i).presence with
  | present => exact hset
  | silent => exact ⟨hset.floor, hset.log, hset.roles, hset.current, hset.seat, hset.others⟩
  | _ => rw [hpres] at h; exact absurd h (by decide)

theorem recordClean_seq (u : Station) (s : State) : (recordClean u s).seq = s.seq := by
  unfold recordClean
  split
  · cases u <;> rfl
  · cases u <;> rfl
  · rfl

theorem recordClean_kept (u : Station) (s : State) :
    KeptBut [.floor, .log, .seats, .screens, .marks] s (recordClean u s) :=
  outer_keptBut (outer_recordClean u s) (recordClean_seq u s)

theorem takeIdentity_kept (i : SeatId) (c : List Byte) (s : State) :
    KeptBut [.seats, .sequencer] s (takeIdentity i c s) := by
  have hcard (f : CardPart → CardPart) : KeptBut [.seats, .sequencer] s (modCard i f s) :=
    (modSeat_kept i _ s).mono (by decide)
  unfold takeIdentity
  split
  · exact .refl _ s
  · split
    · exact hcard _
    · split
      · exact hcard _
      · exact placeCard_kept i c _ s

/-! ## The line -/

/-- What follows on a line leaves its counts of clean and of other exchanges. -/
theorem nextExchange_counts (l : LineId) (s : State) :
    ((nextExchange l s).line l).consecutive = (s.line l).consecutive
      ∧ ((nextExchange l s).line l).others = (s.line l).others := by
  have harb {t : State} (h : Arbitrated l s t) :
      (t.line l).consecutive = (s.line l).consecutive ∧ (t.line l).others = (s.line l).others := by
    obtain ⟨_, _, _, _, _, _, _, hx⟩ := h.line
    rw [hx]
    exact ⟨rfl, rfl⟩
  unfold nextExchange
  dsimp only
  split
  · exact harb (arbiter_arbitrated l s)
  · split
    · unfold beginEnumeration
      rw [State.modLine_line]
      exact ⟨rfl, rfl⟩
    · split
      · exact harb (putExchange_arbitrated l _ s)
      · exact harb (arbiter_arbitrated l s)

theorem nextExchange_passed (l : LineId) (s : State) : Passed s (nextExchange l s) := by
  have hk := nextExchange_kept l s
  refine ⟨hk.same .floor (by cases l <;> decide), hk.same .log (by cases l <;> decide), fun i => ?_⟩
  obtain ⟨_, _, hx⟩ := nextExchange_seats l s i
  rw [hx]

theorem chooseFrame_seat (s : State) (i : SeatId) : (chooseFrame s).seat i = s.seat i := by
  have hs : (chooseFrame s).seats = s.seats := (chooseFrame_kept s).same .seats (by decide)
  unfold State.seat
  rw [hs]

theorem chooseFrame_passed (s : State) : Passed s (chooseFrame s) :=
  ⟨(chooseFrame_kept s).same .floor (by decide), (chooseFrame_kept s).same .log (by decide),
    fun i => by rw [chooseFrame_seat]⟩

/-! ## The event -/

/-- The state in which the identity of a clean FETCH is taken. -/
def State.fetched (l : LineId) (i : SeatId) (s : State) : State :=
  recordClean (.seat i) (quietLine l ((sentClean l s).modLine l otherEnded))

/-- What a clean FETCH leaves at its end; `u` is the state in which the identity has been taken. -/
structure FetchEnds (l : LineId) (i : SeatId) (s u t : State) : Prop where
  passed : Passed (roleConsequences s u) t
  seat : (t.seat i).unit = (u.seat i).unit
  seq : t.seq = u.seq
  consecutive : (t.line l).consecutive = 0
  others : (t.line l).others = (s.line l).others + 1
  kept : KeptBut [.floor, .log, .seats, .screens, .sequencer, .transmitter, .marks, Block.ofLine l] s t

theorem exec_fetchAnswer_clean {l : LineId} {i : SeatId} {a : LineAnswer} {identity : List Byte} {s : State}
    (hp : s.powered = true) (hline : OnLine l (.fetch i) s) (hj : judgeFetch (positionOfSeat i) a = .ok identity) :
    exec (.fetchAnswer l a) s = .next (settleLink (endFetch l i identity s)) := by
  have hexec : exec (.fetchAnswer l a) s = execFetchAnswer l a s := rfl
  rw [hexec]
  simp [execFetchAnswer, event, hp, State.exchangeOn, hline.2, hj]

/-- The consequences of a change depend on the cards, the default roles and the roster before it alone. -/
theorem CardTaken.consequences {i : SeatId} {s v : State} (h : CardTaken i (s.seat i).card s v)
    (hr : v.seq.roster = s.seq.roster) (u : State) : roleConsequences v u = roleConsequences s u := by
  have hcard (j : SeatId) : (v.seat j).card = (s.seat j).card ∧ (v.seat j).defaultRole = (s.seat j).defaultRole := by
    by_cases hj : j = i
    · rw [hj, h.seat]
      exact ⟨rfl, rfl⟩
    · rw [h.others j hj]
      exact ⟨rfl, rfl⟩
  have hentry : v.rosterEntry = s.rosterEntry := funext fun a => by simp [State.rosterEntry, hr]
  have heff (j : SeatId) : v.effRole j = s.effRole j := by
    simp only [State.effRole, State.uncardedRole, State.assignedAttendee, hcard j, h.floor, hr, hentry]
  refine roleConsequences_congr (fun j => ?_) (fun j => ?_) u
  · simp [State.roleKey, State.roleDef, heff, h.roles]
  · simp [State.boundAttendee, hcard]

section fetch
variable {l : LineId} {i : SeatId} {s : State} (h : inService (s.seat i).presence = true)

theorem fetched_kept (l : LineId) (i : SeatId) (s : State) :
    KeptBut [.floor, .log, .seats, .screens, .marks, Block.ofLine l] s (s.fetched l i) := by
  have h1 : KeptBut [Block.ofLine l] s (quietLine l ((sentClean l s).modLine l otherEnded)) :=
    ((modLine_kept l _ s).trans (modLine_kept l _ _)).trans (modLine_kept l _ _)
  exact (h1.mono (by cases l <;> decide)).trans ((recordClean_kept (.seat i) _).mono (by cases l <;> decide))

theorem fetched_seq (l : LineId) (i : SeatId) (s : State) : (s.fetched l i).seq = s.seq := by
  unfold State.fetched
  rw [recordClean_seq]
  unfold quietLine sentClean
  simp only [State.modLine_seq]

include h

theorem fetched_taken (l : LineId) : CardTaken i (s.seat i).card s (s.fetched l i) := by
  refine recordClean_taken ?_ ?_ ?_ ?_ (fun j => ?_) h
  all_goals unfold quietLine sentClean
  · simp only [State.modLine_floor]
  · simp only [State.modLine_log]
  · simp only [State.modLine_roles]
  · simp only [State.modLine_seq]
  · unfold State.seat
    simp only [State.modLine_seats]

theorem fetch_ends (hcalm : s.Calm) (identity : List Byte) :
    FetchEnds l i s (takeIdentity i identity (s.fetched l i)) (settleLink (endFetch l i identity s)) := by
  have htaken := fetched_taken h l
  set v := s.fetched l i with hv
  set u := takeIdentity i identity v with hu
  set w := change (takeIdentity i identity) v with hw
  have hend : endFetch l i identity s = nextExchange l w := rfl
  have hsv : KeptBut [.floor, .log, .seats, .screens, .marks, Block.ofLine l] s v := fetched_kept l i s
  have hvu : KeptBut [.seats, .sequencer] v u := takeIdentity_kept i identity v
  have huw : KeptBut [.floor, .log, .seats, .screens, .marks] u w := change_kept _ v
  have hwx := nextExchange_kept l w
  have hsx : KeptBut [.floor, .log, .seats, .screens, .sequencer, .marks, Block.ofLine l] s (nextExchange l w) :=
    (((hsv.mono (by cases l <;> decide)).trans (hvu.mono (by cases l <;> decide))).trans
      (huw.mono (by cases l <;> decide))).trans (hwx.mono (by cases l <;> decide))
  have hsettle : settleLink (nextExchange l w) = chooseFrame (nextExchange l w) := by
    obtain ⟨hq, _⟩ := hsx.same .inputQueue (by cases l <;> decide)
    have hst : (nextExchange l w).store = s.store := hsx.same .store (by cases l <;> decide)
    exact settleLink_of_atRest (hq.trans hcalm.2.1) (by rw [hst]; exact hcalm.2.2.1)
  have hck := chooseFrame_kept (nextExchange l w)
  have hline : (chooseFrame (nextExchange l w)).line l = (nextExchange l w).line l :=
    hck.line (by cases l <;> decide)
  have hwl : w.line l = (quietLine l ((sentClean l s).modLine l otherEnded)).line l :=
    outer_line (outer_takeFetch i identity (quietLine l ((sentClean l s).modLine l otherEnded))) l
  obtain ⟨hcons, hoth⟩ := nextExchange_counts l w
  rw [hend, hsettle]
  refine ⟨?_, ?_, ?_, ?_, ?_, ?_⟩
  · have hp := (change_handed (takeIdentity i identity) v).passed
    rw [htaken.consequences (by rw [hv, fetched_seq])] at hp
    exact (hp.trans (nextExchange_passed l w)).trans (chooseFrame_passed _)
  · rw [chooseFrame_seat, (nextExchange_seats l w i).unit]
    exact change_unit _ v i
  · have h1 : (chooseFrame (nextExchange l w)).seq = (nextExchange l w).seq := hck.same .sequencer (by decide)
    have h2 : (nextExchange l w).seq = w.seq := hwx.same .sequencer (by cases l <;> decide)
    exact (h1.trans h2).trans (seq_change _ v)
  · rw [hline, hcons, hwl]
    simp [quietLine, sentClean, otherEnded]
  · rw [hline, hoth, hwl]
    simp [quietLine, sentClean, otherEnded]
  · exact (hsx.mono (by cases l <;> decide)).trans (hck.mono (by cases l <;> decide))

end fetch

end Sys2Proof.Machine
end

section
/-! A fetched identity acts: the card part, the binding and the role it gives (R79, R82, R84, R86). -/

open Sys2Proof Sys2Proof.Machine

namespace Sys2Proof.Machine

/-! ## The identity is taken -/

section taken
variable {i : SeatId} {c : CardPart} {s v : State} (h : CardTaken i c s v) (identity : List Byte)
include h

theorem CardTaken.placeCard (role : RoleId) : ∃ d, CardTaken i d s (Machine.placeCard i identity role v) := by
  unfold Machine.placeCard
  dsimp only
  split
  · exact ⟨_, h.modCard _⟩
  · split
    · exact ⟨_, h.modCard _⟩
    · split
      · exact ⟨_, (h.modCard _).setBoundSeat _ _⟩
      · exact ⟨_, h.modCard _⟩

/-- Whatever the identity, the seat is found PRESENT with some card part. -/
theorem CardTaken.takeIdentity : ∃ d, CardTaken i d s (Machine.takeIdentity i identity v) := by
  unfold Machine.takeIdentity
  split
  · exact ⟨_, h⟩
  · split
    · exact ⟨_, h.modCard _⟩
    · split
      · exact ⟨_, h.modCard _⟩
      · exact h.placeCard identity _

end taken

section ends
variable {l : LineId} {i : SeatId} {c : CardPart} {s u t : State} (h : FetchEnds l i s u t) (hc : CardTaken i c s u)
include h hc

theorem FetchEnds.unit_eq : (t.seat i).presence = .present ∧ (t.seat i).missCount = 0 ∧ (t.seat i).card = c := by
  have hu : (t.seat i).unit = (.present, 0, c) := by
    rw [h.seat, hc.seat]
    rfl
  exact ⟨congrArg Prod.fst hu, congrArg (·.2.1) hu, congrArg (·.2.2) hu⟩

/-- A card that binds nobody gives its role at once (R84, R86). -/
theorem FetchEnds.roleGiven_of_unbound (hroster : u.seq.roster = s.seq.roster) (hs : s.floor.Sound)
    (hstate : c.state = .held ∨ c.state = .unlisted ∨ c.state = .duplicate) :
    RoleGiven i (u.effRole i) (if c.state = .duplicate then .cardInUse else .notPermitted) s t := by
  have hn : c.state ≠ .none ∧ c.state ≠ .reading ∧ c.state ≠ .bound := by
    rcases hstate with h | h | h <;> rw [h] <;> decide
  obtain ⟨hnone, hreading, hbound⟩ := hn
  have hfree : Unbarred i s u := .inl (hc.not_barred hbound)
  have hcode := hc.refusalFor hnone hreading
  rw [hfree.barred, if_neg Bool.false_ne_true] at hcode
  rw [← hcode]
  exact (hc.regiven (.ofRoster hroster)).roleGiven hs hfree h.passed

end ends

/-! ## An attendee is bound -/

/-- What the binding of an attendee leaves: `u` is the state in which the identity has been taken. -/
structure AttendeeBound (i : SeatId) (identity : List Byte) (role : RoleId) (r : List RosterEntry) (n : Nat)
    (x : RosterEntry) (s u : State) : Prop where
  taken : CardTaken i ⟨.bound, some identity, some role, some n, false⟩ s u
  before : s.seq.roster = some r
  entry : r[n]? = some x
  after : u.seq.roster = some (r.modify n fun y => { y with boundSeat := some i })
  reading : (s.seat i).card.state = .reading

namespace AttendeeBound

variable {l : LineId} {i : SeatId} {identity : List Byte} {role : RoleId} {r : List RosterEntry} {n : Nat}
  {x : RosterEntry} {s u t : State} (h : AttendeeBound i identity role r n x s u)
include h

theorem rosterEntry : u.rosterEntry n = some { x with boundSeat := some i } := by
  simp [State.rosterEntry, h.after, h.entry]

theorem roster : u.seq.roster = some (r.set n { x with boundSeat := some i }) := by
  rw [h.after, List.modify_eq_set_getElem?, h.entry]
  rfl

theorem effRole : u.effRole i = ⟨x.attendee.role.getD role, false⟩ := by
  rw [h.taken.effRole_bound rfl]
  simp [h.rosterEntry]

theorem attendeeBarred : u.attendeeBarred i
    = decide (0 < s.floor.policy.allowance ∧ s.floor.policy.allowance ≤ x.total) := by
  rw [attendeeBarred_eq, h.taken.boundAttendee, h.taken.floor]
  simp [h.rosterEntry]

theorem newlyBound : s.newlyBound u i = true := by
  have hbefore : s.boundAttendee i = none := by simp [State.boundAttendee, h.reading]
  have hafter : u.boundAttendee i = some n := h.taken.boundAttendee
  simp [State.newlyBound, hbefore, hafter]

theorem refusalFor : u.refusalFor i = if u.barred i then .timeUsed else .notPermitted :=
  h.taken.refusalFor (by simp) (by simp)

section role
variable (hseat : x.attendee.seat = none ∨ x.attendee.seat = some i) (hs : s.floor.Sound)
include hseat

theorem regiven : Regiven i s u := h.taken.regiven (.ofBound h.before h.entry hseat h.after)

theorem seatDef : u.seatDef i = s.roles.defs[x.attendee.role.getD role] := by
  rw [(h.regiven hseat).seatDef_self]
  simp only [h.effRole]

variable (ht : FetchEnds l i s u t)
include hs ht

/-- An attendee that the allowance does not bar, or whose new role is chair-class, gives its role (R84, R86). -/
theorem roleGiven (hfree : s.floor.policy.allowance = 0 ∨ x.total < s.floor.policy.allowance
      ∨ (s.roles.defs[x.attendee.role.getD role].chairClass = true
        ∧ s.effRole i ≠ ⟨x.attendee.role.getD role, false⟩)) :
    RoleGiven i ⟨x.attendee.role.getD role, false⟩ .notPermitted s t := by
  have hun : Unbarred i s u := by
    rcases hfree with ha | ha | ha
    · exact .inl (h.attendeeBarred.trans (decide_eq_false fun hb => by omega))
    · exact .inl (h.attendeeBarred.trans (decide_eq_false fun hb => by omega))
    · refine .inr ?_
      rw [h.seatDef hseat, h.effRole]
      exact ha
  have hgiven := (h.regiven hseat).roleGiven hs hun ht.passed
  rwa [h.effRole, h.refusalFor, hun.barred, if_neg Bool.false_ne_true] at hgiven

/-- The allowance acts on the entry of a barred attendee's seat (R43, R44). -/
theorem barred (ha : 0 < s.floor.policy.allowance) (hx : s.floor.policy.allowance ≤ x.total)
    (hchair : s.roles.defs[x.attendee.role.getD role].chairClass = false) :
    (s.requesting i = true → Withdrawn i (some .timeUsed) s t)
    ∧ ∀ e ∈ s.floor.speakers, e.seat = i → e.chairClass = false →
        s.roles.defs[x.attendee.role.getD role].maySpeak = true → Closed e .allowance s t := by
  have hg := h.regiven hseat
  have hb : u.attendeeBarred i = true := h.attendeeBarred.trans (decide_eq_true ⟨ha, hx⟩)
  have hdef := h.seatDef hseat
  rw [← hdef] at hchair ⊢
  have hcode : u.refusalFor i = .timeUsed := by
    have hbar : u.barred i = true := by simp [State.barred, hb, hchair]
    rw [h.refusalFor, if_pos hbar]
  refine ⟨fun hrq => (hg.barred_request hs hb hchair h.newlyBound hcode hrq).passed ht.passed,
    fun e he hi hc hmay => (hg.barred_speech hs hb hchair h.newlyBound he hi hc hmay ?_).passed ht.passed⟩
  rw [h.effRole]

end role

end AttendeeBound

/-- Settles O46: the identity is taken as one change, whose consequences for the floor are those of one seat's new role
and, where an attendee becomes bound, of the allowance. -/
theorem fetchAnswerTaken : Obligations.FetchAnswerTaken := by
  unfold Obligations.FetchAnswerTaken
  intro s i a identity hcalm l role hj hline hserv
  have hends := fetch_ends (l := l) hserv hcalm identity
  have htaken := fetched_taken hserv l
  have hseq : (s.fetched l i).seq = s.seq := fetched_seq l i s
  have hrole : (s.fetched l i).cardRole identity = role := by
    simp only [State.cardRole, htaken.roles, hseq, role]
  set v := s.fetched l i with hv
  obtain ⟨d, hd⟩ := htaken.takeIdentity identity
  obtain ⟨hpres, hmiss, _⟩ := hends.unit_eq hd
  refine ⟨_, exec_fetchAnswer_clean hcalm.1 hline hj, hpres, hmiss, hends.consecutive, hends.others, hends.kept,
    fun hnot => ?_, fun hread => ⟨fun hnil => ?_, fun hne hlen => ?_, fun h4 h16 => ?_⟩⟩
  · have hsame : takeIdentity i identity v = v := if_pos (by rw [htaken.seat]; exact hnot)
    rw [hsame] at hends
    obtain ⟨_, _, hcard⟩ := hends.unit_eq htaken
    exact hcard
  · rw [hnil, takeIdentity_none htaken hread] at hends
    obtain ⟨_, _, hcard⟩ := hends.unit_eq (htaken.modCard _)
    rw [hnil]
    exact hcard
  · rw [takeIdentity_unreadable htaken hread hne hlen] at hends
    obtain ⟨_, _, hcard⟩ := hends.unit_eq (htaken.modCard _)
    exact hcard
  · rw [takeIdentity_placed htaken hread h4 h16, hrole] at hends
    have hunbound (c : CardPart) (hplace : placeCard i identity role v = modCard i (fun _ => c) v)
        (hstate : c.state = .held ∨ c.state = .unlisted ∨ c.state = .duplicate) :
        ((settleLink (endFetch l i identity s)).seat i).card = c
          ∧ (s.floor.Sound → RoleGiven i ((modCard i (fun _ => c) v).effRole i)
            (if c.state = .duplicate then .cardInUse else .notPermitted) s (settleLink (endFetch l i identity s))) := by
      rw [hplace] at hends
      obtain ⟨_, _, hcard⟩ := hends.unit_eq (htaken.modCard c)
      exact ⟨hcard, fun hs => hends.roleGiven_of_unbound (htaken.modCard c) (congrArg Sequencer.roster hseq) hs hstate⟩
    refine ⟨fun hnone => ?_, fun r hr hno => ?_, fun r n x hr hx hcard hfirst => ⟨fun hfree => ?_, fun hheld => ?_⟩⟩
    · obtain ⟨hc, hg⟩ := hunbound _ (placeCard_held (by rw [hseq, hnone])) (.inl rfl)
      refine ⟨hc, fun hs => ?_⟩
      have := hg hs
      rwa [(htaken.modCard _).effRole_held rfl] at this
    · obtain ⟨hc, hg⟩ := hunbound _ (placeCard_unlisted (by rw [hseq, hr]) hno) (.inr (.inl rfl))
      refine ⟨hc, fun hs => ?_⟩
      have := hg hs
      rwa [(htaken.modCard _).effRole_unlisted rfl] at this
    · have hvr : v.seq.roster = some r := by rw [hseq, hr]
      rw [placeCard_bound hvr (findAttendee_eq_some hvr hx hcard hfirst) hfree] at hends
      have hbound : AttendeeBound i identity role r n x s (setBoundSeat n (some i)
          (modCard i (fun _ => ⟨.bound, some identity, some role, some n, false⟩) v)) :=
        ⟨(htaken.modCard _).setBoundSeat n _, hr, hx, congrArg (Option.map _) hvr, hread⟩
      obtain ⟨_, _, hc⟩ := hends.unit_eq hbound.taken
      refine ⟨hc, (congrArg Sequencer.roster hends.seq).trans hbound.roster, fun hs hseat => ⟨fun hok => ?_, ?_⟩⟩
      · exact hbound.roleGiven hseat hs hends hok
      · exact hbound.barred hseat hs hends
    · have hvr : v.seq.roster = some r := by rw [hseq, hr]
      obtain ⟨hc, hg⟩ := hunbound _
        (placeCard_duplicate hvr (findAttendee_eq_some hvr hx hcard hfirst) hheld) (.inr (.inr rfl))
      refine ⟨hc, fun hs => ?_⟩
      have := hg hs
      rwa [(htaken.modCard _).effRole_duplicate rfl] at this

end Sys2Proof.Machine
end

section
/-! The level computer: the targets that a recompute gives, the distance of two seats and the ramp of a gain (R57 to
R60, R64). -/

open Sys2Proof Sys2Proof.Machine

namespace Sys2Proof.Machine

/-! ## Recomputing (R61, R68) -/

/-- Marking the level orders that are due writes the marks alone. -/
theorem markLevels_marks (r : SeatRec) : ∃ m, markLevels r = { r with marks := m } := by
  have hmic : ∃ m, markMicStage r = { r with marks := m } := by
    unfold markMicStage
    repeat' split
    all_goals exact ⟨_, rfl⟩
  have hspeaker (q : SeatRec) : ∃ m, markSpeakerStage q = { q with marks := m } := by
    unfold markSpeakerStage
    split <;> exact ⟨_, rfl⟩
  unfold markLevels
  split
  · obtain ⟨_, h1⟩ := hmic
    obtain ⟨m, h2⟩ := hspeaker (markMicStage r)
    exact ⟨m, by rw [h2, h1]⟩
  · exact ⟨_, rfl⟩

/-- A recompute leaves a seat with its targets formed anew, and with marks. -/
theorem recompute_seat (s : State) (i : SeatId) :
    ∃ m, (recompute s).seat i = { s.retargeted s.liveSeats i with marks := m } := by
  unfold recompute
  simp only [State.seat, State.setSeats, Fin.getElem_fin, Vector.getElem_ofFn]
  split
  · exact markLevels_marks _
  · exact ⟨_, rfl⟩

theorem retargeted_of_frozen {s : State} {i : SeatId} (h : (s.seat i).frozen = true) (live : List SeatId) :
    s.retargeted live i = s.seat i := if_pos h

theorem retargeted_of_free {s : State} {i : SeatId} (h : (s.seat i).frozen = false) (live : List SeatId) :
    s.retargeted live i
      = { s.seat i with targetMic := s.micTarget live i, targetSpeaker := s.speakerTarget live i } :=
  if_neg (ne_true_of_eq_false h)

/-- A frozen seat is left as it is, its marks included (R68). -/
theorem recompute_of_frozen {s : State} {i : SeatId} (h : (s.seat i).frozen = true) :
    (recompute s).seat i = s.seat i := by
  unfold recompute
  simp only [State.seat, State.setSeats, Fin.getElem_fin, Vector.getElem_ofFn]
  have hr : s.retargeted s.liveSeats i = s.seat i := retargeted_of_frozen h _
  rw [hr]
  split
  · unfold markLevels takesLevelMarks
    rw [h]
    rfl
  · rfl

/-- A seat that is not frozen gets the targets of its rules, and marks (R61). -/
theorem recompute_of_free {s : State} {i : SeatId} (h : (s.seat i).frozen = false) :
    ∃ m, (recompute s).seat i = { s.seat i with
      targetMic := s.micTarget s.liveSeats i, targetSpeaker := s.speakerTarget s.liveSeats i, marks := m } := by
  obtain ⟨m, hm⟩ := recompute_seat s i
  exact ⟨m, by rw [hm, retargeted_of_free h]⟩

/-- A recompute touches the seats alone. -/
theorem recompute_kept (s : State) : KeptBut [.seats] s (recompute s) := by
  intro b hb
  unfold recompute
  cases b <;> simp at hb <;> simp [Block.Same]

/-! ## The distance of two seats (R59) -/

theorem lineOfSeat_seatAtPosition (l : LineId) {k : Nat} (h1 : 1 ≤ k) (h32 : k ≤ 32) :
    lineOfSeat (seatAtPosition l k) = l := by
  have hk : (k - 1) % 32 = k - 1 := Nat.mod_eq_of_lt (by omega)
  cases l
  · exact if_pos (by simp only [seatAtPosition, Fin.ofNat, hk]; omega)
  · exact if_neg (by simp only [seatAtPosition, Fin.ofNat, hk]; omega)

theorem positionOfSeat_seatAtPosition (l : LineId) {k : Nat} (h1 : 1 ≤ k) (h32 : k ≤ 32) :
    positionOfSeat (seatAtPosition l k) = k := by
  cases l <;> simp only [positionOfSeat, seatAtPosition, Fin.ofNat] <;> omega

theorem seatDistance_seatAtPosition (x y : LineId) {i j : Nat} (hi : 1 ≤ i) (hi32 : i ≤ 32) (hj : 1 ≤ j)
    (hj32 : j ≤ 32) : (seatDistance (seatAtPosition x i) (seatAtPosition y j) : Int)
      = |(i : Int) - (j : Int)| + (if x = y then 0 else 1) := by
  unfold seatDistance
  rw [lineOfSeat_seatAtPosition x hi hi32, lineOfSeat_seatAtPosition y hj hj32,
    positionOfSeat_seatAtPosition x hi hi32, positionOfSeat_seatAtPosition y hj hj32]
  dsimp only
  rcases abs_cases ((i : Int) - (j : Int)) with ⟨h, _⟩ | ⟨h, _⟩ <;> rw [h] <;> split <;> split <;> omega

theorem seatDistance_self (i : SeatId) : seatDistance i i = 0 := by simp [seatDistance]

theorem seatDistance_triangle (i j k : SeatId) : seatDistance i k ≤ seatDistance i j + seatDistance j k := by
  have hline : (if lineOfSeat i = lineOfSeat k then 0 else 1)
      ≤ (if lineOfSeat i = lineOfSeat j then 0 else 1) + (if lineOfSeat j = lineOfSeat k then 0 else 1) := by
    by_cases h : lineOfSeat i = lineOfSeat j
    · rw [h]; omega
    · rw [if_neg h]; split <;> omega
  unfold seatDistance
  dsimp only
  generalize (if lineOfSeat i = lineOfSeat k then 0 else 1) = a at hline ⊢
  generalize (if lineOfSeat i = lineOfSeat j then 0 else 1) = b at hline ⊢
  generalize (if lineOfSeat j = lineOfSeat k then 0 else 1) = c at hline ⊢
  split <;> split <;> split <;> omega

/-- Two seats at distance 0 are one. -/
theorem eq_of_seatDistance_eq_zero {i j : SeatId} (h : seatDistance i j = 0) : i = j := by
  unfold seatDistance at h
  obtain ⟨hp, hl⟩ := Nat.add_eq_zero_iff.mp h
  have hpos : positionOfSeat i = positionOfSeat j := by split at hp <;> omega
  have hline : lineOfSeat i = lineOfSeat j := by
    by_contra hne
    rw [if_neg hne] at hl
    exact absurd hl (by decide)
  have hhalf : i.val < 32 ↔ j.val < 32 := by
    unfold lineOfSeat at hline
    by_cases hi : i.val < 32 <;> by_cases hj : j.val < 32 <;> simp [hi, hj] at hline ⊢
  unfold positionOfSeat at hpos
  ext
  omega

/-- The nearest live seat is at the least of the distances. -/
theorem leastDistance_eq_min? (live : List SeatId) (i : SeatId) :
    leastDistance live i = (live.map (seatDistance i)).min? := by
  have hsome (l : List SeatId) (n : Nat) : l.foldl (fun d j =>
      match d with
      | none => some (seatDistance i j)
      | some n => some (min n (seatDistance i j))) (some n) = some ((l.map (seatDistance i)).foldl min n) := by
    induction l generalizing n with
    | nil => rfl
    | cons j l ih => exact ih _
  cases live with
  | nil => rfl
  | cons j l => exact hsome l _

/-- A distance that every live seat keeps and one has is the least. -/
theorem leastDistance_eq_some {live : List SeatId} {i : SeatId} {d : Nat} (hlow : ∀ j ∈ live, d ≤ seatDistance i j)
    (hat : ∃ j ∈ live, seatDistance i j = d) : leastDistance live i = some d := by
  obtain ⟨j, hj, hd⟩ := hat
  rw [leastDistance_eq_min?, List.min?_eq_some_iff]
  refine ⟨List.mem_map.mpr ⟨j, hj, hd⟩, fun b hb => ?_⟩
  obtain ⟨k, hk, rfl⟩ := List.mem_map.mp hb
  exact hlow k hk

/-! ## The targets (R57, R58, R60) -/

theorem clampInt_eq (hi : Nat) (x : Int) : clampInt hi x = (max 0 (min (hi : Int) x)).toNat := by
  unfold clampInt
  omega

theorem micTarget_of_live {s : State} {live : List SeatId} {i : SeatId} (h : i ∈ live) :
    s.micTarget live i = .gain (clampInt 84 ((s.masters.mic : Int) + (s.seat i).micTrim + (s.seatDef i).lift
      - attenuation s.masters live.length)) := if_pos h

theorem micTarget_of_not_live {s : State} {live : List SeatId} {i : SeatId} (h : i ∉ live) :
    s.micTarget live i = .off := if_neg h

theorem speakerTarget_of_live {s : State} {live : List SeatId} {i : SeatId} (h : i ∈ live) :
    s.speakerTarget live i = .mute := by
  unfold State.speakerTarget
  rw [leastDistance_eq_some (fun _ _ => Nat.zero_le _) ⟨i, h, seatDistance_self i⟩]
  rfl

/-- The code of a seat that is not live, by a distance up to 3 that no live seat falls below; 3 stands for further off
and for none live. -/
theorem speakerTarget_of_distance {s : State} {live : List SeatId} {i : SeatId} (h : i ∉ live) {d : Nat}
    (hlow : ∀ j ∈ live, d ≤ seatDistance i j) (hat : d < 3 → ∃ j ∈ live, seatDistance i j = d) (hd : d ≤ 3) :
    s.speakerTarget live i = .code (clampInt 120 ((s.masters.base : Int) - (s.seat i).speakerTrim
      + ((if d = 1 then s.masters.duck1 else if d = 2 then s.masters.duck2 else 0 : Nat) : Int))) := by
  have hpos : d ≠ 0 := fun h0 => by
    obtain ⟨j, hj, hz⟩ := hat (by omega)
    exact h (eq_of_seatDistance_eq_zero (hz.trans h0) ▸ hj)
  unfold State.speakerTarget
  obtain rfl | rfl | rfl : d = 1 ∨ d = 2 ∨ d = 3 := by omega
  · rw [leastDistance_eq_some hlow (hat (by omega))]
    simp
  · rw [leastDistance_eq_some hlow (hat (by omega))]
    simp
  · cases hl : leastDistance live i with
    | none => simp
    | some n =>
      rw [leastDistance_eq_min?, List.min?_eq_some_iff] at hl
      obtain ⟨j, hj, hn⟩ := List.mem_map.mp hl.1
      have hfar : 3 ≤ n := hn ▸ hlow j hj
      obtain ⟨k, rfl⟩ := Nat.exists_eq_add_of_le' hfar
      simp

/-! ## The ramp (R64) -/

section gainStep
variable {slew sent target : Nat}

theorem gainStep_of_near (hup : target ≤ sent + slew) (hdown : sent ≤ target + slew) :
    gainStep slew sent target = target := by
  unfold gainStep
  split
  · exact if_pos (by omega)
  · exact if_pos (by omega)

theorem gainStep_of_above (h : sent + slew < target) : gainStep slew sent target = sent + slew := by
  unfold gainStep
  rw [if_pos (by omega), if_neg (by omega)]

theorem gainStep_of_below (h : target + slew < sent) : gainStep slew sent target = sent - slew := by
  unfold gainStep
  rw [if_neg (by omega), if_neg (by omega)]

/-- A step stays between the gain sent and the target, and is no longer than the slew step. -/
theorem gainStep_bounds (slew sent target : Nat) :
    (min sent target ≤ gainStep slew sent target ∧ gainStep slew sent target ≤ max sent target)
      ∧ ((gainStep slew sent target : Int) - sent ≤ slew ∧ (sent : Int) - gainStep slew sent target ≤ slew) := by
  unfold gainStep
  split <;> split <;> omega

/-- The steps reach the target: each that does not brings the gain nearer by the slew step. -/
theorem gainStep_reaches (h : 0 < slew) (sent target : Nat) :
    ∃ n : Nat, (fun g => gainStep slew g target)^[n] sent = target := by
  induction hd : (target - sent) + (sent - target) using Nat.strong_induction_on generalizing sent with
  | _ d ih =>
    by_cases hnear : target ≤ sent + slew ∧ sent ≤ target + slew
    · exact ⟨1, gainStep_of_near hnear.1 hnear.2⟩
    · have hcloser : (target - gainStep slew sent target) + (gainStep slew sent target - target) < d := by
        by_cases hup : sent + slew < target
        · rw [gainStep_of_above hup]; omega
        · rw [gainStep_of_below (by omega)]; omega
      obtain ⟨n, hn⟩ := ih _ hcloser _ rfl
      exact ⟨n + 1, hn⟩

end gainStep

/-- Settles O25: a recompute's seats by their frozen mark and the live list; distances by line and position; the ramp
by the distance left. -/
theorem levelsFollowRules : Obligations.LevelsFollowRules := by
  unfold Obligations.LevelsFollowRules
  refine ⟨fun s i => ⟨recompute_kept s, recompute_of_frozen, fun hfree => ?_⟩,
    ⟨fun x y i j hi hi32 hj hj32 => seatDistance_seatAtPosition x y hi hi32 hj hj32, seatDistance_self,
      seatDistance_triangle⟩,
    fun slew sent target => ⟨gainStep_of_near, gainStep_of_above, gainStep_of_below⟩,
    fun slew sent target h => ⟨(gainStep_bounds slew sent target).1, (gainStep_bounds slew sent target).2,
      gainStep_reaches h sent target⟩⟩
  obtain ⟨m, hm⟩ := recompute_of_free hfree
  rw [hm]
  refine ⟨fun hlive => ⟨speakerTarget_of_live hlive, ?_⟩,
    fun hnot => ⟨micTarget_of_not_live hnot, fun d hlow hat hd => ?_⟩⟩
  · exact (micTarget_of_live hlive).trans (congrArg MicLevel.gain (clampInt_eq 84 _))
  · refine (speakerTarget_of_distance hnot hlow hat hd).trans (congrArg SpeakerLevel.code ?_)
    rw [clampInt_eq]
    rfl

end Sys2Proof.Machine
end

section
/-! SET_LEVELS and SET_TRIM: a change that the level computer alone sees (R54, R55, R61). -/

open Sys2Proof Sys2Proof.Machine

namespace Sys2Proof.Machine

/-! ## Changes of the levels alone -/

/-- A seat's record less its trims, its targets and its pending set. -/
def SeatRec.lessLevels (r : SeatRec) : SeatRec :=
  { r with
    marks := SeatPending.empty
    micTrim := 0
    speakerTrim := 0
    targetMic := .off
    targetSpeaker := .mute }

/-- Two states agree on all but the master inputs, the trims, the targets, the pending sets and the frames to the
host. -/
structure LevelsOnly (s u : State) : Prop where
  kept : KeptBut [.masters, .seats, .transmitter] s u
  seats : ∀ i, (u.seat i).lessLevels = (s.seat i).lessLevels

theorem LevelsOnly.trans {s t u : State} (h : LevelsOnly s t) (k : LevelsOnly t u) : LevelsOnly s u :=
  ⟨h.kept.trans k.kept, fun i => (k.seats i).trans (h.seats i)⟩

theorem LevelsOnly.ofSeats {s u : State} (h : KeptBut [.masters, .seats, .transmitter] s u) (hs : u.seats = s.seats) :
    LevelsOnly s u := ⟨h, fun i => by rw [State.seat, hs]; rfl⟩

theorem recompute_levelsOnly (s : State) : LevelsOnly s (recompute s) := by
  refine ⟨(recompute_kept s).mono (by decide), fun i => ?_⟩
  obtain ⟨m, hm⟩ := recompute_seat s i
  have hr : (s.retargeted s.liveSeats i).lessLevels = (s.seat i).lessLevels := by
    unfold State.retargeted
    dsimp only
    split <;> rfl
  rw [hm]
  exact hr

theorem recompute_link (s : State) : (recompute s).link = s.link := by
  unfold recompute
  exact State.setSeats_link _ _

theorem setMasters_levelsOnly (m : Masters) (s : State) : LevelsOnly s (s.setMasters m) := by
  refine .ofSeats (fun b hb => ?_) rfl
  cases b <;> simp at hb <;> simp [Block.Same]

theorem taken_levelsOnly (s : State) : LevelsOnly s s.taken := .ofSeats ((taken_keptBut s).mono (by decide)) rfl

theorem send_levelsOnly (f : OutFrame) (s : State) : LevelsOnly s (s.send f) :=
  .ofSeats ((send_keptBut f s).mono (by decide)) (send_seats s f)

/-- New trims at one seat. -/
def setTrims (i : SeatId) (t u : Int) (s : State) : State :=
  s.modSeat i fun r => { r with micTrim := t, speakerTrim := u }

theorem setTrims_seat (i j : SeatId) (t u : Int) (s : State) : (setTrims i t u s).seat j = { s.seat j with
    micTrim := if j = i then t else (s.seat j).micTrim
    speakerTrim := if j = i then u else (s.seat j).speakerTrim } := by
  rw [setTrims, State.modSeat_seat]
  split
  · next h => rw [h]
  · rfl

theorem setTrims_levelsOnly (i : SeatId) (t u : Int) (s : State) : LevelsOnly s (setTrims i t u s) := by
  refine ⟨(modSeat_kept i _ s).mono (by decide), fun j => ?_⟩
  rw [setTrims_seat]
  rfl

/-! ## What other blocks see of such a change -/

namespace LevelsOnly
variable {s u : State} (h : LevelsOnly s u)
include h

theorem floor : u.floor = s.floor := h.kept.same .floor (by decide)
theorem roles : u.roles = s.roles := h.kept.same .roles (by decide)
theorem seq : u.seq = s.seq := h.kept.same .sequencer (by decide)
theorem clock : u.clock = s.clock := h.kept.same .clock (by decide)
theorem screens : u.screens = s.screens := h.kept.same .screens (by decide)
theorem card (i : SeatId) : (u.seat i).card = (s.seat i).card := (congrArg SeatRec.card (h.seats i) :)
theorem defaultRole (i : SeatId) : (u.seat i).defaultRole = (s.seat i).defaultRole :=
  (congrArg SeatRec.defaultRole (h.seats i) :)

theorem rosterEntry : u.rosterEntry = s.rosterEntry := by
  funext a
  simp only [State.rosterEntry, h.seq]

theorem assignedAttendee (i : SeatId) : u.assignedAttendee i = s.assignedAttendee i := by
  simp only [State.assignedAttendee, h.seq]

theorem effRole (i : SeatId) : u.effRole i = s.effRole i := by
  simp only [State.effRole, State.uncardedRole, h.card, h.defaultRole, h.assignedAttendee, h.rosterEntry, h.floor]

theorem seatDef (i : SeatId) : u.seatDef i = s.seatDef i := by
  simp only [State.seatDef, State.roleDef, h.effRole, h.roles]

theorem roleKey (i : SeatId) : u.roleKey i = s.roleKey i := by
  simp only [State.roleKey, State.roleDef, h.effRole, h.roles]

theorem boundAttendee (i : SeatId) : u.boundAttendee i = s.boundAttendee i := by
  simp only [State.boundAttendee, h.card]

theorem speaker (i : SeatId) : u.speaker i = s.speaker i := by simp only [State.speaker, h.floor]

theorem labelOf (i : SeatId) : u.labelOf i = s.labelOf i := by
  have hhost : (u.seat i).hostLabel = (s.seat i).hostLabel := (congrArg SeatRec.hostLabel (h.seats i) :)
  simp only [State.labelOf, h.boundAttendee, h.rosterEntry, h.assignedAttendee, hhost]

theorem itemsDue (i : ItemId) : itemsDue s u i = false := by
  have hreport : u.floorReport = s.floorReport := floorReport_of_floor h.floor
  have hspeakers : u.speakerSlotInputs = s.speakerSlotInputs := by
    simp only [State.speakerSlotInputs, hreport, h.floor, h.labelOf]
  have hqueue : u.queueSlotInputs = s.queueSlotInputs := by
    simp only [State.queueSlotInputs, hreport, h.floor, h.labelOf]
  have htitle : u.titleInputs = s.titleInputs := by simp only [State.titleInputs, h.seq]
  have hclock : u.clockItem = s.clockItem := by simp only [State.clockItem, State.entry, State.now, h.seq, h.clock]
  unfold Machine.itemsDue
  rw [hspeakers, hqueue, htitle]
  split
  · simp
  · split
    · next h0 h1 => simp [State.itemKey, h1, hclock]
    · simp

/-- Nothing is to be handed on of a change of the levels alone. -/
theorem unreported : Unreported s u where
  roles i := (h.roleKey i).symm
  bound i := (h.boundAttendee i).symm
  levels := by
    refine List.any_eq_false.mpr fun i _ => ?_
    have hlive : u.live i = s.live i := by simp only [State.live, h.floor]
    rw [h.speaker, hlive, h.roleKey]
    cases s.speaker i <;> simp
  seats i := by
    have hpresence : (u.seat i).presence = (s.seat i).presence := (congrArg SeatRec.presence (h.seats i) :)
    have hkind : (u.seat i).kind = (s.seat i).kind := (congrArg SeatRec.kind (h.seats i) :)
    simp only [State.seatReport, hpresence, hkind, h.card, h.roleKey]
  screens j := by simp only [State.screen, h.screens]
  floor := (floorReport_of_floor h.floor).symm
  labels i := by
    have hhost : (u.seat i).hostLabel = (s.seat i).hostLabel := (congrArg SeatRec.hostLabel (h.seats i) :)
    simp only [State.labelInputs, h.boundAttendee, h.rosterEntry, h.assignedAttendee, h.seq, hhost]
  status i := by
    have hrefusal : (u.seat i).refusal = (s.seat i).refusal := (congrArg SeatRec.refusal (h.seats i) :)
    have hposition : u.position i = s.position i := by simp only [State.position, h.floor]
    simp only [State.statusInputs, State.inLobby, h.floor, h.seq, h.speaker, hrefusal, hposition]
  items := h.itemsDue

theorem liveSeats : u.liveSeats = s.liveSeats := by simp only [State.liveSeats, h.floor]

/-- The targets of a seat depend on the master inputs and its trims alone among what may differ. -/
theorem targets (hm : u.masters = s.masters) {i : SeatId} (ht : (u.seat i).micTrim = (s.seat i).micTrim)
    (hs : (u.seat i).speakerTrim = (s.seat i).speakerTrim) (live : List SeatId) :
    u.micTarget live i = s.micTarget live i ∧ u.speakerTarget live i = s.speakerTarget live i := by
  simp only [State.micTarget, State.speakerTarget, hm, ht, hs, h.seatDef, and_self]

end LevelsOnly

/-- A change of the levels alone comes to its recompute (R61). -/
theorem changeLevels_eq_recompute {f : State → State} {s : State} (h : LevelsOnly s (f s)) :
    changeLevels f s = recompute (f s) := by
  have hr := (h.trans (recompute_levelsOnly (f s))).unreported
  unfold changeLevels finishChange
  dsimp only
  rw [roleConsequences_same h.unreported.roles h.unreported.bound, Bool.true_or, if_pos rfl,
    markSeatNotices_of_unreported hr, if_pos hr.floor, markDisplays_of_unreported hr]

/-! ## A request that sets levels -/

section reply
variable {s w : State} {kind tag : Byte} {r : Result} {body : List Byte}

/-- What a request that sets levels leaves of a seat; `w` is the state with the new inputs, before the recompute. -/
structure LevelsReply (kind tag : Byte) (r : Result) (body : List Byte) (s w t : State) : Prop where
  masters : t.masters = w.masters
  only : LevelsOnly s t
  answered : Answered kind tag r body s t
  seats : ∀ i, t.seat i = (recompute w).seat i
  frozen : ∀ i, (w.seat i).frozen = true → t.seat i = w.seat i
  free : ∀ i, (w.seat i).frozen = false → ∃ m, t.seat i = { w.seat i with
    targetMic := t.micTarget t.liveSeats i, targetSpeaker := t.speakerTarget t.liveSeats i, marks := m }

/-- The trims of a seat stay, whether it is frozen or not. -/
theorem LevelsReply.trims {t : State} (h : LevelsReply kind tag r body s w t) (i : SeatId) :
    (t.seat i).micTrim = (w.seat i).micTrim ∧ (t.seat i).speakerTrim = (w.seat i).speakerTrim := by
  cases hi : (w.seat i).frozen with
  | true => rw [h.frozen i hi]; exact ⟨rfl, rfl⟩
  | false =>
    obtain ⟨m, hm⟩ := h.free i hi
    rw [hm]
    exact ⟨rfl, rfl⟩

/-- A request that a ready part takes, sets levels, recomputes and answers (R54, R55, R61). -/
theorem hostRequest_levelsReply (fr : Frame) {f g : State → State} (h : s.Ready) (hg : LevelsOnly s.taken (g s.taken))
    (hlink : (g s.taken).link = s.taken.link) (hf : f s.taken = reply kind tag r body (recompute (g s.taken))) :
    LevelsReply kind tag r body s (g s.taken) (hostRequest fr f s) := by
  set w := g s.taken with hw
  have hrec := recompute_levelsOnly w
  have hl : (recompute w).link = s.taken.link := (recompute_link w).trans hlink
  have hmasters : (recompute w).masters = w.masters := (recompute_kept w).same .masters (by decide)
  have hstore : (recompute w).store = s.store :=
    (((taken_levelsOnly s).trans hg).trans hrec).kept.same .store (by decide)
  have hrest : (recompute w).store.AtRest := hstore ▸ h.1.2.2.1
  have hon : (recompute w).link.onLine = s.link.onLine := (congrArg HostLink.onLine hl :)
  have hwait : (recompute w).link.waiting = s.link.waiting := (congrArg HostLink.waiting hl :)
  rw [hostRequest_reply fr h hf hrest hon hwait]
  have hsend := send_levelsOnly ⟨.reply, replyFrame kind tag r body⟩ (recompute w)
  have hseat (i : SeatId) : ((recompute w).send ⟨.reply, replyFrame kind tag r body⟩).seat i
      = (recompute w).seat i := by
    rw [State.seat, send_seats]; rfl
  refine ⟨(send_masters _ _).trans hmasters, (((taken_levelsOnly s).trans hg).trans hrec).trans hsend, ?_, hseat,
    fun i hi => (hseat i).trans (recompute_of_frozen hi), fun i hi => ?_⟩
  · exact answered_of_send (fun hn => (h.1.2.2.2 hn).1) (congrArg HostLink.outstanding hl :)
      (congrArg HostLink.lostRejects hl :) hon hwait
  · obtain ⟨m, hm⟩ := recompute_of_free hi
    have hsame := hrec.trans hsend
    obtain ⟨hmic, hspeaker⟩ := hsame.targets ((send_masters _ _).trans hmasters)
      (i := i) (by rw [hseat, hm]) (by rw [hseat, hm]) w.liveSeats
    refine ⟨m, ?_⟩
    rw [hsame.liveSeats, hmic, hspeaker, hseat]
    exact hm

end reply

/-! ## SET_LEVELS (R54) -/

theorem okOr_not {p : Prop} [Decidable p] : okOr (decide (¬ p)) = if p then .ok else .okClamped := by
  by_cases h : p <;> simp [okOr, h]

/-- A payload of the length that a request has goes to the request's meaning (R203). -/
theorem fixedForm_of_length {kind tag : Byte} {n : Nat} {p : List Byte} (h : p.length = n) (f : State → State)
    (s : State) : fixedForm kind tag n p f s = f s := if_pos h

theorem exec_setLevels (tag : Byte) (p : List Byte) (s : State) :
    exec (.setLevels tag p) s = .next (hostRequest ⟨0x10, tag, p⟩ (reqSetLevels tag p) s) := rfl

theorem clampTo_eq {lo hi : Nat} (h : lo ≤ hi) (n : Nat) : clampTo lo hi n = max lo (min hi n) := by
  unfold clampTo
  split
  · omega
  · split <;> omega

theorem clampMasters_eq (m : Masters) : clampMasters m = ⟨min 48 m.mic, m.attenuation, min 120 m.base, min 40 m.duck1,
    min 40 m.duck2, max 2 (min 24 m.slew)⟩ := by
  simp [clampMasters, clampTo_eq]

theorem mastersAt_given (mic base k1 k2 slew : Byte) (att : Bool) :
    mastersAt [mic, if att then 1 else 0, base, k1, k2, slew]
      = some ⟨mic.toNat, att, base.toNat, k1.toNat, k2.toNat, slew.toNat⟩ := by
  cases att <;> rfl

theorem mastersAt_eq_none {mic b base k1 k2 slew : Byte} (h0 : b ≠ 0) (h1 : b ≠ 1) :
    mastersAt [mic, b, base, k1, k2, slew] = none := by
  have hb : yesNo b = none := (if_neg h0).trans (if_neg h1)
  exact congrArg (Option.map _) hb

/-- SET_LEVELS with master inputs that can be read. -/
theorem reqSetLevels_given {p : List Byte} (hp : p.length = 6) {given : Masters} (h : mastersAt p = some given)
    (tag : Byte) (s : State) : reqSetLevels tag p s
      = reply 0x10 tag (okOr (decide (clampMasters given ≠ given))) (masterBytes (clampMasters given))
          (recompute (s.setMasters (clampMasters given))) := by
  rw [← changeLevels_eq_recompute (f := fun s => s.setMasters (clampMasters given)) (setMasters_levelsOnly _ s)]
  refine (fixedForm_of_length hp _ s).trans ?_
  dsimp only
  rw [h]

theorem reqSetLevels_badValue {p : List Byte} (hp : p.length = 6) (h : mastersAt p = none) (tag : Byte) (s : State) :
    reqSetLevels tag p s = reply 0x10 tag .badValue [] s := by
  refine (fixedForm_of_length hp _ s).trans ?_
  dsimp only
  rw [h]

/-! ## SET_TRIM (R55) -/

theorem exec_setTrim (tag : Byte) (p : List Byte) (s : State) :
    exec (.setTrim tag p) s = .next (hostRequest ⟨0x11, tag, p⟩ (reqSetTrim tag p) s) := rfl

/-- SET_TRIM of a seat. -/
theorem reqSetTrim_given (tag : Byte) (i : SeatId) {a b : Byte} {t u : Int} (ht : clampTrim 24 a.toInt = t)
    (hu : clampTrim 12 b.toInt = u) (s : State) :
    let s1 := recompute (setTrims i t u s)
    reqSetTrim tag [BitVec.ofNat 8 i.val, a, b] s
      = reply 0x11 tag (if t = a.toInt ∧ u = b.toInt then .ok else .okClamped)
          (putSigned t ++ putSigned u ++ micByte (some (s1.seat i).targetMic)
            ++ speakerByte (some (s1.seat i).targetSpeaker)) s1 := by
  intro s1
  have hseat : seatOf (byteAt [BitVec.ofNat 8 i.val, a, b] 0) = some i := seatOf_ofNat i
  have hs1 : changeLevels (setTrims i t u) s = s1 := changeLevels_eq_recompute (setTrims_levelsOnly i t u s)
  have hresult : okOr (t != a.toInt || u != b.toInt) = if t = a.toInt ∧ u = b.toInt then .ok else .okClamped := by
    rw [← okOr_not]
    congr 1
    by_cases h1 : t = a.toInt <;> by_cases h2 : u = b.toInt <;> simp [h1, h2]
  rw [← hs1, ← hresult]
  refine (fixedForm_of_length (show [_, _, _].length = 3 from rfl) _ s).trans ?_
  dsimp only
  rw [hseat, ← ht, ← hu]
  rfl

theorem reqSetTrim_badValue (tag : Byte) {a : Byte} (h : 64 ≤ a.toNat) (b c : Byte) (s : State) :
    reqSetTrim tag [a, b, c] s = reply 0x11 tag .badValue [] s := by
  have hseat : seatOf (byteAt [a, b, c] 0) = none := seatOf_eq_none h
  refine (fixedForm_of_length (show [_, _, _].length = 3 from rfl) _ s).trans ?_
  dsimp only
  rw [hseat]

/-! ## The obligation -/

/-- Settles O19: each request answers one recompute of the state with its new inputs, which changes the levels alone. -/
theorem levelsAndTrimSet : Obligations.LevelsAndTrimSet := by
  unfold Obligations.LevelsAndTrimSet
  refine ⟨fun s tag h => ⟨fun mic base k1 k2 slew att => ?_, fun mic b base k1 k2 slew h0 h1 => ?_, fun p hp => ?_⟩,
    fun s tag h => ⟨fun i a b => ?_, fun a b c ha => ?_, fun p hp => ?_⟩⟩
  · intro m
    have hm : clampMasters ⟨mic.toNat, att, base.toNat, k1.toNat, k2.toNat, slew.toNat⟩ = m := clampMasters_eq _
    have hreq := reqSetLevels_given rfl (mastersAt_given mic base k1 k2 slew att) tag s.taken
    rw [hm] at hreq
    have ht := hostRequest_levelsReply (g := fun s => s.setMasters m)
      ⟨0x10, tag, [mic, if att then 1 else 0, base, k1, k2, slew]⟩ h
      (setMasters_levelsOnly m s.taken) rfl hreq
    refine ⟨_, exec_setLevels tag _ s, ht.masters, ht.only.kept, ?_, fun i => ⟨ht.frozen i, fun hfree => ?_⟩⟩
    · have ha := ht.answered
      rwa [okOr_not] at ha
    · obtain ⟨k, hk⟩ := ht.free i hfree
      exact ⟨(congrArg SeatRec.targetMic hk :), (congrArg SeatRec.targetSpeaker hk :), (congrArg SeatRec.sentMic hk :),
        (congrArg SeatRec.sentSpeaker hk :), (congrArg SeatRec.card hk :), (congrArg SeatRec.presence hk :)⟩
  · rw [exec_setLevels]
    exact congrArg _ (hostRequest_answer _ h (reqSetLevels_badValue rfl (mastersAt_eq_none h0 h1) tag s.taken))
  · rw [exec_setLevels]
    exact congrArg _ (hostRequest_answer _ h (fixedForm_badLength hp _ _))
  · intro t' u'
    have hreq := reqSetTrim_given tag i (a := a) (b := b) (t := t') (u := u') rfl rfl s.taken
    have ht := hostRequest_levelsReply (g := setTrims i t' u') ⟨0x11, tag, [BitVec.ofNat 8 i.val, a, b]⟩ h
      (setTrims_levelsOnly i t' u' s.taken) rfl hreq
    have hw (j : SeatId) := setTrims_seat i j t' u' s.taken
    have hown := ht.trims i
    rw [hw] at hown
    refine ⟨_, exec_setTrim tag _ s, hown.1.trans (if_pos rfl), hown.2.trans (if_pos rfl), fun j hj => ?_,
      ht.only.kept.drop ht.masters, fun j => ⟨fun hfrozen => ?_, fun hfree => ?_⟩, ?_⟩
    · have hother := ht.trims j
      rw [hw] at hother
      exact ⟨hother.1.trans (if_neg hj), hother.2.trans (if_neg hj)⟩
    · rw [ht.frozen j (by rw [hw]; exact hfrozen), hw]
      exact ⟨rfl, rfl⟩
    · obtain ⟨m, hm⟩ := ht.free j (by rw [hw]; exact hfree)
      exact ⟨(congrArg SeatRec.targetMic hm :), (congrArg SeatRec.targetSpeaker hm :)⟩
    · rw [ht.seats i]
      exact ht.answered
  · rw [exec_setTrim]
    exact congrArg _ (hostRequest_answer _ h (reqSetTrim_badValue tag ha b c s.taken))
  · rw [exec_setTrim]
    exact congrArg _ (hostRequest_answer _ h (fixedForm_badLength hp _ _))

end Sys2Proof.Machine
end

section
/-! The arbiter's order of choice (R192 to R194): whose turn it is, what a choice puts on the line, and what a RUNNING
line sends next (R169, R176, R196). -/

open Sys2Proof Sys2Proof.Machine

namespace Sys2Proof.Machine

/-! ## Turns (R194) -/

/-- Of a list in strict order the first element with a property is the least one. -/
theorem find?_eq_of_least {α : Type} {f : α → Nat} {c : α → Bool} {l : List α} (hl : l.Pairwise fun x y => f x < f y)
    {u : α} (hu : u ∈ l) (hc : c u = true) (hmin : ∀ v ∈ l, c v = true → f u ≤ f v) : l.find? c = some u := by
  induction l with
  | nil => cases hu
  | cons x l ih =>
    obtain ⟨hx, hl⟩ := List.pairwise_cons.mp hl
    cases hcx : c x with
    | true =>
      obtain rfl | hmem := List.mem_cons.mp hu
      · exact List.find?_cons_of_pos hcx
      · exact absurd (hmin x List.mem_cons_self hcx) (Nat.not_le.mpr (hx u hmem))
    | false =>
      have hne : u ≠ x := fun h => by rw [h, hcx] at hc; cases hc
      rw [List.find?_cons_of_neg (by simp [hcx])]
      exact ih hl ((List.mem_cons.mp hu).resolve_left hne) fun v hv => hmin v (List.mem_cons_of_mem x hv)

theorem mem_stationsOfLine {l : LineId} {u : Station} : u ∈ stationsOfLine l ↔ lineOfStation u = l := by
  cases u <;> simp [stationsOfLine, seatsOfLine, screensOfLine, allSeats, allScreens, lineOfStation]

/-- The units of a line are listed by rising address. -/
theorem stationsOfLine_sorted (l : LineId) : (stationsOfLine l).Pairwise fun u v => addressOf u < addressOf v := by
  have haddr : (stationsOfLine l).map addressOf = addresses := by cases l <;> decide
  have hsorted : addresses.Pairwise (· < ·) := by decide
  rw [← haddr, List.pairwise_map] at hsorted
  exact hsorted

theorem addressOf_le (u : Station) : addressOf u ≤ 49 := by
  cases u <;> simp only [addressOf, positionOfSeat] <;> omega

theorem mem_unitsInService {s : State} {l : LineId} {u : Station} :
    u ∈ s.unitsInService l ↔ lineOfStation u = l ∧ inService (s.presence u) = true := by
  rw [State.unitsInService, List.mem_filter, mem_stationsOfLine]

theorem mem_inTurn {s : State} {l : LineId} {p : Option Nat} {u : Station} :
    u ∈ s.inTurn l p ↔ lineOfStation u = l ∧ inService (s.presence u) = true := by
  rw [← mem_unitsInService]
  cases p with
  | none => rfl
  | some p =>
    simp only [State.inTurn, List.mem_append, List.mem_filter, decide_eq_true_eq, ← and_or_left]
    exact and_iff_left (Nat.lt_or_ge p (addressOf u))

/-- The turns are taken in the order of `turnOf`. -/
theorem inTurn_sorted (s : State) (l : LineId) (p : Option Nat) :
    (s.inTurn l p).Pairwise fun u v => turnOf p u < turnOf p v := by
  have hunits : (s.unitsInService l).Pairwise fun u v => addressOf u < addressOf v :=
    (stationsOfLine_sorted l).filter _
  cases p with
  | none => exact hunits
  | some p =>
    refine List.pairwise_append.mpr ⟨?_, ?_, fun u hu v hv => ?_⟩
    · refine (hunits.filter _).imp_of_mem fun {u v} hu hv huv => ?_
      have hu' := of_decide_eq_true (List.mem_filter.mp hu).2
      have hv' := of_decide_eq_true (List.mem_filter.mp hv).2
      rwa [turnOf, turnOf, if_pos hu', if_pos hv']
    · refine (hunits.filter _).imp_of_mem fun {u v} hu hv huv => ?_
      have hu' := of_decide_eq_true (List.mem_filter.mp hu).2
      have hv' := of_decide_eq_true (List.mem_filter.mp hv).2
      rw [turnOf, turnOf, if_neg (Nat.not_lt.mpr hu'), if_neg (Nat.not_lt.mpr hv')]
      omega
    · have hu' := of_decide_eq_true (List.mem_filter.mp hu).2
      have hv' := of_decide_eq_true (List.mem_filter.mp hv).2
      have := addressOf_le u
      rw [turnOf, turnOf, if_pos hu', if_neg (Nat.not_lt.mpr hv')]
      omega

section turns
variable {s : State} {l : LineId} {p : Option Nat} {claim : Station → Bool}

theorem inTurn_find?_of_next {u : Station} (h : s.NextInTurn l p claim u) : (s.inTurn l p).find? claim = some u := by
  obtain ⟨⟨hl, hs, hc⟩, hmin⟩ := h
  refine find?_eq_of_least (inTurn_sorted s l p) (mem_inTurn.mpr ⟨hl, hs⟩) hc fun v hv hcv => ?_
  obtain ⟨hlv, hsv⟩ := mem_inTurn.mp hv
  exact hmin v ⟨hlv, hsv, hcv⟩

theorem inTurn_find?_of_noClaim (h : s.NoClaim l claim) : (s.inTurn l p).find? claim = none := by
  refine List.find?_eq_none.mpr fun u hu => ?_
  obtain ⟨hl, hs⟩ := mem_inTurn.mp hu
  exact ne_true_of_eq_false (h u hl hs)

end turns

/-! ## Claims (R193, R194) -/

theorem urgentKind_isSome (s : State) (u : Station) : (s.urgentKind u).isSome = s.urgentClaim u := by
  cases u with
  | seat i =>
    unfold State.urgentKind State.urgentClaim State.marked
    dsimp only
    cases (s.seat i).marks.confirm <;> cases (s.seat i).marks.speaker <;> cases (s.seat i).marks.mic <;>
      cases (s.seat i).marks.gain <;> rfl
  | screen j =>
    unfold State.urgentKind State.urgentClaim State.marked
    dsimp only
    cases (s.screen j).confirmMark <;> rfl

theorem bulkKind_isSome (s : State) (u : Station) : (s.bulkKind u).isSome = s.bulkClaim u := by
  cases u with
  | seat i =>
    have hitems : (List.finRange 16).any (fun n => s.marked (.seat i) (.item n)) = false :=
      List.any_eq_false.mpr fun _ _ => Bool.false_ne_true
    unfold State.bulkClaim
    rw [hitems]
    unfold State.bulkKind State.marked
    dsimp only
    cases (s.seat i).marks.status <;> cases (s.seat i).marks.label <;> rfl
  | screen j =>
    unfold State.bulkKind State.bulkClaim State.marked
    rw [Bool.eq_iff_iff]
    simp

/-- Whether a choice of orders of one class finds a unit is whether one has the claim. -/
theorem urgentKind_claim (s : State) : (fun u => (s.urgentKind u).isSome) = s.urgentClaim :=
  funext (urgentKind_isSome s)

theorem bulkKind_claim (s : State) : (fun u => (s.bulkKind u).isSome) = s.bulkClaim := funext (bulkKind_isSome s)

/-! ## One choice -/

section serve
variable {kind : State → Station → Option OrderKind} {ptr : Nat → Line → Line} {l : LineId} {p : Option Nat}
  {fuel : Nat} {s : State}

theorem serveOrder_of_none (h : (s.inTurn l p).find? (fun u => (kind s u).isSome) = none) :
    serveOrder kind ptr l p (fuel + 1) s = (false, s) := by
  rw [serveOrder, h]

theorem serveOrder_of_sent {u : Station} {k : OrderKind} {c : OrderContent}
    (h : (s.inTurn l p).find? (fun u => (kind s u).isSome) = some u) (hk : kind s u = some k)
    (hc : (formOrder u k s).1 = some c) : serveOrder kind ptr l p (fuel + 1) s
      = (true, putExchange l (.order u c (firstSegment c)) ((formOrder u k s).2.modLine l (ptr (addressOf u)))) := by
  simp only [serveOrder, h, hk, hc]

end serve

theorem putExchange_activity (l : LineId) (x : Exchange) (s : State) :
    ((putExchange l x s).line l).activity = .exchange x := by
  unfold putExchange
  rw [State.modLine_line]

section claims
variable {l : LineId} {s : State}

theorem chooseClaim_of_urgent (h : (serveUrgent l s).1 = true) : chooseClaim l s = (serveUrgent l s).2 := if_pos h

/-- An urgent order goes first: that of the unit next in turn (R193 step 3). -/
theorem chooseClaim_of_urgentOrder {u : Station} (hu : s.NextInTurn l (s.line l).urgentPtr s.urgentClaim u)
    {k : OrderKind} (hk : s.urgentKind u = some k) {c : OrderContent} (hc : (formOrder u k s).1 = some c) :
    chooseClaim l s = putExchange l (.order u c (firstSegment c))
      ((formOrder u k s).2.modLine l fun x => { x with urgentPtr := some (addressOf u) }) := by
  have hfind := inTurn_find?_of_next hu
  rw [← urgentKind_claim] at hfind
  have hserve : serveUrgent l s = (true, putExchange l (.order u c (firstSegment c))
      ((formOrder u k s).2.modLine l fun x => { x with urgentPtr := some (addressOf u) })) :=
    serveOrder_of_sent hfind hk hc
  rw [chooseClaim_of_urgent (by rw [hserve]), hserve]

theorem serveUrgent_of_noClaim (h : s.NoClaim l s.urgentClaim) : serveUrgent l s = (false, s) := by
  have hfind := inTurn_find?_of_noClaim (p := (s.line l).urgentPtr) h
  rw [← urgentKind_claim] at hfind
  exact serveOrder_of_none hfind

theorem serveFetch_of_noClaim (h : s.NoClaim l s.fetchDue) : serveFetch l s = (false, s) := by
  unfold serveFetch
  rw [inTurn_find?_of_noClaim h]

theorem serveBulk_of_noClaim (h : s.NoClaim l s.bulkClaim) : serveBulk l s = (false, s) := by
  have hfind := inTurn_find?_of_noClaim (p := (s.line l).bulkPtr) h
  rw [← bulkKind_claim] at hfind
  exact serveOrder_of_none hfind

/-- Without an urgent order a FETCH goes (R193 step 4). -/
theorem chooseClaim_of_fetch {i : SeatId} (hn : s.NoClaim l s.urgentClaim)
    (hi : s.NextInTurn l (s.line l).fetchPtr s.fetchDue (.seat i)) :
    chooseClaim l s = putExchange l (.fetch i)
      (setFetchMark i false (s.modLine l fun x => { x with fetchPtr := some (positionOfSeat i) })) := by
  have hserve : serveFetch l s = (true, putExchange l (.fetch i)
      (setFetchMark i false (s.modLine l fun x => { x with fetchPtr := some (positionOfSeat i) }))) := by
    unfold serveFetch
    rw [inTurn_find?_of_next hi]
  unfold chooseClaim
  rw [serveUrgent_of_noClaim hn]
  dsimp only
  rw [if_neg Bool.false_ne_true, hserve, if_pos rfl]

/-- Without these a STATUS, LABEL or ITEM order goes (R193 step 5). -/
theorem chooseClaim_of_bulkOrder {u : Station} (hn : s.NoClaim l s.urgentClaim) (hf : s.NoClaim l s.fetchDue)
    (hu : s.NextInTurn l (s.line l).bulkPtr s.bulkClaim u) {k : OrderKind} (hk : s.bulkKind u = some k)
    {c : OrderContent} (hc : (formOrder u k s).1 = some c) :
    chooseClaim l s = putExchange l (.order u c (firstSegment c))
      ((formOrder u k s).2.modLine l fun x => { x with bulkPtr := some (addressOf u) }) := by
  have hfind := inTurn_find?_of_next hu
  rw [← bulkKind_claim] at hfind
  have hserve : serveBulk l s = (true, putExchange l (.order u c (firstSegment c))
      ((formOrder u k s).2.modLine l fun x => { x with bulkPtr := some (addressOf u) })) :=
    serveOrder_of_sent hfind hk hc
  unfold chooseClaim
  rw [serveUrgent_of_noClaim hn]
  dsimp only
  rw [if_neg Bool.false_ne_true, serveFetch_of_noClaim hf]
  dsimp only
  rw [if_neg Bool.false_ne_true, hserve, if_pos rfl]

/-- With no claim the round goes on (R193 step 6). -/
theorem chooseClaim_of_noClaim (hn : s.NoClaim l s.urgentClaim) (hf : s.NoClaim l s.fetchDue)
    (hb : s.NoClaim l s.bulkClaim) : chooseClaim l s = (choosePoll l s).getD (quietLine l s) := by
  unfold chooseClaim
  rw [serveUrgent_of_noClaim hn]
  dsimp only
  rw [if_neg Bool.false_ne_true, serveFetch_of_noClaim hf]
  dsimp only
  rw [if_neg Bool.false_ne_true, serveBulk_of_noClaim hb]
  exact if_neg Bool.false_ne_true

/-! ## Polls (R192) -/

theorem addressesWith_sorted (s : State) (l : LineId) (test : Presence → Bool) :
    (s.addressesWith l test).Pairwise (· < ·) :=
  (show addresses.Pairwise (· < ·) by decide).filter _

/-- The round goes on with the next served address. -/
theorem pollInRound_of_next {n : Nat} (hb : (s.line l).round.begun = true) (hn : n ∈ s.servedAddresses l)
    (hlt : (s.line l).round.lastPolled < n)
    (hmin : ∀ m ∈ s.servedAddresses l, (s.line l).round.lastPolled < m → n ≤ m) :
    s.pollInRound l = some (.poll n false) := by
  have hfind : (s.servedAddresses l).find? (fun a => decide ((s.line l).round.lastPolled < a)) = some n :=
    find?_eq_of_least (f := id) (addressesWith_sorted s l _) hn (decide_eq_true hlt)
      fun m hm hc => hmin m hm (of_decide_eq_true hc)
  unfold State.pollInRound
  simp [hb, hfind]

theorem pollInRound_poll {x : Exchange} (h : s.pollInRound l = some x) : ∃ n probe, x = .poll n probe := by
  unfold State.pollInRound at h
  dsimp only at h
  split at h
  · cases h
  · split at h
    · cases h
      exact ⟨_, _, rfl⟩
    · split at h
      · obtain ⟨a, _, rfl⟩ := Option.map_eq_some_iff.mp h
        exact ⟨_, _, rfl⟩
      · cases h

/-- While a unit of the line is served there is a poll to make. -/
theorem choosePoll_of_served (h : s.servedAddresses l ≠ []) :
    ∃ t n probe, choosePoll l s = some t ∧ (t.line l).activity = .exchange (.poll n probe) := by
  unfold choosePoll
  cases hp : s.pollInRound l with
  | some x =>
    obtain ⟨n, probe, rfl⟩ := pollInRound_poll hp
    exact ⟨_, n, probe, rfl, putExchange_activity _ _ _⟩
  | none =>
    dsimp only
    rw [if_neg h]
    have hserved : (beginRound l s).servedAddresses l = s.servedAddresses l :=
      addressesWith_of_presence (fun u => (beginRound_arbitrated l s).presence u) l _
    have hround : ((beginRound l s).line l).round = s.newRound l := by
      unfold beginRound
      rw [State.setLine_line]
    obtain ⟨n, rest, hn⟩ := List.exists_cons_of_ne_nil h
    have hsorted := addressesWith_sorted s l inService
    rw [show s.addressesWith l inService = n :: rest from hn, List.pairwise_cons] at hsorted
    have hmem : n ∈ s.servedAddresses l := by rw [hn]; exact List.mem_cons_self
    have hpoll : (beginRound l s).pollInRound l = some (.poll n false) := by
      refine pollInRound_of_next (by rw [hround]; rfl) (by rw [hserved]; exact hmem)
        (by rw [hround]; exact address_pos hmem) fun m hm _ => ?_
      rw [hserved, hn] at hm
      obtain rfl | hm := List.mem_cons.mp hm
      · exact Nat.le_refl _
      · exact Nat.le_of_lt (hsorted.1 m hm)
    rw [hpoll]
    exact ⟨_, n, false, rfl, putExchange_activity _ _ _⟩

/-! ## What a RUNNING line sends next (R169, R176, R193, R196) -/

theorem nextExchange_of_second {j : ScreenId} {c : OrderContent} (h : (s.line l).second = some (j, c)) :
    nextExchange l s = putExchange l (.order (.screen j) c .second) (s.setLine l { s.line l with second := none }) := by
  unfold nextExchange arbiter
  dsimp only
  rw [h]
  rfl

theorem nextExchange_of_rescans (hs : (s.line l).second = none) (h : (s.line l).rescans ≠ []) :
    nextExchange l s = beginEnumeration l s := by
  simp [nextExchange, hs, h]

section noRescan
variable (hs : (s.line l).second = none) (hr : (s.line l).rescans = [])
include hs hr

theorem nextExchange_of_sleep (h : (s.line l).sleepDue = true) : nextExchange l s = putExchange l .sleep s := by
  simp [nextExchange, hs, hr, h]

variable (hd : (s.line l).sleepDue = false)
include hd

theorem nextExchange_of_others (h : 4 ≤ (s.line l).others) (hserved : s.servedAddresses l ≠ []) :
    ∃ n probe, choosePoll l s = some (nextExchange l s)
      ∧ ((nextExchange l s).line l).activity = .exchange (.poll n probe) := by
  obtain ⟨t, n, probe, hp, ht⟩ := choosePoll_of_served hserved
  have hnext : nextExchange l s = t := by simp [nextExchange, arbiter, hs, hr, hd, h, hp]
  exact ⟨n, probe, by rw [hnext]; exact hp, by rw [hnext]; exact ht⟩

theorem nextExchange_of_claim (h : (s.line l).others < 4) : nextExchange l s = chooseClaim l s := by
  simp [nextExchange, arbiter, hs, hr, hd, Nat.not_le.mpr h]

end noRescan

end claims

/-! ## What an order carries when it is chosen (R63 to R65, R142) -/

section forms
variable {s : State} {i : SeatId}

theorem formOrder_speaker (h : (s.seat i).sentSpeaker ≠ some (s.seat i).targetSpeaker) :
    (formOrder (.seat i) .speaker s).1 = some (.speaker (s.seat i).targetSpeaker) := by
  simp [formOrder, chooseSpeaker, h]

theorem formOrder_micOff (ht : (s.seat i).targetMic = .off) (hs : (s.seat i).sentMic ≠ some .off) :
    (formOrder (.seat i) .mic s).1 = some (.mic .off) := by
  unfold formOrder chooseMic
  dsimp only
  rw [ht]
  cases h : (s.seat i).sentMic with
  | none => rfl
  | some v =>
    cases v with
    | off => exact absurd h hs
    | gain g => rfl

theorem formOrder_micGain {g : Nat} (ht : (s.seat i).targetMic = .gain g)
    (hs : (s.seat i).sentMic = none ∨ (s.seat i).sentMic = some .off) :
    (formOrder (.seat i) .mic s).1 = some (.mic (.gain g)) := by
  unfold formOrder chooseMic
  dsimp only
  rw [ht]
  obtain h | h := hs <;> rw [h]

theorem formOrder_gain {g h : Nat} (ht : (s.seat i).targetMic = .gain g) (hs : (s.seat i).sentMic = some (.gain h))
    (hne : g ≠ h) : (formOrder (.seat i) .gain s).1 = some (.gain (gainStep s.masters.slew h g)) := by
  unfold formOrder chooseGain
  dsimp only
  rw [ht, hs]
  dsimp only
  rw [if_neg hne]

theorem formOrder_status (h : (s.seat i).statusSent ≠ some (s.statusKey i)) :
    (formOrder (.seat i) .status s).1 = some (.status (s.statusKey i) (s.status i).2) := if_neg h

theorem formOrder_label (h : (s.seat i).labelSent ≠ some (s.labelOf i).1) :
    (formOrder (.seat i) .label s).1 = some (.label (s.labelOf i).1) := if_neg h

theorem formOrder_item {j : ScreenId} {n : ItemId} (h : (s.screen j).itemSent[n] ≠ some (s.itemKey n)) :
    (formOrder (.screen j) (.item n) s).1 = some (.item n (s.itemKey n) (s.itemSeconds n)) := if_neg h

/-- A CONFIRM is always sent, and its mark is cleared (R188). -/
theorem formOrder_confirm (u : Station) (s : State) :
    formOrder u .confirm s = (some .confirm, putMark u .confirm false s) := by
  cases u <;> rfl

end forms

theorem urgentKind_confirm {s : State} {u : Station} (h : s.marked u .confirm = true) :
    s.urgentKind u = some .confirm := by
  cases u <;> exact if_pos h

/-- Without a CONFIRM an urgent claim of a seat is SPEAKER, then MIC, then GAIN (R194). -/
theorem urgentKind_seat {s : State} {i : SeatId} (hc : (s.seat i).marks.confirm = false) :
    ((s.seat i).marks.speaker = true → s.urgentKind (.seat i) = some .speaker)
    ∧ ((s.seat i).marks.speaker = false → (s.seat i).marks.mic = true → s.urgentKind (.seat i) = some .mic)
    ∧ ((s.seat i).marks.speaker = false → (s.seat i).marks.mic = false → s.urgentClaim (.seat i) = true →
        s.urgentKind (.seat i) = some .gain) := by
  refine ⟨fun hs => ?_, fun hs hm => ?_, fun hs hm hclaim => ?_⟩
  · simp [State.urgentKind, hc, hs]
  · simp [State.urgentKind, hc, hs, hm]
  · have hg : (s.seat i).marks.gain = true := by
      simpa [State.urgentClaim, State.marked, hc, hs, hm] using hclaim
    simp [State.urgentKind, hc, hs, hm, hg]

theorem bulkKind_status {s : State} {i : SeatId} (h : (s.seat i).marks.status = true) :
    s.bulkKind (.seat i) = some .status := if_pos h

theorem bulkKind_label {s : State} {i : SeatId} (h : (s.seat i).marks.status = false)
    (hclaim : s.bulkClaim (.seat i) = true) : s.bulkKind (.seat i) = some .label := by
  have hl : (s.seat i).marks.label = true := by
    simpa [State.bulkClaim, State.marked, h] using hclaim
  simp [State.bulkKind, h, hl]

/-- Of the items pending at a screen the lowest goes first (R194). -/
theorem bulkKind_item {s : State} {j : ScreenId} {n : ItemId} (h : (s.screen j).itemMarks[n] = true)
    (hmin : ∀ m : ItemId, m < n → (s.screen j).itemMarks[m] = false) :
    s.bulkKind (.screen j) = some (.item n) := by
  have hsorted : (List.finRange 16).Pairwise fun x y : ItemId => x.val < y.val := by decide
  have hfind : (List.finRange 16).find? (fun m : ItemId => (s.screen j).itemMarks[m]) = some n :=
    find?_eq_of_least hsorted (List.mem_finRange n) h fun m _ hm =>
      Nat.not_lt.mp fun hlt => by rw [hmin m hlt] at hm; cases hm
  unfold State.bulkKind
  dsimp only
  rw [hfind]
  rfl

theorem marked_putMark_confirm (u : Station) (b : Bool) (s : State) :
    (putMark u .confirm b s).marked u .confirm = b := by
  cases u with
  | seat i => exact congrArg (·.marks.confirm) (State.modSeat_seat_same s i _)
  | screen j =>
    show ((s.modScreen j _).screen j).confirmMark = b
    rw [State.modScreen_screen, if_pos rfl]

theorem setLine_marked (l : LineId) (x : Line) (s : State) (u : Station) (k : OrderKind) :
    (s.setLine l x).marked u k = s.marked u k := by
  cases l <;> rfl

end Sys2Proof.Machine
end

section
/-! What a RUNNING line sends next, and an acknowledged order (R66, R143, R162, R188, R191 to R196). -/

open Sys2Proof Sys2Proof.Machine

namespace Sys2Proof.Machine

/-! ## The end of an exchange -/

theorem nextExchange_screens (l : LineId) (s : State) (j : ScreenId) :
    (s.screen j).Remarked ((nextExchange l s).screen j) := by
  unfold nextExchange
  dsimp only
  split
  · exact (arbiter_arbitrated l s).screens j
  · split
    · unfold beginEnumeration State.screen
      rw [State.modLine_screens]
      exact .refl _
    · split
      · exact (putExchange_arbitrated l _ s).screens j
      · exact (arbiter_arbitrated l s).screens j

theorem nextExchange_counters (l : LineId) (s : State) :
    ((nextExchange l s).line l).counters = (s.line l).counters := by
  have harb {t : State} (h : Arbitrated l s t) : (t.line l).counters = (s.line l).counters := by
    obtain ⟨_, _, _, _, _, _, _, hx⟩ := h.line
    rw [hx]
  unfold nextExchange
  dsimp only
  split
  · exact harb (arbiter_arbitrated l s)
  · split
    · unfold beginEnumeration
      rw [State.modLine_line]
    · split
      · exact harb (putExchange_arbitrated l _ s)
      · exact harb (arbiter_arbitrated l s)

/-- What follows the end of an exchange at a calm part: the line's next exchange, and a frame for an idle link. -/
def State.onward (s : State) (l : LineId) : State := chooseFrame (nextExchange l s)

theorem settleLink_nextExchange {m : List Block} {s w : State} (hcalm : s.Calm) (hk : KeptBut m s w) (l : LineId)
    (hm : Block.inputQueue ∉ m ∧ Block.store ∉ m := by decide) : settleLink (nextExchange l w) = w.onward l := by
  obtain ⟨_, hqueue, hrest, _⟩ := hcalm
  have hn := nextExchange_kept l w
  obtain ⟨hq, _⟩ : Block.inputQueue.Same s (nextExchange l w) :=
    (hk.same .inputQueue hm.1).trans (hn.same .inputQueue (by cases l <;> decide))
  have hst : (nextExchange l w).store = s.store :=
    Eq.trans (hn.same .store (by cases l <;> decide)) (hk.same .store hm.2)
  exact settleLink_of_atRest (hq.trans hqueue) (by rw [hst]; exact hrest)

namespace State

variable (s : State) (l : LineId)

theorem onward_kept : KeptBut [.seats, .screens, .transmitter, .marks, Block.ofLine l] s (s.onward l) :=
  ((nextExchange_kept l s).mono (by cases l <;> decide)).trans ((chooseFrame_kept _).mono (by cases l <;> decide))

theorem onward_floor : (s.onward l).floor = s.floor := (s.onward_kept l).same .floor (by cases l <;> decide)

theorem onward_line : (s.onward l).line l = (nextExchange l s).line l :=
  (chooseFrame_kept (nextExchange l s)).line (by cases l <;> decide)

theorem onward_seat (i : SeatId) : (s.onward l).seat i = (nextExchange l s).seat i := chooseFrame_seat _ i

theorem onward_screen (j : ScreenId) : (s.onward l).screen j = (nextExchange l s).screen j := by
  have hs : (chooseFrame (nextExchange l s)).screens = (nextExchange l s).screens :=
    (chooseFrame_kept _).same .screens (by decide)
  exact congrArg (fun v : Vector ScreenRec 4 => v[j]) hs

theorem onward_seats (i : SeatId) : (s.seat i).Remarked ((s.onward l).seat i) := by
  rw [onward_seat]
  exact nextExchange_seats l s i

theorem onward_screens (j : ScreenId) : (s.screen j).Remarked ((s.onward l).screen j) := by
  rw [onward_screen]
  exact nextExchange_screens l s j

theorem onward_presence (u : Station) : (s.onward l).presence u = s.presence u := by
  cases u with
  | seat i => obtain ⟨_, _, h⟩ := s.onward_seats l i; simp [State.presence, h]
  | screen j => obtain ⟨_, _, h⟩ := s.onward_screens l j; simp [State.presence, h]

theorem onward_missCount (u : Station) : (s.onward l).missCount u = s.missCount u := by
  cases u with
  | seat i => obtain ⟨_, _, h⟩ := s.onward_seats l i; simp [State.missCount, h]
  | screen j => obtain ⟨_, _, h⟩ := s.onward_screens l j; simp [State.missCount, h]

theorem onward_marked (u : Station) (k : OrderKind) : (s.onward l).marked u k = (nextExchange l s).marked u k := by
  simp only [State.marked, onward_seat, onward_screen]

theorem onward_consecutive : ((s.onward l).line l).consecutive = (s.line l).consecutive := by
  rw [onward_line, (nextExchange_counts l s).1]

theorem onward_others : ((s.onward l).line l).others = (s.line l).others := by
  rw [onward_line, (nextExchange_counts l s).2]

theorem onward_counters : ((s.onward l).line l).counters = (s.line l).counters := by
  rw [onward_line, nextExchange_counters]

end State

/-! ## A clean exchange (R184) -/

theorem modScreen_kept (j : ScreenId) (f : ScreenRec → ScreenRec) (s : State) :
    KeptBut [.screens] s (s.modScreen j f) := by
  intro b hb
  cases b <;> simp at hb <;> simp [Block.Same]

theorem markSeat_kept (u : Station) (s : State) : KeptBut [.marks] s (markSeat u s) := by
  intro b hb
  cases b <;> simp at hb <;> simp [Block.Same, markSeat, State.modMarks, State.setLink]

theorem setPresence_kept (u : Station) (p : Presence) (n : Nat) (s : State) :
    KeptBut [.seats, .screens] s (setPresence u p n s) := by
  cases u with
  | seat i => exact (modSeat_kept i _ s).mono (by decide)
  | screen j => exact (modScreen_kept j _ s).mono (by decide)

theorem setConfirm_kept (u : Station) (b : Bool) (s : State) : KeptBut [.seats, .screens] s (setConfirm u b s) := by
  cases u with
  | seat i => exact (modSeat_kept i _ s).mono (by decide)
  | screen j => exact (modScreen_kept j _ s).mono (by decide)

theorem recordClean_keptFloor (u : Station) (s : State) : KeptBut [.seats, .screens, .marks] s (recordClean u s) := by
  have hset (p : Presence) (n : Nat) : KeptBut [.seats, .screens, .marks] s (setPresence u p n s) :=
    (setPresence_kept u p n s).mono (by decide)
  unfold recordClean
  split
  · exact hset _ _
  · exact (hset _ _).trans ((markSeat_kept u _).mono (by decide))
  · exact .refl _ s

theorem setPresence_presence (u : Station) (p : Presence) (n : Nat) (s : State) :
    (setPresence u p n s).presence u = p := by
  cases u with
  | seat i => exact congrArg SeatRec.presence (State.modSeat_seat_same s i _)
  | screen j => simp [setPresence, State.presence, State.modScreen_screen]

theorem setPresence_missCount (u : Station) (p : Presence) (n : Nat) (s : State) :
    (setPresence u p n s).missCount u = n := by
  cases u with
  | seat i => exact congrArg SeatRec.missCount (State.modSeat_seat_same s i _)
  | screen j => simp [setPresence, State.missCount, State.modScreen_screen]

theorem setPresence_presence_other {u v : Station} (h : v ≠ u) (p : Presence) (n : Nat) (s : State) :
    (setPresence u p n s).presence v = s.presence v := by
  cases u with
  | seat i =>
    cases v with
    | seat k =>
      have hk : k ≠ i := fun e => h (by rw [e])
      simp [setPresence, State.presence, State.modSeat_seat, hk]
    | screen j => rfl
  | screen j =>
    cases v with
    | seat k => rfl
    | screen k =>
      have hk : k ≠ j := fun e => h (by rw [e])
      simp [setPresence, State.presence, State.modScreen_screen, hk]

theorem markSeat_presence (u v : Station) (s : State) : (markSeat u s).presence v = s.presence v := by
  cases v <;> rfl

theorem markSeat_missCount (u v : Station) (s : State) : (markSeat u s).missCount v = s.missCount v := by
  cases v <;> rfl

/-- A unit in service that answers is PRESENT with no miss. -/
theorem recordClean_inService {u : Station} {s : State} (h : inService (s.presence u) = true) :
    (recordClean u s).presence u = .present ∧ (recordClean u s).missCount u = 0 := by
  unfold recordClean
  split
  · exact ⟨setPresence_presence _ _ _ _, setPresence_missCount _ _ _ _⟩
  · rw [markSeat_presence, markSeat_missCount]
    exact ⟨setPresence_presence _ _ _ _, setPresence_missCount _ _ _ _⟩
  · next h1 h2 => cases hp : s.presence u <;> simp_all [inService]

theorem recordClean_presence_other {u v : Station} (h : v ≠ u) (s : State) :
    (recordClean u s).presence v = s.presence v := by
  unfold recordClean
  split
  · exact setPresence_presence_other h _ _ s
  · rw [markSeat_presence]
    exact setPresence_presence_other h _ _ s
  · rfl

theorem recordClean_itemSent (u : Station) (s : State) (j : ScreenId) :
    ((recordClean u s).screen j).itemSent = (s.screen j).itemSent := by
  have hset (p : Presence) (n : Nat) : ((setPresence u p n s).screen j).itemSent = (s.screen j).itemSent := by
    cases u with
    | seat i => rfl
    | screen k =>
      show ((s.modScreen k _).screen j).itemSent = _
      rw [State.modScreen_screen]
      split
      · next e => rw [e]
      · rfl
  unfold recordClean
  split
  · exact hset _ _
  · exact hset _ _
  · rfl

/-! ## An acknowledgement is taken (R66, R143, R188) -/

/-- The presence and the miss count of a unit. -/
def State.standing (s : State) (u : Station) : Presence × Nat := (s.presence u, s.missCount u)

theorem modSeat_standing {i : SeatId} {f : SeatRec → SeatRec} {s : State}
    (h : (f (s.seat i)).presence = (s.seat i).presence ∧ (f (s.seat i)).missCount = (s.seat i).missCount)
    (v : Station) : (s.modSeat i f).standing v = s.standing v := by
  cases v with
  | seat k =>
    unfold State.standing State.presence State.missCount
    dsimp only
    rw [State.modSeat_seat]
    split
    · next e => rw [e, h.1, h.2]
    · rfl
  | screen j => rfl

theorem modScreen_standing {j : ScreenId} {f : ScreenRec → ScreenRec} {s : State}
    (h : (f (s.screen j)).presence = (s.screen j).presence ∧ (f (s.screen j)).missCount = (s.screen j).missCount)
    (v : Station) : (s.modScreen j f).standing v = s.standing v := by
  cases v with
  | seat k => rfl
  | screen k =>
    unfold State.standing State.presence State.missCount
    dsimp only
    rw [State.modScreen_screen]
    split
    · next e => rw [e, h.1, h.2]
    · rfl

/-- Which marks a stage sets. -/
theorem markMicStage_remarked (r : SeatRec) : r.Remarked (markMicStage r) := by
  unfold markMicStage
  repeat' split
  all_goals exact ⟨_, _, rfl⟩

theorem markSpeakerStage_remarked (r : SeatRec) : r.Remarked (markSpeakerStage r) := by
  unfold markSpeakerStage
  split <;> exact ⟨_, _, rfl⟩

/-- What an acknowledged level order sets (R66). -/
def sentLevels (c : OrderContent) (r : SeatRec) : SeatRec :=
  match c with
  | .mic v => { r with sentMic := some v }
  | .gain n => { r with sentMic := some (.gain n) }
  | .speaker v => { r with sentSpeaker := some v }
  | _ => r

theorem acknowledgeLevel_remarked (c : OrderContent) (r : SeatRec) :
    (sentLevels c r).Remarked (acknowledgeLevel c r) := by
  unfold acknowledgeLevel
  cases c with
  | mic v => dsimp only; split; exacts [markMicStage_remarked _, .refl _]
  | gain n => dsimp only; split; exacts [markMicStage_remarked _, .refl _]
  | speaker v => dsimp only; split; exacts [markSpeakerStage_remarked _, .refl _]
  | _ => exact .refl _

theorem takeAcknowledgement_kept (u : Station) (c : OrderContent) (s : State) :
    KeptBut [.seats, .screens, .marks] s (takeAcknowledgement u c s) := by
  refine (recordClean_keptFloor u s).trans ?_
  have hseat (i : SeatId) (f : SeatRec → SeatRec) (v : State) : KeptBut [.seats, .screens, .marks] v (v.modSeat i f) :=
    (modSeat_kept i f v).mono (by decide)
  unfold takeAcknowledgement
  dsimp only
  split
  · exact (setConfirm_kept u false _).mono (by decide)
  · exact (modScreen_kept _ _ _).mono (by decide)
  · exact hseat _ _ _
  · exact hseat _ _ _
  · exact hseat _ _ _
  · exact .refl _ _

theorem setConfirm_standing (u : Station) (b : Bool) (s : State) (v : Station) :
    (setConfirm u b s).standing v = s.standing v := by
  cases u with
  | seat i => exact modSeat_standing ⟨rfl, rfl⟩ v
  | screen j => exact modScreen_standing ⟨rfl, rfl⟩ v

theorem takeAcknowledgement_standing (u : Station) (c : OrderContent) (s : State) (v : Station) :
    (takeAcknowledgement u c s).standing v = (recordClean u s).standing v := by
  unfold takeAcknowledgement
  dsimp only
  split
  · exact setConfirm_standing _ _ _ _
  · exact modScreen_standing ⟨rfl, rfl⟩ v
  · exact modSeat_standing ⟨rfl, rfl⟩ v
  · exact modSeat_standing ⟨rfl, rfl⟩ v
  · next i hc hl hs =>
    obtain ⟨m, f, hr⟩ := acknowledgeLevel_remarked c ((recordClean (.seat i) s).seat i)
    refine modSeat_standing ?_ v
    rw [hr]
    cases c <;> exact ⟨rfl, rfl⟩
  · rfl

/-- The record of a seat to which an order was acknowledged. -/
theorem takeAcknowledgement_seat (i : SeatId) (c : OrderContent) (s : State) :
    (∀ v, c = .mic v → ((takeAcknowledgement (.seat i) c s).seat i).sentMic = some v)
    ∧ (∀ n, c = .gain n → ((takeAcknowledgement (.seat i) c s).seat i).sentMic = some (.gain n))
    ∧ (∀ v, c = .speaker v → ((takeAcknowledgement (.seat i) c s).seat i).sentSpeaker = some v)
    ∧ (∀ x, c = .label x → ((takeAcknowledgement (.seat i) c s).seat i).labelSent = some x)
    ∧ (∀ x n, c = .status x n → ((takeAcknowledgement (.seat i) c s).seat i).statusSent = some x)
    ∧ (c = .confirm → ((takeAcknowledgement (.seat i) c s).seat i).confirmOutstanding = false) := by
  have hlevel (f : SeatRec → SeatRec) (hf : takeAcknowledgement (.seat i) c s = (recordClean (.seat i) s).modSeat i f) :
      (takeAcknowledgement (.seat i) c s).seat i = f ((recordClean (.seat i) s).seat i) := by
    rw [hf, State.modSeat_seat_same]
  obtain ⟨m, f, hr⟩ := acknowledgeLevel_remarked c ((recordClean (.seat i) s).seat i)
  refine ⟨?_, ?_, ?_, ?_, ?_, ?_⟩
  · rintro v rfl
    rw [hlevel _ rfl, hr]
    rfl
  · rintro n rfl
    rw [hlevel _ rfl, hr]
    rfl
  · rintro v rfl
    rw [hlevel _ rfl, hr]
    rfl
  · rintro x rfl
    exact congrArg SeatRec.labelSent (State.modSeat_seat_same _ i _)
  · rintro x n rfl
    exact congrArg SeatRec.statusSent (State.modSeat_seat_same _ i _)
  · rintro rfl
    exact congrArg SeatRec.confirmOutstanding (State.modSeat_seat_same _ i _)

/-- The record of a screen to which an order was acknowledged. -/
theorem takeAcknowledgement_screen (j : ScreenId) (c : OrderContent) (s : State) :
    (c = .confirm → ((takeAcknowledgement (.screen j) c s).screen j).confirmOutstanding = false)
    ∧ (∀ n x k, c = .item n x k → ((takeAcknowledgement (.screen j) c s).screen j).itemSent[n] = some x) := by
  refine ⟨?_, ?_⟩
  · rintro rfl
    show ((State.modScreen _ j _).screen j).confirmOutstanding = false
    rw [State.modScreen_screen, if_pos rfl]
  · rintro n x k rfl
    show ((State.modScreen _ j _).screen j).itemSent[n] = some x
    rw [State.modScreen_screen, if_pos rfl]
    simp

/-! ## The choice among the claims -/

section chosen
variable {l : LineId} {s : State} (hs : (s.line l).second = none) (hr : (s.line l).rescans = [])
  (hd : (s.line l).sleepDue = false) (ho : (s.line l).others < 4)
include hs hr hd ho

theorem nextExchange_urgent {u : Station} (hu : s.NextInTurn l (s.line l).urgentPtr s.urgentClaim u) {k : OrderKind}
    (hk : s.urgentKind u = some k) {c : OrderContent} (hc : (formOrder u k s).1 = some c) :
    ((nextExchange l s).line l).activity = .exchange (.order u c (firstSegment c)) := by
  rw [nextExchange_of_claim hs hr hd ho, chooseClaim_of_urgentOrder hu hk hc, putExchange_activity]

theorem nextExchange_confirm {u : Station} (hu : s.NextInTurn l (s.line l).urgentPtr s.urgentClaim u)
    (hm : s.marked u .confirm = true) :
    ((nextExchange l s).line l).activity = .exchange (.order u .confirm .whole)
      ∧ (nextExchange l s).marked u .confirm = false
      ∧ ((nextExchange l s).line l).urgentPtr = some (addressOf u) := by
  have hform := formOrder_confirm u s
  rw [nextExchange_of_claim hs hr hd ho,
    chooseClaim_of_urgentOrder hu (urgentKind_confirm hm) (congrArg Prod.fst hform), hform]
  refine ⟨putExchange_activity _ _ _, ?_, ?_⟩
  · unfold putExchange State.modLine
    rw [setLine_marked, setLine_marked, marked_putMark_confirm]
  · unfold putExchange
    simp only [State.modLine_line]

theorem nextExchange_fetch {i : SeatId} (hn : s.NoClaim l s.urgentClaim)
    (hi : s.NextInTurn l (s.line l).fetchPtr s.fetchDue (.seat i)) :
    ((nextExchange l s).line l).activity = .exchange (.fetch i) ∧ ((nextExchange l s).seat i).fetchMark = false
      ∧ ((nextExchange l s).line l).fetchPtr = some (positionOfSeat i) := by
  rw [nextExchange_of_claim hs hr hd ho, chooseClaim_of_fetch hn hi]
  refine ⟨putExchange_activity _ _ _, ?_, ?_⟩
  · unfold putExchange setFetchMark State.seat
    rw [State.modLine_seats]
    exact congrArg SeatRec.fetchMark (State.modSeat_seat_same _ i _)
  · unfold putExchange setFetchMark
    cases l <;> rfl

theorem nextExchange_bulk {u : Station} (hu : s.NoClaim l s.urgentClaim ∧ s.NoClaim l s.fetchDue
      ∧ s.NextInTurn l (s.line l).bulkPtr s.bulkClaim u) {k : OrderKind}
    (hk : s.bulkKind u = some k) {c : OrderContent} (hc : (formOrder u k s).1 = some c) :
    ((nextExchange l s).line l).activity = .exchange (.order u c (firstSegment c)) := by
  obtain ⟨hn, hf, hu⟩ := hu
  rw [nextExchange_of_claim hs hr hd ho, chooseClaim_of_bulkOrder hn hf hu hk hc, putExchange_activity]

theorem nextExchange_poll {n : Nat} (hn : s.NoClaim l s.urgentClaim) (hf : s.NoClaim l s.fetchDue)
    (hb : s.NoClaim l s.bulkClaim) (hbegun : (s.line l).round.begun = true) (hmem : n ∈ s.servedAddresses l)
    (hlt : (s.line l).round.lastPolled < n)
    (hmin : ∀ m ∈ s.servedAddresses l, (s.line l).round.lastPolled < m → n ≤ m) :
    ((nextExchange l s).line l).activity = .exchange (.poll n false) := by
  have hpoll : choosePoll l s = some (putExchange l (.poll n false) s) := by
    unfold choosePoll
    rw [pollInRound_of_next hbegun hmem hlt hmin]
  rw [nextExchange_of_claim hs hr hd ho, chooseClaim_of_noClaim hn hf hb, hpoll]
  exact putExchange_activity _ _ _

/-- The level orders of a seat, by what its levels now need (R63 to R65, R194). -/
theorem nextExchange_levels {i : SeatId} (hu : s.NextInTurn l (s.line l).urgentPtr s.urgentClaim (.seat i))
    (hc : (s.seat i).marks.confirm = false) :
    let r := s.seat i
    let sent := ((nextExchange l s).line l).activity
    (r.marks.speaker = true → r.sentSpeaker ≠ some r.targetSpeaker →
      sent = .exchange (.order (.seat i) (.speaker r.targetSpeaker) .whole))
    ∧ (r.marks.speaker = false → r.marks.mic = true → r.targetMic = .off → r.sentMic ≠ some .off →
        sent = .exchange (.order (.seat i) (.mic .off) .whole))
    ∧ (∀ g, r.marks.speaker = false → r.marks.mic = true → r.targetMic = .gain g →
        (r.sentMic = none ∨ r.sentMic = some .off) →
        sent = .exchange (.order (.seat i) (.mic (.gain g)) .whole))
    ∧ ∀ g h, r.marks.speaker = false → r.marks.mic = false → r.targetMic = .gain g →
        r.sentMic = some (.gain h) → g ≠ h →
        sent = .exchange (.order (.seat i) (.gain (gainStep s.masters.slew h g)) .whole) := by
  intro r sent
  obtain ⟨hspeaker, hmic, hgain⟩ := urgentKind_seat hc
  have hclaim : s.urgentClaim (.seat i) = true := by
    obtain ⟨⟨_, _, hclaim⟩, _⟩ := hu
    exact hclaim
  exact ⟨fun hm hne => nextExchange_urgent hs hr hd ho hu (hspeaker hm) (formOrder_speaker hne),
    fun hm hm' ht hne => nextExchange_urgent hs hr hd ho hu (hmic hm hm') (formOrder_micOff ht hne),
    fun g hm hm' ht hsent => nextExchange_urgent hs hr hd ho hu (hmic hm hm') (formOrder_micGain ht hsent),
    fun g h hm hm' ht hsent hne =>
      nextExchange_urgent hs hr hd ho hu (hgain hm hm' hclaim) (formOrder_gain ht hsent hne)⟩

end chosen

/-! ## The event -/

theorem exec_orderAcknowledged {l : LineId} {u : Station} {c : OrderContent} {seg : Segment} {a : LineAnswer}
    {s : State} (hp : s.powered = true) (hline : OnLine l (.order u c seg) s)
    (hj : judgeOrder (orderCheck u c seg) a = .ok ()) :
    exec (.orderAcknowledged l a) s = .next (settleLink (endOrder l u c seg s)) := by
  have hexec : exec (.orderAcknowledged l a) s = execOrderAcknowledged l a s := rfl
  rw [hexec]
  simp [execOrderAcknowledged, event, hp, State.exchangeOn, hline.2, hj]

/-- The state in which an order's acknowledgement is taken. -/
def State.ordered (l : LineId) (s : State) : State := (quietLine l (sentClean l s)).modLine l otherEnded

theorem ordered_kept (l : LineId) (s : State) : KeptBut [Block.ofLine l] s (s.ordered l) :=
  ((modLine_kept l _ s).trans (modLine_kept l _ _)).trans (modLine_kept l _ _)

theorem ordered_line (l : LineId) (s : State) : (s.ordered l).line l = { s.line l with
    consecutive := 0, activity := .none, begun := false, others := (s.line l).others + 1 } := by
  unfold State.ordered quietLine sentClean
  simp only [State.modLine_line]
  rfl

theorem ofLine_notMem (l : LineId) : Block.ofLine l ∉ [Block.seats, .screens, .marks] := by cases l <;> decide

/-- An order that is not the first segment of an item is acknowledged at once (R162, R197). -/
theorem endOrder_acknowledged {l : LineId} {u : Station} {c : OrderContent} {seg : Segment} {s : State}
    (h : ∀ j, u = .screen j → seg ≠ .first) :
    endOrder l u c seg s = nextExchange l (takeAcknowledgement u c (s.ordered l)) := by
  unfold endOrder
  cases seg with
  | first =>
    cases u with
    | seat i => rfl
    | screen j => exact absurd rfl (h j rfl)
  | _ => rfl

/-- The state in which the first segment of an item has been sent. -/
def State.halfSent (l : LineId) (j : ScreenId) (c : OrderContent) (s : State) : State :=
  (quietLine l (sentClean l s)).modLine l fun x => { x with second := some (j, c) }

theorem halfSent_kept (l : LineId) (j : ScreenId) (c : OrderContent) (s : State) :
    KeptBut [Block.ofLine l] s (s.halfSent l j c) :=
  ((modLine_kept l _ s).trans (modLine_kept l _ _)).trans (modLine_kept l _ _)

theorem halfSent_line (l : LineId) (j : ScreenId) (c : OrderContent) (s : State) : (s.halfSent l j c).line l =
    { s.line l with consecutive := 0, activity := .none, begun := false, second := some (j, c) } := by
  unfold State.halfSent quietLine sentClean
  simp only [State.modLine_line]

/-- What an acknowledged order leaves at its end; `w` is the state in which it has been taken, before the line's next
exchange. -/
structure OrderTaken (l : LineId) (u : Station) (s w : State) : Prop where
  standing : w.standing u = (.present, 0)
  others : ∀ v : Station, v ≠ u → w.presence v = s.presence v
  kept : KeptBut [.seats, .screens, .marks, Block.ofLine l] s w
  consecutive : (w.line l).consecutive = 0
  counters : (w.line l).counters = (s.line l).counters

theorem OrderTaken.ofClean {l : LineId} {u : Station} {s v w : State} (hserv : inService (s.presence u) = true)
    (hv : KeptBut [Block.ofLine l] s v) (hw : ∀ x, w.standing x = (recordClean u v).standing x)
    (hk : KeptBut [.seats, .screens, .marks] v w) (hcons : (v.line l).consecutive = 0)
    (hcount : (v.line l).counters = (s.line l).counters) : OrderTaken l u s w := by
  have hpres (x : Station) : v.presence x = s.presence x :=
    presence_of_units (hv.same .seats (by cases l <;> decide)) (hv.same .screens (by cases l <;> decide)) x
  have hline : w.line l = v.line l := hk.line (ofLine_notMem l)
  refine ⟨?_, fun x hx => ?_, ?_, by rw [hline, hcons], by rw [hline, hcount]⟩
  · obtain ⟨hp, hm⟩ := recordClean_inService (u := u) (s := v) (by rw [hpres]; exact hserv)
    rw [hw]
    exact Prod.ext hp hm
  · have hx' : w.presence x = (recordClean u v).presence x := congrArg Prod.fst (hw x)
    rw [hx', recordClean_presence_other hx, hpres]
  · exact (hv.mono (by cases l <;> decide)).trans (hk.mono (by cases l <;> decide))

theorem takeAcknowledgement_taken {l : LineId} {u : Station} {s : State} (c : OrderContent)
    (hserv : inService (s.presence u) = true) : OrderTaken l u s (takeAcknowledgement u c (s.ordered l)) :=
  .ofClean hserv (ordered_kept l s) (takeAcknowledgement_standing u c _) (takeAcknowledgement_kept u c _)
    (by rw [ordered_line]) (by rw [ordered_line])

theorem firstSegment_taken {l : LineId} {j : ScreenId} {s : State} (c : OrderContent)
    (hserv : inService (s.presence (.screen j)) = true) :
    OrderTaken l (.screen j) s (recordClean (.screen j) (s.halfSent l j c)) :=
  .ofClean hserv (halfSent_kept l j c s) (fun _ => rfl) (recordClean_keptFloor _ _)
    (by rw [halfSent_line]) (by rw [halfSent_line])

/-- The part of an acknowledgement that is alike for every order. -/
theorem OrderTaken.onward {l : LineId} {u : Station} {s w : State} (h : OrderTaken l u s w) :
    (w.onward l).presence u = .present ∧ (w.onward l).missCount u = 0
      ∧ (∀ v : Station, v ≠ u → (w.onward l).presence v = s.presence v)
      ∧ ((w.onward l).line l).consecutive = 0 ∧ ((w.onward l).line l).counters = (s.line l).counters
      ∧ KeptBut [.seats, .screens, .transmitter, .marks, Block.ofLine l] s (w.onward l) := by
  refine ⟨?_, ?_, fun v hv => ?_, ?_, ?_, ?_⟩
  · rw [State.onward_presence]
    exact congrArg Prod.fst h.standing
  · rw [State.onward_missCount]
    exact congrArg Prod.snd h.standing
  · rw [State.onward_presence, h.others v hv]
  · rw [State.onward_consecutive, h.consecutive]
  · rw [State.onward_counters, h.counters]
  · exact (h.kept.mono (by cases l <;> decide)).trans (w.onward_kept l)

/-- An acknowledged order with its effects on the unit's records (R66, R143, R188). -/
theorem exec_acknowledged {l : LineId} {u : Station} {c : OrderContent} {seg : Segment} {a : LineAnswer} {s : State}
    (hcalm : s.Calm) (hj : judgeOrder (orderCheck u c seg) a = .ok ()) (hline : OnLine l (.order u c seg) s)
    (hserv : inService (s.presence u) = true) (hseg : ∀ j, u = .screen j → seg ≠ .first) :
    exec (.orderAcknowledged l a) s = .next ((takeAcknowledgement u c (s.ordered l)).onward l) := by
  rw [exec_orderAcknowledged hcalm.1 hline hj, endOrder_acknowledged hseg,
    settleLink_nextExchange hcalm (takeAcknowledgement_taken c hserv).kept l (by cases l <;> decide)]

/-- An acknowledged first segment: the second is the line's next exchange (R196). -/
theorem exec_firstSegment {l : LineId} {j : ScreenId} {c : OrderContent} {a : LineAnswer} {s : State}
    (hcalm : s.Calm) (hj : judgeOrder (orderCheck (.screen j) c .first) a = .ok ())
    (hline : OnLine l (.order (.screen j) c .first) s) (hserv : inService (s.presence (.screen j)) = true) :
    exec (.orderAcknowledged l a) s = .next ((recordClean (.screen j) (s.halfSent l j c)).onward l) := by
  rw [exec_orderAcknowledged hcalm.1 hline hj]
  have hend : endOrder l (.screen j) c .first s = nextExchange l (recordClean (.screen j) (s.halfSent l j c)) := rfl
  rw [hend, settleLink_nextExchange hcalm (firstSegment_taken c hserv).kept l (by cases l <;> decide)]

/-- Settles O47: the acknowledgement is taken by the block that formed the order, before the line's next exchange; and
the next exchange is that of the first step of R193 with a claim. -/
theorem orderAcknowledgedRecords : Obligations.OrderAcknowledgedRecords := by
  unfold Obligations.OrderAcknowledgedRecords
  refine ⟨?_, ?_⟩
  · intro s u c seg a hcalm l hj hline _ hserv
    by_cases hseg : ∀ j, u = .screen j → seg ≠ .first
    · set w := takeAcknowledgement u c (s.ordered l) with hw
      have htaken : OrderTaken l u s w := takeAcknowledgement_taken c hserv
      obtain ⟨hp, hm, hothers, hcons, hcount, hkept⟩ := htaken.onward
      refine ⟨_, exec_acknowledged hcalm hj hline hserv hseg, hp, hm, hothers, hcons, hcount, hkept,
        fun i hi => ⟨?_, ?_⟩, fun j hju => ?_⟩
      · rw [State.onward_others, (takeAcknowledgement_kept u c _).line (ofLine_notMem l), ordered_line]
      · obtain ⟨m, f, hr⟩ := w.onward_seats l i
        rw [← hw, hr]
        subst hi
        exact takeAcknowledgement_seat i c (s.ordered l)
      · obtain ⟨k, m, hr⟩ := w.onward_screens l j
        rw [← hw, hr]
        subst hju
        obtain ⟨hconfirm, hitem⟩ := takeAcknowledgement_screen j c (s.ordered l)
        exact ⟨fun hc _ => hconfirm hc, fun n y k hc _ => hitem n y k hc, fun h => absurd h (hseg j rfl)⟩
    · obtain ⟨j, rfl, rfl⟩ : ∃ j, u = .screen j ∧ seg = .first := by simpa using hseg
      set w := recordClean (.screen j) (s.halfSent l j c) with hw
      have htaken : OrderTaken l (.screen j) s w := firstSegment_taken c hserv
      obtain ⟨hp, hm, hothers, hcons, hcount, hkept⟩ := htaken.onward
      have hwl : w.line l = (s.halfSent l j c).line l := (recordClean_keptFloor _ _).line (ofLine_notMem l)
      have hsecond : (w.line l).second = some (j, c) := by rw [hwl, halfSent_line]
      refine ⟨_, exec_firstSegment hcalm hj hline hserv, hp, hm, hothers, hcons, hcount, hkept,
        fun i hi => (by cases hi), fun j' hj' => ?_⟩
      cases hj'
      refine ⟨fun _ h => (by cases h), fun _ _ _ _ h => absurd rfl h, fun _ => ⟨?_, ?_, ?_, ?_⟩⟩
      · rw [State.onward_line, nextExchange_of_second hsecond, putExchange_activity]
      · rw [State.onward_line, nextExchange_of_second hsecond]
        unfold putExchange
        rw [State.modLine_line]
      · rw [State.onward_others, hwl, halfSent_line]
      · obtain ⟨k, m, hr⟩ := w.onward_screens l j
        rw [hr]
        show (w.screen j).itemSent = _
        rw [hw, recordClean_itemSent]
        exact congrArg (fun v : Vector ScreenRec 4 => v[j].itemSent)
          ((halfSent_kept l j c s).same .screens (by cases l <;> decide))
  · intro s l x t sent urgent bulk
    refine ⟨fun j c h => ?_, fun hs hr => ?_, fun hs hr hd => ?_, fun hs hr hd => ⟨fun ho hserved => ?_, fun ho => ?_⟩⟩
    · have hnext := nextExchange_of_second h
      refine ⟨by simp only [sent, t, hnext, putExchange_activity], ?_⟩
      simp only [t, hnext, putExchange, State.modLine_line, State.setLine_line]
    · simp only [sent, t, nextExchange_of_rescans hs hr, beginEnumeration, State.modLine_line, and_self]
    · simp only [sent, t, nextExchange_of_sleep hs hr hd, putExchange_activity]
    · obtain ⟨n, probe, _, h⟩ := nextExchange_of_others hs hr hd ho hserved
      exact ⟨n, probe, h⟩
    · refine ⟨fun u hu hm => nextExchange_confirm hs hr hd ho hu hm,
        fun i hu hc => nextExchange_levels hs hr hd ho hu hc,
        fun i hn hi => nextExchange_fetch hs hr hd ho hn hi,
        fun i hb hm hne => nextExchange_bulk hs hr hd ho hb (bulkKind_status hm) (formOrder_status hne),
        fun i hb hm hne => ?_,
        fun j n hb hm hmin hne => nextExchange_bulk hs hr hd ho hb (bulkKind_item hm hmin) (formOrder_item hne),
        fun n hn hf hb hbegun hmem hlt hmin => nextExchange_poll hs hr hd ho hn hf hb hbegun hmem hlt hmin⟩
      have hclaim : s.bulkClaim (.seat i) = true := by
        obtain ⟨_, _, ⟨_, _, hclaim⟩, _⟩ := hb
        exact hclaim
      exact nextExchange_bulk hs hr hd ho hb (bulkKind_label hm hclaim) (formOrder_label hne)

end Sys2Proof.Machine
end

section
/-! A seat that stands in no list comes into none by what follows a close or a role change: the floor opens, moves
and closes entries that wait or speak already (R12, R28, R45). -/

open Sys2Proof Sys2Proof.Machine

namespace Sys2Proof.Machine

/-- A seat neither speaks nor requests. -/
structure OffFloor (i : SeatId) (s : State) : Prop where
  speaking : s.speaking i = false
  requesting : s.requesting i = false

theorem speaking_eq_false {s : State} {i : SeatId} :
    s.speaking i = false ↔ i ∉ s.floor.speakers.map (·.seat) := by
  rw [Bool.eq_false_iff, ne_eq, speaking_iff]
  simp

theorem requesting_eq_false {s : State} {i : SeatId} :
    s.requesting i = false ↔ i ∉ s.floor.requests.map (·.seat) := by
  rw [Bool.eq_false_iff, ne_eq, requesting_iff]
  simp

namespace OffFloor

variable {i : SeatId} {s t : State}

/-- It stays so where the lists name no other seats. -/
theorem mono (h : OffFloor i s) (hs : t.floor.speakers.map (·.seat) ⊆ s.floor.speakers.map (·.seat))
    (hr : t.floor.requests.map (·.seat) ⊆ s.floor.requests.map (·.seat)) : OffFloor i t :=
  ⟨speaking_eq_false.mpr fun hm => speaking_eq_false.mp h.speaking (hs hm),
    requesting_eq_false.mpr fun hm => requesting_eq_false.mp h.requesting (hr hm)⟩

theorem ofFloor (h : OffFloor i s) (hf : t.floor = s.floor) : OffFloor i t :=
  h.mono (hf ▸ fun _ => id) (hf ▸ fun _ => id)

theorem ne_of_requesting (h : OffFloor i s) {j : SeatId} (hj : s.requesting j = true) : j ≠ i := by
  rintro rfl
  rw [h.requesting] at hj
  cases hj

theorem ite {c : Prop} [Decidable c] (h : c → OffFloor i s) (k : ¬ c → OffFloor i t) :
    OffFloor i (if c then s else t) := by
  split
  · next hc => exact h hc
  · next hc => exact k hc

theorem foldl {α : Type} {f : State → α → State} (hf : ∀ s a, OffFloor i s → OffFloor i (f s a)) (l : List α)
    (h : OffFloor i s) : OffFloor i (l.foldl f s) := by
  induction l generalizing s with
  | nil => exact h
  | cons a l ih => exact ih (hf s a h)

/-! ## The shared steps -/

section steps
variable (h : OffFloor i s)
include h

theorem refuse (j : SeatId) (c : RefusalCode) : OffFloor i (Machine.refuse j c s) := h.ofFloor rfl

theorem withdrawSeat (j : SeatId) : OffFloor i (Machine.withdrawSeat j s) := by
  have hf := withdrawSeat_floor j s
  refine h.mono (by rw [hf]; exact fun _ => id) ?_
  rw [hf]
  exact (List.filter_sublist.map _).subset

theorem dropHolder (j : SeatId) : OffFloor i (Machine.dropHolder j s) := by
  have hs := dropHolder_speakers j s (·.seat) fun _ _ => rfl
  have hr := dropHolder_requests j s
  exact h.mono (by rw [hs]; exact fun _ => id) (by rw [hr]; exact fun _ => id)

theorem closeSeatAs (w : SeatId → Option Nat) (r : CloseReason) (j : SeatId) :
    OffFloor i (Machine.closeSeatAs w r j s) := by
  unfold Machine.closeSeatAs
  split
  · exact h
  · next e _ =>
    refine dropHolder (s := clearRefusal j (setSpeakers _ (noteClose j r (logSpeech (w j) e r s)))) ?_ j
    refine h.mono ?_ fun _ => id
    exact (List.filter_sublist (l := s.floor.speakers).map _).subset

/-- A seat that waits and opens is another one. -/
theorem openSeat {j : SeatId} (hj : s.requesting j = true) : OffFloor i (Machine.openSeat j s) := by
  have hne : j ≠ i := h.ne_of_requesting hj
  refine ⟨speaking_eq_false.mpr ?_, requesting_eq_false.mpr ?_⟩
  · rw [openSeat_floor]
    simp only [List.map_append, List.map_cons, List.map_nil, List.mem_append, List.mem_singleton]
    rintro (hm | hm)
    · exact speaking_eq_false.mp h.speaking hm
    · exact hne hm.symm
  · rw [openSeat_floor]
    exact fun hm => requesting_eq_false.mp h.requesting ((List.filter_sublist.map _).subset hm)

theorem modSpeaker (j : SeatId) {f : SpeakerEntry → SpeakerEntry} (hf : ∀ e, (f e).seat = e.seat) :
    OffFloor i (Machine.modSpeaker j f s) := by
  have hseats : (Machine.modSpeaker j f s).floor.speakers.map (·.seat) = s.floor.speakers.map (·.seat) := by
    simp only [Machine.modSpeaker, setSpeakers, State.setFloor_floor, List.map_map]
    refine List.map_congr_left fun e _ => ?_
    dsimp only [Function.comp]
    split
    · exact hf e
    · rfl
  exact h.mono (by rw [hseats]; exact fun _ => id) fun _ => id

theorem setTiming (j : SeatId) (w o : Bool) : OffFloor i (Machine.setTiming j w o s) := by
  unfold Machine.setTiming
  split
  · exact h
  · exact .ite (fun _ => h) fun _ =>
      ofFloor (s := Machine.modSpeaker j (fun e => { e with warned := w, overran := o }) s)
        (h.modSpeaker j fun _ => rfl) rfl

end steps

theorem grantHeadLoop (h : OffFloor i s) (fuel : Nat) : OffFloor i (Machine.grantHeadLoop fuel none s).2 := by
  induction fuel generalizing s with
  | zero => exact h
  | succ n ih =>
    unfold Machine.grantHeadLoop
    split
    · exact h
    · next r _ hq =>
      split
      · exact ih ((h.withdrawSeat r.seat).refuse r.seat .notPermitted)
      · split
        · exact h.openSeat ((requesting_iff s _).mpr ⟨r, hq ▸ List.mem_cons_self, rfl⟩)
        · exact h

/-! ## What follows a close, and a role change -/

section follows
variable (h : OffFloor i s)
include h

theorem advance : OffFloor i (Machine.advance s) := by
  rcases advance_eq s with ha | ha
  · rwa [ha]
  · rw [ha]; exact h.grantHeadLoop _

theorem closeAdvanceAs (w : SeatId → Option Nat) (r : CloseReason) (j : SeatId) :
    OffFloor i (Machine.closeAdvanceAs w r j s) := by
  unfold Machine.closeAdvanceAs
  split
  · exact h
  · exact .ite (fun _ => h.closeSeatAs w r j) fun _ => (h.closeSeatAs w r j).advance

theorem warningCheck (j : SeatId) : OffFloor i (Machine.warningCheck j s) := by
  unfold Machine.warningCheck
  split
  · exact h
  · exact .ite (fun _ => h.setTiming j _ _) fun _ => h

theorem limitCheckAs (w : SeatId → Option Nat) (j : SeatId) : OffFloor i (Machine.limitCheckAs w j s) := by
  unfold Machine.limitCheckAs
  split
  · exact h
  · refine .ite (fun _ => ?_) fun _ => h
    split
    · exact h.closeAdvanceAs w _ j
    · exact h.setTiming j _ _

theorem allowanceCheckAs (w : SeatId → Option Nat) (j : SeatId) : OffFloor i (Machine.allowanceCheckAs w j s) := by
  unfold Machine.allowanceCheckAs
  split
  · exact h
  · exact .ite (fun _ => h.closeAdvanceAs w _ j) fun _ => h

theorem barCheckAs (w : SeatId → Option Nat) (j : SeatId) : OffFloor i (Machine.barCheckAs w j s) :=
  .ite (fun _ => h.allowanceCheckAs w j) fun _ => .ite (fun _ => (h.withdrawSeat j).refuse j .timeUsed) fun _ => h

theorem timingCheckAs (w : SeatId → Option Nat) (j : SeatId) : OffFloor i (Machine.timingCheckAs w j s) :=
  ((h.allowanceCheckAs w j).limitCheckAs w j).warningCheck j

theorem becomeChair (w : SeatId → Option Nat) (j : SeatId) : OffFloor i (Machine.becomeChair w j s) :=
  .ite (fun _ => (h.setTiming j false false).modSpeaker j fun _ => rfl) fun _ => h.closeAdvanceAs w .limit j

theorem ceaseChair (w : SeatId → Option Nat) (j : SeatId) : OffFloor i (Machine.ceaseChair w j s) := by
  refine .ite (fun _ => timingCheckAs ?_ w j) fun _ => (h.dropHolder j).closeSeatAs w .limit j
  exact (h.dropHolder j).modSpeaker j fun _ => rfl

theorem requestRolePass (c : SeatId → Bool) (r : RequestEntry) : OffFloor i (Machine.requestRolePass c s r) := by
  refine .ite (fun hc => .ite (fun _ => (h.withdrawSeat r.seat).refuse r.seat _) fun _ => .ite (fun _ => ?_) fun _ => h)
    fun _ => h
  have hperm := (Bounded.insertRequest_perm { r with band := (s.seatDef r.seat).band }
    (s.floor.requests.filter fun x => !(x.seat == r.seat))).map (·.seat)
  refine h.mono (fun _ => id) fun j hj => ?_
  rcases List.mem_cons.mp (hperm.subset hj) with rfl | hj
  · obtain ⟨q, hq, hqe⟩ := (requesting_iff s _).mp hc.2
    exact List.mem_map.mpr ⟨q, hq, hqe⟩
  · exact (List.filter_sublist.map _).subset hj

theorem speakerRolePass (w : SeatId → Option Nat) (c : SeatId → Bool) (e : SpeakerEntry) :
    OffFloor i (Machine.speakerRolePass w c s e) := by
  unfold Machine.speakerRolePass
  split
  · exact h
  · refine .ite (fun _ => h) fun _ => .ite (fun _ => h.closeAdvanceAs w _ _) fun _ => allowanceCheckAs ?_ w _
    exact .ite (fun _ => h) fun _ => .ite (fun _ => h.becomeChair w _) fun _ => h.ceaseChair w _

theorem roleConsequences (s0 : State) : OffFloor i (Machine.roleConsequences s0 s) :=
  .ite (fun _ => h) fun _ => foldl (fun _ j hs => hs.barCheckAs _ j) _
    (foldl (fun _ e hs => hs.speakerRolePass _ _ e) _ (foldl (fun _ r hs => hs.requestRolePass _ r) _ h))

end follows

/-- A change after which a seat is in no list leaves it in none. -/
theorem change {f : State → State} (h : OffFloor i (f s)) : OffFloor i (Machine.change f s) := by
  obtain ⟨hf, _, _⟩ := (change_handed f s).passed
  exact (h.roleConsequences s).ofFloor hf

end OffFloor

end Sys2Proof.Machine
end

section
/-! What no operation of the floor writes: everything but the lists, the holders and the counters of the floor, the
log, the refusal codes, and the notice marks and the close summary of the link. Said once, for any reading of the
state. -/

open Sys2Proof Sys2Proof.Machine

namespace Sys2Proof.Machine

/-- A reading of the state that the writes of the floor controller leave. -/
structure Unwritten {β : Type} (g : State → β) : Prop where
  setFloor : ∀ (s : State) (x : Floor), x.policy = s.floor.policy → x.isOpen = s.floor.isOpen → g (s.setFloor x) = g s
  setLog : ∀ (s : State) (x : SpeechLog), g (s.setLog x) = g s
  setLink : ∀ (s : State) (x : HostLink), g (s.setLink x) = g s
  setRefusal : ∀ (s : State) (i : SeatId) (c : Option RefusalCode),
    g (s.modSeat i fun r => { r with refusal := c }) = g s

namespace Unwritten

variable {β : Type} {g : State → β} (h : Unwritten g)
include h

/-! ## The writes -/

theorem refuse (i : SeatId) (c : RefusalCode) (s : State) : g (Machine.refuse i c s) = g s := h.setRefusal s i (some c)

theorem clearRefusal (i : SeatId) (s : State) : g (Machine.clearRefusal i s) = g s := h.setRefusal s i none

theorem setSpeakers (l : List SpeakerEntry) (s : State) : g (Machine.setSpeakers l s) = g s := h.setFloor s _ rfl rfl

theorem setRequests (l : List RequestEntry) (s : State) : g (Machine.setRequests l s) = g s := h.setFloor s _ rfl rfl

theorem modSpeaker (i : SeatId) (f : SpeakerEntry → SpeakerEntry) (s : State) : g (Machine.modSpeaker i f s) = g s :=
  h.setSpeakers _ s

theorem unmuteAll (s : State) : g (Machine.unmuteAll s) = g s := h.setFloor s _ rfl rfl

theorem logSpeech (a : Option Nat) (e : SpeakerEntry) (r : CloseReason) (s : State) :
    g (Machine.logSpeech a e r s) = g s := (h.setLink _ _).trans (h.setLog s _)

theorem noteClose (i : SeatId) (r : CloseReason) (s : State) : g (Machine.noteClose i r s) = g s := h.setLink s _

theorem markSpeech (i : SeatId) (s : State) : g (Machine.markSpeech i s) = g s := h.setLink s _

omit h in
theorem ite {c : Prop} [Decidable c] {s t u : State} (ht : g t = g s) (hu : g u = g s) :
    g (if c then t else u) = g s := by
  split
  · exact ht
  · exact hu

/-! ## The shared steps (R8 to R13) -/

theorem dropHolder (i : SeatId) (s : State) : g (Machine.dropHolder i s) = g s := by
  have hs := h.setFloor s { s.floor with holders := s.floor.holders.filter fun j => !(j == i) } rfl rfl
  exact ite (ite ((h.unmuteAll _).trans hs) hs) rfl

theorem openSeat (i : SeatId) (s : State) : g (Machine.openSeat i s) = g s := by
  have hs := (h.clearRefusal i _).trans (h.setFloor s { s.floor with
    speakers := s.floor.speakers ++ [s.newSpeaker i]
    requests := s.floor.requests.filter (fun r => !(r.seat == i))
    speechCount := s.floor.speechCount + 1 } rfl rfl)
  exact ite ((h.markSpeech i _).trans hs) hs

theorem closeSeatAs (w : SeatId → Option Nat) (r : CloseReason) (i : SeatId) (s : State) :
    g (Machine.closeSeatAs w r i s) = g s := by
  unfold Machine.closeSeatAs
  split
  · rfl
  · exact (h.dropHolder i _).trans ((h.clearRefusal i _).trans ((h.setSpeakers _ _).trans
      ((h.noteClose i r _).trans (h.logSpeech _ _ r s))))

theorem queueSeat (i : SeatId) (s : State) : g (Machine.queueSeat i s) = g s :=
  ite ((h.clearRefusal i _).trans (h.setFloor s _ rfl rfl)) (h.refuse i .queueFull s)

theorem withdrawSeat (i : SeatId) (s : State) : g (Machine.withdrawSeat i s) = g s :=
  ite ((h.clearRefusal i _).trans (h.setRequests _ s)) rfl

theorem closeOldest (r : CloseReason) (s : State) : g (Machine.closeOldest r s) = g s := by
  unfold Machine.closeOldest
  split
  · exact h.closeSeatAs _ r _ s
  · rfl

theorem grantHeadLoop (fuel : Nat) (r : Option CloseReason) (s : State) :
    g (Machine.grantHeadLoop fuel r s).2 = g s := by
  induction fuel generalizing s with
  | zero => rfl
  | succ n ih =>
    unfold Machine.grantHeadLoop
    split
    · rfl
    · next q _ _ =>
      split
      · exact (ih _).trans ((h.refuse q.seat .notPermitted _).trans (h.withdrawSeat q.seat s))
      · split
        · exact h.openSeat q.seat s
        · split
          · split
            · rfl
            · exact (h.openSeat q.seat _).trans (h.closeOldest _ s)
          · rfl

theorem grantHead (r : Option CloseReason) (s : State) : g (Machine.grantHead r s).2 = g s := h.grantHeadLoop _ r s

theorem advance (s : State) : g (Machine.advance s) = g s := by
  unfold Machine.advance
  split
  · exact ite rfl (h.grantHead none s)
  · exact ite (h.grantHead none s) rfl

theorem closeAdvanceAs (w : SeatId → Option Nat) (r : CloseReason) (i : SeatId) (s : State) :
    g (Machine.closeAdvanceAs w r i s) = g s := by
  unfold Machine.closeAdvanceAs
  split
  · rfl
  · exact ite (h.closeSeatAs w r i s) ((h.advance _).trans (h.closeSeatAs w r i s))

omit h in
theorem foldl {α : Type} {f : State → α → State} (hf : ∀ s a, g (f s a) = g s) (l : List α) (s : State) :
    g (l.foldl f s) = g s := by
  induction l generalizing s with
  | nil => rfl
  | cons a l ih => exact (ih _).trans (hf s a)

theorem closeAll (r : CloseReason) (l : List SeatId) (s : State) : g (Machine.closeAll r l s) = g s :=
  foldl (fun s i => h.closeSeatAs s.boundAttendee r i s) l s

theorem emptyRequests (s : State) : g (Machine.emptyRequests s) = g s :=
  foldl (fun s (r : RequestEntry) => h.withdrawSeat r.seat s) _ s

theorem endFloorEntry (r : CloseReason) (i : SeatId) (s : State) : g (Machine.endFloorEntry r i s) = g s :=
  ite (h.closeAdvanceAs _ r i s) (h.withdrawSeat i s)

/-! ## Keys (R19 to R25) -/

theorem micOpenMode (i : SeatId) (s : State) : g (Machine.micOpenMode i s) = g s := by
  refine ite (h.refuse i _ s) (ite (h.openSeat i s) ?_)
  split
  · exact h.refuse i .full s
  · exact ite (h.queueSeat i s) (h.refuse i .full s)
  · exact ite (h.refuse i .full s) ((h.openSeat i _).trans (h.closeOldest _ s))

theorem micRequestMode (i : SeatId) (s : State) : g (Machine.micRequestMode i s) = g s :=
  ite (h.queueSeat i s) (h.refuse i _ s)

theorem micPress (i : SeatId) (s : State) : g (Machine.micPress i s) = g s := by
  have hc := h.clearRefusal i s
  refine ite rfl (ite (ite ?_ ?_) (ite ?_ ?_))
  · exact (h.closeAdvanceAs _ .own i _).trans hc
  · exact (h.refuse i .noOwnClose _).trans hc
  · exact (h.withdrawSeat i _).trans hc
  · split
    · exact (h.micOpenMode i _).trans hc
    · exact (h.micRequestMode i _).trans hc

theorem nextPress (i : SeatId) (s : State) : g (Machine.nextPress i s) = g s := by
  have hc := h.clearRefusal i s
  refine ite rfl (ite ((h.refuse i .notPermitted _).trans hc) ?_)
  have hg (r : Option CloseReason) := (h.grantHead r (Machine.clearRefusal i s)).trans hc
  dsimp only
  split
  · next heq => exact (congrArg (fun p => g p.2) heq).symm.trans (hg _)
  · next heq => exact (h.refuse i .noneWaiting _).trans ((congrArg (fun p => g p.2) heq).symm.trans (hg _))
  · next heq => exact (h.refuse i .full _).trans ((congrArg (fun p => g p.2) heq).symm.trans (hg _))

theorem applyPriority (s : State) : g (Machine.applyPriority s) = g s := by
  unfold Machine.applyPriority
  split
  · exact h.setFloor s _ rfl rfl
  · exact (h.closeAll .priority _ _).trans (h.emptyRequests s)

theorem priorityHeld (i : SeatId) (s : State) : g (Machine.priorityHeld i s) = g s := by
  have hc := h.clearRefusal i s
  refine ite rfl (ite ((h.refuse i .notPermitted _).trans hc) (ite ((h.refuse i _ _).trans hc)
    (ite ((h.refuse i .full _).trans hc) ?_)))
  have hs := (h.setFloor (Machine.clearRefusal i s) { (Machine.clearRefusal i s).floor with
    holders := if i ∈ (Machine.clearRefusal i s).floor.holders then (Machine.clearRefusal i s).floor.holders
      else (Machine.clearRefusal i s).floor.holders ++ [i] } rfl rfl).trans hc
  exact (h.applyPriority _).trans (ite hs ((h.openSeat i _).trans hs))

theorem priorityReleased (i : SeatId) (s : State) : g (Machine.priorityReleased i s) = g s :=
  ite rfl (h.dropHolder i s)

/-! ## The checks of a speech, and role changes (R37 to R45, R86, R87) -/

theorem setTiming (i : SeatId) (w o : Bool) (s : State) : g (Machine.setTiming i w o s) = g s := by
  unfold Machine.setTiming
  split
  · rfl
  · exact ite rfl ((h.markSpeech i _).trans (h.modSpeaker i _ s))

theorem warningCheck (i : SeatId) (s : State) : g (Machine.warningCheck i s) = g s := by
  unfold Machine.warningCheck
  split
  · rfl
  · exact ite (h.setTiming i _ _ s) rfl

theorem limitCheckAs (w : SeatId → Option Nat) (i : SeatId) (s : State) : g (Machine.limitCheckAs w i s) = g s := by
  unfold Machine.limitCheckAs
  split
  · rfl
  · refine ite ?_ rfl
    split
    · exact h.closeAdvanceAs w _ i s
    · exact h.setTiming i _ _ s

theorem allowanceCheckAs (w : SeatId → Option Nat) (i : SeatId) (s : State) :
    g (Machine.allowanceCheckAs w i s) = g s := by
  unfold Machine.allowanceCheckAs
  split
  · rfl
  · exact ite (h.closeAdvanceAs w _ i s) rfl

theorem barCheckAs (w : SeatId → Option Nat) (i : SeatId) (s : State) : g (Machine.barCheckAs w i s) = g s :=
  ite (h.allowanceCheckAs w i s) (ite ((h.refuse i .timeUsed _).trans (h.withdrawSeat i s)) rfl)

theorem timingCheckAs (w : SeatId → Option Nat) (i : SeatId) (s : State) : g (Machine.timingCheckAs w i s) = g s :=
  (h.warningCheck i _).trans ((h.limitCheckAs w i _).trans (h.allowanceCheckAs w i s))

theorem becomeChair (w : SeatId → Option Nat) (i : SeatId) (s : State) : g (Machine.becomeChair w i s) = g s :=
  ite ((h.modSpeaker i _ _).trans (h.setTiming i _ _ s)) (h.closeAdvanceAs w _ i s)

theorem ceaseChair (w : SeatId → Option Nat) (i : SeatId) (s : State) : g (Machine.ceaseChair w i s) = g s :=
  ite ((h.timingCheckAs w i _).trans ((h.modSpeaker i _ _).trans (h.dropHolder i s)))
    ((h.closeSeatAs w _ i _).trans (h.dropHolder i s))

theorem requestRolePass (c : SeatId → Bool) (s : State) (r : RequestEntry) :
    g (Machine.requestRolePass c s r) = g s :=
  ite (ite ((h.refuse r.seat _ _).trans (h.withdrawSeat r.seat s)) (ite (h.setRequests _ s) rfl)) rfl

theorem speakerRolePass (w : SeatId → Option Nat) (c : SeatId → Bool) (s : State) (e : SpeakerEntry) :
    g (Machine.speakerRolePass w c s e) = g s := by
  unfold Machine.speakerRolePass
  split
  · rfl
  · refine ite rfl (ite (h.closeAdvanceAs w _ _ s) ((h.allowanceCheckAs w _ _).trans ?_))
    exact ite rfl (ite (h.becomeChair w _ s) (h.ceaseChair w _ s))

theorem roleConsequences (s0 s : State) : g (Machine.roleConsequences s0 s) = g s :=
  ite rfl ((foldl (fun s i => h.barCheckAs _ i s) _ _).trans ((foldl (fun s e => h.speakerRolePass _ _ s e) _ _).trans
    (foldl (fun s r => h.requestRolePass _ s r) _ s)))

end Unwritten

/-! ## Readings that no floor operation writes -/

theorem unwritten_screens : Unwritten (fun s : State => s.screens) where
  setFloor _ _ _ _ := rfl
  setLog _ _ := rfl
  setLink _ _ := rfl
  setRefusal _ _ _ := rfl

theorem unwritten_unrefused (i : SeatId) : Unwritten (fun s : State => (s.seat i).unrefused) where
  setFloor _ _ _ _ := rfl
  setLog _ _ := rfl
  setLink _ _ := rfl
  setRefusal s j c := by
    rw [State.modSeat_seat]
    split
    · next e => rw [e]; rfl
    · rfl

theorem unwritten_policy : Unwritten (fun s : State => (s.floor.policy, s.floor.isOpen)) where
  setFloor _ _ hp ho := Prod.ext hp ho
  setLog _ _ := rfl
  setLink _ _ := rfl
  setRefusal _ _ _ := rfl

theorem Steady.ofUnwritten {s t : State} (ho : t.outer = s.outer) (hq : t.seq = s.seq)
    (h : ∀ {β : Type} {g : State → β}, Unwritten g → g t = g s) : Steady s t :=
  ⟨ho, hq, fun i => h (unwritten_unrefused i), (congrArg Prod.fst (h unwritten_policy) :),
    (congrArg Prod.snd (h unwritten_policy) :)⟩

theorem micPress_steady (i : SeatId) (s : State) : Steady s (micPress i s) :=
  .ofUnwritten (outer_micPress i s) (seq_micPress i s) fun h => h.micPress i s

theorem nextPress_steady (i : SeatId) (s : State) : Steady s (nextPress i s) :=
  .ofUnwritten (outer_nextPress i s) (seq_nextPress i s) fun h => h.nextPress i s

theorem priorityHeld_steady (i : SeatId) (s : State) : Steady s (priorityHeld i s) :=
  .ofUnwritten (outer_priorityHeld i s) (seq_priorityHeld i s) fun h => h.priorityHeld i s

theorem priorityReleased_steady (i : SeatId) (s : State) : Steady s (priorityReleased i s) :=
  .ofUnwritten (outer_priorityReleased i s) (seq_priorityReleased i s) fun h => h.priorityReleased i s

theorem endFloorEntry_steady (r : CloseReason) (i : SeatId) (s : State) : Steady s (endFloorEntry r i s) :=
  .ite (closeAdvance_steady r i s) (withdrawSeat_steady i s)

end Sys2Proof.Machine
end

section
/-! What a change hands on to the records of the units, and what the arbiter leaves of them (R62, R142, R194). -/

open Sys2Proof Sys2Proof.Machine

namespace Sys2Proof.Machine

/-! ## Marks -/

/-- The mark of an order kind in a seat's pending set. -/
def SeatPending.has (p : SeatPending) : OrderKind → Bool
  | .confirm => p.confirm
  | .speaker => p.speaker
  | .mic => p.mic
  | .gain => p.gain
  | .status => p.status
  | .label => p.label
  | .item _ => false

theorem marked_seat (s : State) (i : SeatId) (k : OrderKind) : s.marked (.seat i) k = (s.seat i).marks.has k := by
  cases k <;> rfl

/-- The mark of an order kind at a screen. -/
def ScreenRec.has (c : ScreenRec) : OrderKind → Bool
  | .confirm => c.confirmMark
  | .item n => c.itemMarks[n]
  | _ => false

theorem marked_screen (s : State) (j : ScreenId) (k : OrderKind) : s.marked (.screen j) k = (s.screen j).has k := by
  cases k <;> rfl

/-! ## What a change hands on (R61, R62, R142) -/

/-- A seat's record less its targets, its pending set and its refusal code. -/
def SeatRec.core (r : SeatRec) : SeatRec :=
  { r with marks := SeatPending.empty, targetMic := .off, targetSpeaker := .mute, refusal := none }

/-- What handing a change on can make of a seat's record: new targets, marks that are set, another refusal code. -/
structure SeatRec.HandedOn (r r' : SeatRec) : Prop where
  core : r'.core = r.core
  marks : ∀ k, r.marks.has k = true → r'.marks.has k = true

/-- What handing a change on can make of a screen's record: marks that are set. -/
structure ScreenRec.HandedOn (c c' : ScreenRec) : Prop where
  core : { c' with itemMarks := c.itemMarks } = c
  marks : ∀ k, c.has k = true → c'.has k = true

namespace SeatRec.HandedOn

theorem refl (r : SeatRec) : r.HandedOn r := ⟨rfl, fun _ => id⟩

theorem trans {r r' r'' : SeatRec} (h : r.HandedOn r') (k : r'.HandedOn r'') : r.HandedOn r'' :=
  ⟨k.core.trans h.core, fun x hx => k.marks x (h.marks x hx)⟩

theorem ofUnrefused {r r' : SeatRec} (h : r'.unrefused = r.unrefused) : r.HandedOn r' := by
  have hm : r'.marks = r.marks := (congrArg SeatRec.marks h :)
  exact ⟨(congrArg SeatRec.core h :), fun k => by rw [hm]; exact id⟩

theorem markMicStage (r : SeatRec) : r.HandedOn (Machine.markMicStage r) := by
  have hmark (m : SeatPending) (hm : ∀ k, r.marks.has k = true → m.has k = true) :
      r.HandedOn { r with marks := m } := ⟨rfl, hm⟩
  unfold Machine.markMicStage
  repeat' split
  · exact .refl r
  · exact hmark _ fun k hk => by cases k <;> simp_all [SeatPending.has]
  · exact .refl r
  · exact hmark _ fun k hk => by cases k <;> simp_all [SeatPending.has]
  · exact hmark _ fun k hk => by cases k <;> simp_all [SeatPending.has]

theorem markSpeakerStage (r : SeatRec) : r.HandedOn (Machine.markSpeakerStage r) := by
  unfold Machine.markSpeakerStage
  split
  · exact .refl r
  · exact ⟨rfl, fun k hk => by cases k <;> simp_all [SeatPending.has]⟩

theorem markLevels (r : SeatRec) : r.HandedOn (Machine.markLevels r) := by
  unfold Machine.markLevels
  split
  · exact (markMicStage r).trans (markSpeakerStage _)
  · exact .refl r

theorem recompute (s : State) (i : SeatId) : (s.seat i).HandedOn ((Machine.recompute s).seat i) := by
  have hr : (s.seat i).HandedOn (s.retargeted s.liveSeats i) := by
    unfold State.retargeted
    dsimp only
    split
    · exact .refl _
    · exact ⟨rfl, fun _ => id⟩
  unfold Machine.recompute
  simp only [State.seat, State.setSeats, Fin.getElem_fin, Vector.getElem_ofFn]
  split
  · exact hr.trans (markLevels _)
  · exact hr

theorem markDisplays (s0 s1 : State) (i : SeatId) :
    (s1.seat i).HandedOn ((Machine.markDisplays s0 s1).seat i) := by
  unfold Machine.markDisplays
  simp only [State.seat, State.setSeats, State.setScreens, Fin.getElem_fin, Vector.getElem_ofFn]
  unfold markSeatDisplays
  split
  · exact .refl _
  · exact ⟨rfl, fun k hk => by cases k <;> simp_all [SeatPending.has]⟩

theorem finishChange (b : Bool) (s0 s1 : State) (i : SeatId) :
    (s1.seat i).HandedOn ((Machine.finishChange b s0 s1).seat i) := by
  have hn (v : State) : (markSeatNotices s0 v).seat i = v.seat i :=
    markSeatNotices_keeps (fun v => v.seat i) (fun _ _ => rfl) s0 v
  have hf (v : State) : (if s0.floorReport = v.floorReport then v else markFloor v).seat i = v.seat i := by
    split <;> rfl
  have hc : (s1.seat i).HandedOn ((roleConsequences s0 s1).seat i) :=
    .ofUnrefused ((unwritten_unrefused i).roleConsequences s0 s1)
  unfold Machine.finishChange
  dsimp only
  refine .trans ?_ (markDisplays _ _ _)
  rw [hf, hn]
  split
  · exact hc.trans (recompute _ i)
  · exact hc

end SeatRec.HandedOn

namespace ScreenRec.HandedOn

theorem refl (c : ScreenRec) : c.HandedOn c := ⟨rfl, fun _ => id⟩

theorem markItems (s : State) (due : ItemId → Bool) (c : ScreenRec) : c.HandedOn (Machine.markItems s due c) := by
  unfold Machine.markItems
  split
  · exact .refl c
  · refine ⟨rfl, fun k hk => ?_⟩
    cases k <;> simp_all [ScreenRec.has]

theorem finishChange (b : Bool) (s0 s1 : State) (j : ScreenId) :
    (s1.screen j).HandedOn ((Machine.finishChange b s0 s1).screen j) := by
  have hn (v : State) : (markSeatNotices s0 v).screens = v.screens :=
    markSeatNotices_keeps (·.screens) (fun _ _ => rfl) s0 v
  have hf (v : State) : (if s0.floorReport = v.floorReport then v else markFloor v).screens = v.screens := by
    split <;> rfl
  have hr (v : State) (c : Prop) [Decidable c] : (if c then recompute v else v).screens = v.screens := by
    split
    · exact (recompute_kept v).same .screens (by decide)
    · rfl
  have hc : (roleConsequences s0 s1).screens = s1.screens := unwritten_screens.roleConsequences s0 s1
  have hd (v : State) (hv : v.screens = s1.screens) : (s1.screen j).HandedOn ((markDisplays s0 v).screen j) := by
    have hj : (markDisplays s0 v).screen j = Machine.markItems v (itemsDue s0 v) (s1.screen j) := by
      unfold markDisplays State.screen
      simp [hv]
    rw [hj]
    exact markItems v _ _
  exact hd _ ((hf _).trans ((hn _).trans ((hr _ _).trans hc)))

end ScreenRec.HandedOn

theorem finishChange_standing (b : Bool) (s0 s1 : State) (u : Station) :
    (finishChange b s0 s1).standing u = s1.standing u := by
  cases u with
  | seat i =>
    have h := (SeatRec.HandedOn.finishChange b s0 s1 i).core
    exact Prod.ext (congrArg SeatRec.presence h :) (congrArg SeatRec.missCount h :)
  | screen j =>
    have h := (ScreenRec.HandedOn.finishChange b s0 s1 j).core
    exact Prod.ext (congrArg ScreenRec.presence h :) (congrArg ScreenRec.missCount h :)

theorem finishChange_marked {b : Bool} {s0 s1 : State} {u : Station} {k : OrderKind} (h : s1.marked u k = true) :
    (finishChange b s0 s1).marked u k = true := by
  cases u with
  | seat i =>
    rw [marked_seat] at h ⊢
    exact (SeatRec.HandedOn.finishChange b s0 s1 i).marks k h
  | screen j =>
    rw [marked_screen] at h ⊢
    exact (ScreenRec.HandedOn.finishChange b s0 s1 j).marks k h

/-- A change writes no block but those of the units, the floor and its log, the roster and the notices. -/
theorem keptBut_of_outer {s t : State} (h : t.outer = s.outer) :
    KeptBut [.floor, .log, .seats, .screens, .sequencer, .marks] s t := by
  intro b hb
  cases b <;> simp at hb <;> simp [Block.Same, outer_powered h, outer_rate h, outer_clock h, outer_masters h,
    outer_roles h, outer_store h, outer_lineA h, outer_lineB h, outer_pending h, outer_receiver h,
    outer_queue h, outer_outstanding h, outer_awaitingReset h, outer_waiting h, outer_onLine h,
    outer_lostRejects h, outer_enables h, outer_run h, outer_startTag h]

theorem OffFloor.finishChange {i : SeatId} {s1 : State} (h : OffFloor i s1) (b : Bool) (s0 : State) :
    OffFloor i (Machine.finishChange b s0 s1) := (h.roleConsequences s0).ofFloor (finishChange_floor b s0 s1)

/-! ## What the arbiter leaves (R191 to R194) -/

/-- A reading of the state that the choice of orders and polls on a line leaves. -/
structure Unserved {β : Type} (l : LineId) (g : State → β) : Prop where
  line : ∀ (s : State) (f : Line → Line), g (s.modLine l f) = g s
  order : ∀ (s : State) (u : Station) (k : OrderKind), inService (s.presence u) = true → g (formOrder u k s).2 = g s

namespace Unserved

variable {β : Type} {l : LineId} {g : State → β} (h : Unserved l g)
include h

theorem serveOrder (kind : State → Station → Option OrderKind) (ptr : Nat → Line → Line) (p : Option Nat) (fuel : Nat)
    (s : State) : g (Machine.serveOrder kind ptr l p fuel s).2 = g s := by
  induction fuel generalizing s with
  | zero => rfl
  | succ fuel ih =>
    unfold Machine.serveOrder
    split
    · rfl
    · next u hu =>
      split
      · rfl
      · next k _ =>
        have hserv : inService (s.presence u) = true := by
          obtain ⟨_, hserv⟩ := mem_inTurn.mp (List.mem_of_find?_eq_some hu)
          exact hserv
        have hform := (h.line _ (ptr (addressOf u))).trans (h.order s u k hserv)
        dsimp only
        split
        · show g (putExchange l _ _) = g s
          exact (h.line _ _).trans hform
        · exact (ih _).trans hform

theorem choosePoll {s t : State} (ht : Machine.choosePoll l s = some t) : g t = g s := by
  unfold Machine.choosePoll at ht
  split at ht
  · cases ht
    exact h.line s _
  · split at ht
    · cases ht
    · obtain ⟨x, _, rfl⟩ := Option.map_eq_some_iff.mp ht
      exact (h.line _ _).trans (h.line s fun y => { y with round := s.newRound l })

omit h in
/-- The FETCH chosen, if any, is of a seat in service, whose mark it clears. -/
theorem serveFetch_eq (l : LineId) (s : State) : serveFetch l s = (false, s)
    ∨ ∃ i, inService (s.presence (.seat i)) = true ∧ serveFetch l s = (true, putExchange l (.fetch i)
      (setFetchMark i false (s.modLine l fun x => { x with fetchPtr := some (positionOfSeat i) }))) := by
  unfold serveFetch
  split
  · next i hi =>
    obtain ⟨_, hserv⟩ := mem_inTurn.mp (List.mem_of_find?_eq_some hi)
    exact .inr ⟨i, hserv, rfl⟩
  · exact .inl rfl

/-- The next exchange leaves the reading, but for the mark of the FETCH that it sends. -/
theorem nextExchange_or_fetch (s : State) : g (nextExchange l s) = g s
    ∨ ∃ i v, inService (v.presence (.seat i)) = true ∧ g v = g s
      ∧ nextExchange l s = putExchange l (.fetch i) (setFetchMark i false v) := by
  have hclaim : g (chooseClaim l s) = g s ∨ ∃ i v, inService (v.presence (.seat i)) = true ∧ g v = g s
      ∧ chooseClaim l s = putExchange l (.fetch i) (setFetchMark i false v) := by
    have hu : g (serveUrgent l s).2 = g s := h.serveOrder _ _ _ _ s
    have hb : g (serveBulk l (serveUrgent l s).2).2 = g s := (h.serveOrder _ _ _ _ _).trans hu
    unfold chooseClaim
    dsimp only
    split
    · exact .inl hu
    · rcases serveFetch_eq l (serveUrgent l s).2 with hf | ⟨i, hserv, hf⟩
      · rw [hf]
        dsimp only
        rw [if_neg Bool.false_ne_true]
        left
        split
        · exact hb
        · cases hp : Machine.choosePoll l (serveBulk l (serveUrgent l s).2).2 with
          | none =>
            show g (quietLine l _) = g s
            exact (h.line _ _).trans hb
          | some t => exact (h.choosePoll hp).trans hb
      · refine .inr ⟨i, _, ?_, (h.line _ _).trans hu, by rw [hf]; rfl⟩
        rw [presence_of_units (State.modLine_seats ..) (State.modLine_screens ..)]
        exact hserv
  have harb : g (arbiter l s) = g s ∨ ∃ i v, inService (v.presence (.seat i)) = true ∧ g v = g s
      ∧ arbiter l s = putExchange l (.fetch i) (setFetchMark i false v) := by
    unfold arbiter
    dsimp only
    split
    · exact .inl ((h.line _ _).trans (h.line s fun x => { x with second := none }))
    · split
      · split
        · next hp => exact .inl (h.choosePoll hp)
        · exact hclaim
      · exact hclaim
  unfold nextExchange
  dsimp only
  split
  · exact harb
  · split
    · exact .inl (h.line s _)
    · split
      · exact .inl (h.line s _)
      · exact harb

/-- A reading that a fetch mark does not touch is left. -/
theorem nextExchange (hf : ∀ s i, inService (s.presence (.seat i)) = true → g (setFetchMark i false s) = g s)
    (s : State) : g (Machine.nextExchange l s) = g s := by
  rcases h.nextExchange_or_fetch s with hn | ⟨i, v, hserv, hv, hn⟩
  · exact hn
  · rw [hn]
    exact (h.line _ _).trans ((hf v i hserv).trans hv)

end Unserved

theorem putMark_marked_other {u v : Station} (h : v ≠ u) (k m : OrderKind) (b : Bool) (s : State) :
    (putMark u k b s).marked v m = s.marked v m := by
  cases u with
  | seat i =>
    cases v with
    | seat j =>
      have hj : j ≠ i := fun e => h (by rw [e])
      rw [marked_seat, marked_seat]
      exact congrArg (fun r : SeatRec => r.marks.has m) ((State.modSeat_seat s i j _).trans (if_neg hj))
    | screen j => rw [marked_screen, marked_screen]; rfl
  | screen i =>
    cases v with
    | seat j =>
      rw [marked_seat, marked_seat]
      cases k <;> rfl
    | screen j =>
      have hj : j ≠ i := fun e => h (by rw [e])
      rw [marked_screen, marked_screen]
      have hmod (f : ScreenRec → ScreenRec) : ((s.modScreen i f).screen j).has m = (s.screen j).has m := by
        rw [State.modScreen_screen, if_neg hj]
      cases k with
      | confirm => exact hmod _
      | item n => exact hmod _
      | _ => rfl

/-- An order is formed from its own unit's marks (R191). -/
theorem formOrder_marked_other {u v : Station} (h : v ≠ u) (k m : OrderKind) (s : State) :
    (formOrder u k s).2.marked v m = s.marked v m := by
  have hput := putMark_marked_other h k m false s
  cases u with
  | seat i =>
    have hmod (r : SeatRec) : (s.modSeat i fun _ => r).marked v m = s.marked v m := by
      cases v with
      | seat j =>
        have hj : j ≠ i := fun e => h (by rw [e])
        rw [marked_seat, marked_seat, State.modSeat_seat, if_neg hj]
      | screen j => rw [marked_screen, marked_screen]; rfl
    cases k with
    | speaker => exact hmod _
    | mic => exact hmod _
    | gain => exact hmod _
    | _ => exact hput
  | screen j => cases k <;> exact hput

/-- The marks of a unit that is out of service stay as they are (R190, R194). -/
theorem nextExchange_marked_of_outOfService {s : State} {u : Station} (h : inService (s.presence u) = false)
    (l : LineId) (k : OrderKind) : (nextExchange l s).marked u k = s.marked u k := by
  set g : State → Presence × Bool := fun v => (v.presence u, !inService (v.presence u) && v.marked u k) with hg
  have hset (v : State) (i : SeatId) (f : SeatRec → SeatRec) (hp : ∀ r, (f r).presence = r.presence)
      (hm : ∀ r, (f r).marks = r.marks) : g (v.modSeat i f) = g v := by
    have hseat (j : SeatId) : ((v.modSeat i f).seat j).presence = (v.seat j).presence
        ∧ ((v.modSeat i f).seat j).marks = (v.seat j).marks := by
      rw [State.modSeat_seat]
      split
      · next e => rw [e]; exact ⟨hp _, hm _⟩
      · exact ⟨rfl, rfl⟩
    cases u with
    | seat j =>
      obtain ⟨hpres, hmarks⟩ := hseat j
      simp only [hg, State.presence, marked_seat, hpres, hmarks]
    | screen j => simp only [hg, State.presence, marked_screen]; rfl
  have hg' : Unserved l g := by
    refine ⟨fun v f => ?_, fun v w m hserv => ?_⟩
    · have hmark : (v.modLine l f).marked u k = v.marked u k := setLine_marked l _ v u k
      simp only [hg, presence_of_units (State.modLine_seats ..) (State.modLine_screens ..), hmark]
    · have hpres : ((formOrder w m v).2).presence u = v.presence u := (formOrder_arbitrated l w m v).presence u
      simp only [hg, hpres]
      by_cases hw : u = w
      · rw [hw, hserv]
        rfl
      · rw [formOrder_marked_other hw]
  have hn := hg'.nextExchange (fun v i _ => hset v i _ (fun _ => rfl) fun _ => rfl) s
  obtain ⟨hpres, hmark⟩ := Prod.mk.injEq .. ▸ hn
  rw [hpres, h] at hmark
  simpa using hmark

theorem chooseSpeaker_fetchMark (r : SeatRec) : (chooseSpeaker r).2.fetchMark = r.fetchMark := by
  unfold chooseSpeaker
  dsimp only
  split <;> rfl

theorem chooseMic_fetchMark (r : SeatRec) : (chooseMic r).2.fetchMark = r.fetchMark := by
  unfold chooseMic
  dsimp only
  repeat' split
  all_goals rfl

theorem chooseGain_fetchMark (slew : Nat) (r : SeatRec) : (chooseGain slew r).2.fetchMark = r.fetchMark := by
  unfold chooseGain
  dsimp only
  repeat' split
  all_goals rfl

theorem formOrder_fetchMark (u : Station) (k : OrderKind) (s : State) (i : SeatId) :
    ((formOrder u k s).2.seat i).fetchMark = (s.seat i).fetchMark := by
  have hmod (j : SeatId) (r : SeatRec) (hr : r.fetchMark = (s.seat j).fetchMark) :
      ((s.modSeat j fun _ => r).seat i).fetchMark = (s.seat i).fetchMark := by
    rw [State.modSeat_seat]
    split
    · next e => rw [hr, e]
    · rfl
  have hput (j : SeatId) (m : OrderKind) (b : Bool) :
      ((putMark (.seat j) m b s).seat i).fetchMark = (s.seat i).fetchMark := by
    show ((s.modSeat j _).seat i).fetchMark = _
    rw [State.modSeat_seat]
    split
    · next e => rw [e]
    · rfl
  cases u with
  | seat j =>
    cases k with
    | speaker => exact hmod j _ (chooseSpeaker_fetchMark _)
    | mic => exact hmod j _ (chooseMic_fetchMark _)
    | gain => exact hmod j _ (chooseGain_fetchMark _ _)
    | _ => exact hput j _ false
  | screen j => cases k <;> rfl

/-- A fetch mark is cleared by the FETCH it calls for alone (R79, R193). -/
theorem nextExchange_fetchMark (l : LineId) (s : State) (i : SeatId) :
    ((nextExchange l s).seat i).fetchMark = (s.seat i).fetchMark
      ∨ ((nextExchange l s).seat i).fetchMark = false
        ∧ ((nextExchange l s).line l).activity = .exchange (.fetch i) := by
  have hg : Unserved l fun v => (v.seat i).fetchMark :=
    ⟨fun v f => by unfold State.seat; rw [State.modLine_seats], fun v u k _ => formOrder_fetchMark u k v i⟩
  rcases hg.nextExchange_or_fetch s with hn | ⟨j, v, _, hv, hn⟩
  · exact .inl hn
  · have hseat : (nextExchange l s).seat i = (setFetchMark j false v).seat i := by
      rw [hn]
      unfold putExchange State.seat
      rw [State.modLine_seats]
    unfold setFetchMark at hseat
    rw [State.modSeat_seat] at hseat
    by_cases hij : i = j
    · rw [if_pos hij] at hseat
      exact .inr ⟨by rw [hseat], by rw [hn, putExchange_activity, hij]⟩
    · rw [if_neg hij] at hseat
      exact .inl (by rw [hseat]; exact hv)

end Sys2Proof.Machine
end

section
/-! A unit that misses: SILENT, and LOST at the third miss, leaving the floor with its card (R67, R184, R185). -/

open Sys2Proof Sys2Proof.Machine

namespace Sys2Proof.Machine

/-! ## A seat leaves the floor (R34) -/

/-- A seat whose floor entry ends is in no list. -/
theorem endFloorEntry_offFloor {s : State} (hs : s.floor.Sound) (r : CloseReason) (i : SeatId) :
    OffFloor i (endFloorEntry r i s) := by
  unfold endFloorEntry
  cases hsp : s.speaking i with
  | true =>
    rw [if_pos rfl]
    obtain ⟨e, he, rfl⟩ := (speaking_iff s i).mp hsp
    have hclosed : OffFloor e.seat (closeSeat r e.seat s) := by
      refine ⟨closeSeat_not_speaking hs he r, requesting_eq_false.mpr ?_⟩
      rw [closeSeat_requests hs he]
      intro hm
      obtain ⟨q, hq, hqe⟩ := List.mem_map.mp hm
      exact hs.requester_not_speaker hq he hqe.symm
    rcases closeAdvanceAs_eq (w := s.boundAttendee) (r := r) (speaker_of_mem hs.speakersOnce he) with h | h
    · exact (congrArg (OffFloor e.seat) h).mpr hclosed
    · exact (congrArg (OffFloor e.seat) h).mpr hclosed.advance
  | false =>
    rw [if_neg Bool.false_ne_true]
    have hf := withdrawSeat_floor i s
    refine ⟨speaking_eq_false.mpr ?_, requesting_eq_false.mpr ?_⟩
    · rw [hf]
      exact speaking_eq_false.mp hsp
    · rw [hf]
      simp

theorem withdrawSeat_of_offFloor {i : SeatId} {s : State} (h : OffFloor i s) : withdrawSeat i s = s :=
  if_neg (ne_true_of_eq_false h.requesting)

/-! ## A card part is cleared (R80, R83) -/

/-- A seat's record less its card part. -/
def SeatRec.uncarded (r : SeatRec) : SeatRec := { r with card := CardPart.empty }

theorem modCard_uncarded (i : SeatId) (f : CardPart → CardPart) (s : State) (j : SeatId) :
    ((modCard i f s).seat j).uncarded = (s.seat j).uncarded := by
  unfold modCard
  rw [State.modSeat_seat]
  split
  · next e => rw [e]; rfl
  · rfl

theorem unbind_uncarded (i : SeatId) (s : State) (j : SeatId) :
    ((unbind i s).seat j).uncarded = (s.seat j).uncarded := by
  unfold unbind
  split
  · rfl
  · split
    · exact modCard_uncarded _ _ _ j
    · rfl

theorem clearCard_uncarded (i : SeatId) (s : State) (j : SeatId) :
    ((clearCard i s).seat j).uncarded = (s.seat j).uncarded :=
  (modCard_uncarded i _ _ j).trans (unbind_uncarded i s j)

theorem clearCard_card (i : SeatId) (s : State) : ((clearCard i s).seat i).card = CardPart.empty :=
  congrArg SeatRec.card (State.modSeat_seat_same _ i _)

theorem clearCard_screens (i : SeatId) (s : State) : (clearCard i s).screens = s.screens := by
  unfold clearCard unbind
  split
  · rfl
  · split <;> rfl

theorem clearCard_floor (i : SeatId) (s : State) : (clearCard i s).floor = s.floor := by
  unfold clearCard unbind
  split
  · rfl
  · split <;> rfl

/-! ## A unit is LOST (R185) -/

theorem dropUnit_kept (s : State) (u : Station) : KeptBut [.seats, .screens] s (dropUnit s u) := by
  have h := (setPresence_kept u .lost 0 s).trans (setConfirm_kept u false _)
  unfold dropUnit
  cases u with
  | seat i => exact h.trans ((modSeat_kept i _ _).mono (by decide))
  | screen j => exact h

/-- A LOST seat leaves the floor, then its card part is cleared. -/
theorem loseCore_seat {s : State} (hs : s.floor.Sound) (i : SeatId) :
    loseCore [.seat i] s = clearCard i (endFloorEntry .lost i (dropUnit s (.seat i))) := by
  have hfloor : (dropUnit s (.seat i)).floor = s.floor := (dropUnit_kept s (.seat i)).same .floor (by decide)
  set d := dropUnit s (.seat i) with hd
  have hsd : d.floor.Sound := by rw [hfloor]; exact hs
  have hoff := endFloorEntry_offFloor hsd .lost i
  have hcore : loseCore [.seat i] s = clearCard i (withdrawSeat i
      (((d.floor.speakers.map (·.seat)).filter (· ∈ [i])).foldl (fun s i => closeAdvance .lost i s) d)) := rfl
  rw [hcore]
  unfold endFloorEntry at hoff ⊢
  cases hsp : d.speaking i with
  | true =>
    rw [hsp, if_pos rfl] at hoff
    have hmem : i ∈ d.floor.speakers.map (·.seat) := by
      by_contra h
      rw [speaking_eq_false.mpr h] at hsp
      cases hsp
    have hfilter : (d.floor.speakers.map (·.seat)).filter (fun j => decide (j ∈ [i])) = [i] := by
      have hcount := List.count_eq_one_of_mem hsd.speakersOnce hmem
      have hbeq : (d.floor.speakers.map (·.seat)).filter (· == i) = [i] := by
        rw [List.filter_beq, hcount, List.replicate_one]
      exact (List.filter_congr fun j _ => by simp [beq_eq_decide]).trans hbeq
    rw [hfilter, if_pos rfl]
    exact congrArg (clearCard i) (withdrawSeat_of_offFloor hoff)
  | false =>
    have hfilter : (d.floor.speakers.map (·.seat)).filter (fun j => decide (j ∈ [i])) = [] := by
      refine List.filter_eq_nil_iff.mpr fun j hj hji => ?_
      have hji : j = i := by simpa using hji
      exact speaking_eq_false.mp hsp (hji ▸ hj)
    rw [hfilter]
    rfl

/-- A LOST screen has no floor entry and no card. -/
theorem loseUnits_screen (j : ScreenId) (s : State) :
    loseUnits [.screen j] s = finishChange true s (dropUnit s (.screen j)) := by
  have hfilter (l : List SeatId) : l.filter (fun x => decide (x ∈ ([] : List SeatId))) = [] :=
    List.filter_eq_nil_iff.mpr fun x _ => by simp
  have hcore : loseCore [.screen j] s = (((dropUnit s (.screen j)).floor.speakers.map (·.seat)).filter
      (· ∈ ([] : List SeatId))).foldl (fun s i => closeAdvance .lost i s) (dropUnit s (.screen j)) := rfl
  have hlose : loseUnits [.screen j] s = finishChange true s (loseCore [.screen j] s) := rfl
  rw [hlose, hcore, hfilter]
  rfl

theorem loseUnits_seat (i : SeatId) (s : State) :
    loseUnits [.seat i] s = freezeSeat i (finishChange true s (loseCore [.seat i] s)) := rfl

theorem dropUnit_floor (s : State) (u : Station) : (dropUnit s u).floor = s.floor :=
  (dropUnit_kept s u).same .floor (by decide)

theorem dropUnit_seat (s : State) (i j : SeatId) : (dropUnit s (.seat i)).seat j = if j = i then { s.seat i with
    presence := .lost, missCount := 0, confirmOutstanding := false, fetchMark := false } else s.seat j := by
  unfold dropUnit setConfirm setPresence setFetchMark
  simp only [State.modSeat_seat]
  split
  · next e => subst e; simp
  · rfl

theorem freezeSeat_seat (i j : SeatId) (s : State) :
    (freezeSeat i s).seat j = if j = i then { s.seat i with frozen := true } else s.seat j :=
  State.modSeat_seat s i j _

/-- A seat's loss within its change: the seat is in no list and has no card; only the cards and the refusal codes of
the others may have moved. -/
structure LeavesFloor (i : SeatId) (s x : State) : Prop where
  records : ∀ j, (x.seat j).uncarded.unrefused = ((dropUnit s (.seat i)).seat j).uncarded.unrefused
  screens : x.screens = s.screens
  off : OffFloor i x
  card : (x.seat i).card = CardPart.empty

theorem loseCore_leavesFloor {s : State} (hs : s.floor.Sound) (i : SeatId) :
    LeavesFloor i s (loseCore [.seat i] s) := by
  have hfloor := dropUnit_floor s (.seat i)
  have hscreens : (dropUnit s (.seat i)).screens = s.screens := rfl
  rw [loseCore_seat hs]
  refine ⟨fun j => ?_, ?_, ?_, clearCard_card i _⟩
  · rw [clearCard_uncarded]
    exact congrArg SeatRec.uncarded ((unwritten_unrefused j).endFloorEntry .lost i _)
  · rw [clearCard_screens]
    exact (unwritten_screens.endFloorEntry .lost i _).trans hscreens
  · exact (endFloorEntry_offFloor (by rw [hfloor]; exact hs) .lost i).ofFloor (clearCard_floor i _)

/-- What a miss, or the loss of a unit, leaves of its records beside its presence. -/
structure RecordsKept (u : Station) (s t : State) : Prop where
  kept : KeptBut [.floor, .log, .seats, .screens, .sequencer, .marks] s t
  others : ∀ v : Station, v ≠ u → t.presence v = s.presence v
  marked : ∀ k, s.marked u k = true → t.marked u k = true
  seat : ∀ i, u = .seat i → (t.seat i).labelSent = (s.seat i).labelSent ∧ (t.seat i).statusSent = (s.seat i).statusSent
  screen : ∀ j, u = .screen j → (t.screen j).itemSent = (s.screen j).itemSent

theorem RecordsKept.refl (u : Station) (s : State) : RecordsKept u s s :=
  ⟨.refl _ s, fun _ _ => rfl, fun _ => id, fun _ _ => ⟨rfl, rfl⟩, fun _ _ => rfl⟩

section frozen
variable {i : SeatId} {s x y : State} (h : LeavesFloor i s x) (hand : ∀ j, (x.seat j).HandedOn (y.seat j))
include h hand

/-- The record of a LOST seat, its card part and its levels set aside. -/
theorem LeavesFloor.core : ((freezeSeat i y).seat i).uncarded.core = { (s.seat i).uncarded.core with
    presence := .lost, missCount := 0, confirmOutstanding := false, fetchMark := false, frozen := true } := by
  have hx := h.records i
  rw [dropUnit_seat, if_pos rfl] at hx
  rw [freezeSeat_seat, if_pos rfl]
  have hy : (y.seat i).uncarded.core = (x.seat i).uncarded.core := congrArg SeatRec.uncarded (hand i).core
  exact congrArg (fun r : SeatRec => { r with frozen := true }) (hy.trans (congrArg SeatRec.core hx :))

theorem LeavesFloor.dropped (hoff : OffFloor i y) : (freezeSeat i y).Dropped i := by
  have hcore := h.core hand
  refine ⟨⟨hoff.speaking, hoff.requesting⟩, ?_, ⟨(congrArg SeatRec.fetchMark hcore :),
    (congrArg SeatRec.confirmOutstanding hcore :)⟩, (congrArg SeatRec.frozen hcore :)⟩
  rw [freezeSeat_seat, if_pos rfl]
  exact (congrArg SeatRec.card (hand i).core :).trans h.card

omit hand in
theorem LeavesFloor.standing (hstand : ∀ v, y.standing v = x.standing v) (v : Station) :
    (freezeSeat i y).standing v = if v = .seat i then (.lost, 0) else s.standing v := by
  refine (modSeat_standing ⟨rfl, rfl⟩ v).trans ((hstand v).trans ?_)
  cases v with
  | seat j =>
    have hx := h.records j
    rw [dropUnit_seat] at hx
    by_cases hj : j = i
    · subst hj
      rw [if_pos rfl] at hx ⊢
      exact Prod.ext (congrArg SeatRec.presence hx :) (congrArg SeatRec.missCount hx :)
    · rw [if_neg hj] at hx
      rw [if_neg fun e => hj (Station.seat.inj e)]
      exact Prod.ext (congrArg SeatRec.presence hx :) (congrArg SeatRec.missCount hx :)
  | screen j =>
    rw [if_neg nofun]
    exact congrArg (fun v : Vector ScreenRec 4 => (v[j].presence, v[j].missCount)) h.screens

theorem LeavesFloor.marked (k : OrderKind) (hk : s.marked (.seat i) k = true) :
    (freezeSeat i y).marked (.seat i) k = true := by
  have hx := h.records i
  rw [dropUnit_seat, if_pos rfl] at hx
  have hm : (x.seat i).marks = (s.seat i).marks := (congrArg SeatRec.marks hx :)
  rw [marked_seat] at hk ⊢
  rw [freezeSeat_seat, if_pos rfl]
  exact (hand i).marks k (by rw [hm]; exact hk)

end frozen

/-- A unit is LOST: it alone, its marks and what it was last sent as they were (R185). -/
theorem loseUnits_lost {s : State} (hs : s.floor.Sound) (u : Station) :
    (loseUnits [u] s).standing u = (.lost, 0) ∧ RecordsKept u s (loseUnits [u] s)
      ∧ ∀ i, u = .seat i → (loseUnits [u] s).Dropped i := by
  have hkept : KeptBut _ s (loseUnits [u] s) := keptBut_of_outer (outer_loseUnits _ s)
  cases u with
  | seat i =>
    have h := loseCore_leavesFloor hs i
    have hand (j : SeatId) := SeatRec.HandedOn.finishChange true s (loseCore [.seat i] s) j
    have hstand := h.standing (finishChange_standing true s _)
    have hcore := h.core hand
    have hdrop := h.dropped hand (h.off.finishChange true s)
    have hmark := h.marked hand
    rw [loseUnits_seat] at hkept ⊢
    generalize freezeSeat i (finishChange true s (loseCore [.seat i] s)) = z at *
    refine ⟨(hstand _).trans (if_pos rfl), ⟨hkept, fun v hv => ?_, hmark, fun j hj => ?_, nofun⟩, fun j hj => ?_⟩
    · exact congrArg Prod.fst ((hstand v).trans (if_neg hv))
    · cases hj
      exact ⟨(congrArg SeatRec.labelSent hcore :), (congrArg SeatRec.statusSent hcore :)⟩
    · cases hj
      exact hdrop
  | screen j =>
    have hand := ScreenRec.HandedOn.finishChange true s (dropUnit s (.screen j)) j
    have hstand := finishChange_standing true s (dropUnit s (.screen j))
    rw [loseUnits_screen] at hkept ⊢
    generalize finishChange true s (dropUnit s (.screen j)) = z at *
    have hdrop : (dropUnit s (.screen j)).screen j
        = { s.screen j with presence := .lost, missCount := 0, confirmOutstanding := false } := by
      unfold dropUnit setConfirm setPresence
      simp only [State.modScreen_screen, if_true]
    have hcore := hand.core
    refine ⟨?_, ⟨hkept, fun v hv => ?_, fun k hk => ?_, nofun, fun n hn => ?_⟩, nofun⟩
    · rw [hstand]
      exact congrArg (fun c : ScreenRec => (c.presence, c.missCount)) hdrop
    · have hv' : z.presence v = (dropUnit s (.screen j)).presence v := congrArg Prod.fst (hstand v)
      rw [hv']
      exact (congrArg Prod.fst (setConfirm_standing (.screen j) false _ v)).trans (setPresence_presence_other hv _ _ s)
    · rw [marked_screen] at hk ⊢
      refine hand.marks k ?_
      rw [hdrop]
      exact (by cases k <;> exact hk)
    · cases hn
      have hsent : ((dropUnit s (.screen j)).screen j).itemSent = (s.screen j).itemSent := by rw [hdrop]
      exact (congrArg ScreenRec.itemSent hcore :).trans hsent

/-! ## A miss (R184) -/

/-- What a miss of a unit makes of a state. -/
structure UnitMissed (u : Station) (s t : State) : Prop where
  records : RecordsKept u s t
  present : s.presence u = .present → t.standing u = (.silent, 1) ∧ t.floor = s.floor
  silent : s.presence u = .silent → s.missCount u < 2 →
    t.standing u = (.silent, s.missCount u + 1) ∧ t.floor = s.floor
  third : s.presence u = .silent → 2 ≤ s.missCount u →
    t.standing u = (.lost, 0) ∧ ∀ i, u = .seat i → t.Dropped i
  out : inService (s.presence u) = false → t = s
  fetchMark : inService (t.presence u) = true → ∀ i, u = .seat i → (t.seat i).fetchMark = (s.seat i).fetchMark

theorem setPresence_records (u : Station) (p : Presence) (n : Nat) (s : State) :
    RecordsKept u s (setPresence u p n s)
      ∧ ∀ i, u = .seat i → ((setPresence u p n s).seat i).fetchMark = (s.seat i).fetchMark := by
  have hkept := (setPresence_kept u p n s).mono
    (m := [.floor, .log, .seats, .screens, .sequencer, .marks]) (by decide)
  have hothers := fun v (hv : v ≠ u) => setPresence_presence_other hv p n s
  cases u with
  | seat i =>
    have hseat : (setPresence (.seat i) p n s).seat i = { s.seat i with presence := p, missCount := n } :=
      State.modSeat_seat_same s i _
    refine ⟨⟨hkept, hothers, fun k hk => ?_, fun j hj => ?_, nofun⟩, fun j hj => ?_⟩
    · rw [marked_seat] at hk ⊢
      rw [hseat]
      exact hk
    · cases hj
      rw [hseat]
      exact ⟨rfl, rfl⟩
    · cases hj
      rw [hseat]
  | screen j =>
    have hscreen : (setPresence (.screen j) p n s).screen j = { s.screen j with presence := p, missCount := n } := by
      unfold setPresence
      simp only [State.modScreen_screen, if_true]
    refine ⟨⟨hkept, hothers, fun k hk => ?_, nofun, fun n hn => ?_⟩, nofun⟩
    · rw [marked_screen] at hk ⊢
      rw [hscreen]
      exact (by cases k <;> exact hk)
    · cases hn
      rw [hscreen]

theorem recordMiss_missed {s : State} (hs : s.floor.Sound) (u : Station) : UnitMissed u s (recordMiss u s) := by
  have hset (p : Presence) (n : Nat) : (setPresence u p n s).standing u = (p, n)
      ∧ (setPresence u p n s).floor = s.floor :=
    ⟨Prod.ext (setPresence_presence u p n s) (setPresence_missCount u p n s),
      (setPresence_kept u p n s).same .floor (by decide)⟩
  unfold recordMiss
  cases hp : s.presence u with
  | present =>
    obtain ⟨⟨hk, ho, hm, hseat, hscreen⟩, hfetch⟩ := setPresence_records u .silent 1 s
    refine ⟨⟨hk.trans ((markSeat_kept u _).mono (by decide)), fun v hv => ?_, fun k h => ?_, hseat, hscreen⟩,
      fun _ => ⟨?_, ?_⟩, fun h => ?_, fun h => ?_, fun h => ?_, fun _ => hfetch⟩
    · rw [markSeat_presence]
      exact ho v hv
    · have := hm k h
      cases u <;> exact this
    · refine Eq.trans ?_ (hset .silent 1).1
      exact Prod.ext (markSeat_presence u u _) (markSeat_missCount u u _)
    · exact (hset .silent 1).2
    · rw [hp] at h; cases h
    · rw [hp] at h; cases h
    · rw [hp] at h; cases h
  | silent =>
    dsimp only
    by_cases hlt : s.missCount u + 1 < 3
    · rw [if_pos hlt]
      obtain ⟨hrec, hfetch⟩ := setPresence_records u .silent (s.missCount u + 1) s
      refine ⟨hrec, fun h => ?_, fun _ _ => hset _ _, fun _ h => absurd h (by omega), fun h => ?_, fun _ => hfetch⟩
      · rw [hp] at h; cases h
      · rw [hp] at h; cases h
    · rw [if_neg hlt]
      obtain ⟨hstand, hrec, hdrop⟩ := loseUnits_lost hs u
      have hpres : (loseUnits [u] s).presence u = .lost := congrArg Prod.fst hstand
      refine ⟨hrec, fun h => ?_, fun _ h => absurd h (by omega), fun _ _ => ⟨hstand, hdrop⟩, fun h => ?_, fun h => ?_⟩
      · rw [hp] at h; cases h
      · rw [hp] at h; cases h
      · rw [hpres] at h; cases h
  | absent | lost =>
    refine ⟨.refl u s, fun h => ?_, fun h => ?_, fun h => ?_, fun _ => rfl, fun _ _ _ => rfl⟩
    · rw [hp] at h; cases h
    · rw [hp] at h; cases h
    · rw [hp] at h; cases h

end Sys2Proof.Machine
end

section
/-! A failed exchange: its count, the order or FETCH marked again, the miss, and the next exchange (R162, R184). -/

open Sys2Proof Sys2Proof.Machine

namespace Sys2Proof.Machine

/-! ## The unit at an address -/

theorem stationAt_addressOf (u : Station) : stationAt (lineOfStation u) (addressOf u) = some u := by
  have hseat : ∀ i : SeatId, stationAt (lineOfSeat i) (positionOfSeat i) = some (.seat i) := by decide
  have hscreen : ∀ j : ScreenId, stationAt (lineOfScreen j) (addressOf (.screen j)) = some (.screen j) := by decide
  cases u with
  | seat i => exact hseat i
  | screen j => exact hscreen j

theorem pollStation_addressOf (u : Station) : pollStation (lineOfStation u) (addressOf u) = u := by
  unfold pollStation
  rw [stationAt_addressOf]
  rfl

theorem addressOf_mem (u : Station) : addressOf u ∈ addresses := by
  have hseat : ∀ i : SeatId, positionOfSeat i ∈ addresses := by decide
  have hscreen : ∀ j : ScreenId, addressOf (.screen j) ∈ addresses := by decide
  cases u with
  | seat i => exact hseat i
  | screen j => exact hscreen j

theorem servedAddresses_ne_nil {s : State} {u : Station} (h : inService (s.presence u) = true) :
    s.servedAddresses (lineOfStation u) ≠ [] := by
  refine List.ne_nil_of_mem (a := addressOf u) (List.mem_filter.mpr ⟨addressOf_mem u, ?_⟩)
  rw [stationAt_addressOf]
  exact h

/-! ## After four other exchanges (R193) -/

theorem choosePoll_kept {l : LineId} {s t : State} (h : choosePoll l s = some t) : KeptBut [Block.ofLine l] s t := by
  unfold choosePoll at h
  split at h
  · cases h
    exact modLine_kept l _ s
  · split at h
    · cases h
    · obtain ⟨x, _, rfl⟩ := Option.map_eq_some_iff.mp h
      exact (modLine_kept l (fun y => { y with round := s.newRound l }) s).trans (modLine_kept l _ _)

/-- A line on which nothing is due but the arbiter's choice. -/
structure Line.Free (x : Line) : Prop where
  second : x.second = none
  rescans : x.rescans = []
  sleepDue : x.sleepDue = false

/-- After four exchanges that are no polls a poll follows, and no mark is taken (R193). -/
theorem onward_poll {w : State} {u : Station} (hf : (w.line (lineOfStation u)).Free)
    (h4 : 4 ≤ (w.line (lineOfStation u)).others) (hserv : inService (w.presence u) = true) :
    (∃ n probe, ((w.onward (lineOfStation u)).line (lineOfStation u)).activity = .exchange (.poll n probe))
      ∧ (∀ k, (w.onward (lineOfStation u)).marked u k = w.marked u k)
      ∧ ∀ i, (w.onward (lineOfStation u)).seat i = w.seat i := by
  obtain ⟨n, probe, hp, hact⟩ :=
    nextExchange_of_others hf.second hf.rescans hf.sleepDue h4 (servedAddresses_ne_nil hserv)
  have hk := choosePoll_kept hp
  have hseats : (nextExchange (lineOfStation u) w).seats = w.seats :=
    hk.same .seats (by cases lineOfStation u <;> decide)
  have hscreens : (nextExchange (lineOfStation u) w).screens = w.screens :=
    hk.same .screens (by cases lineOfStation u <;> decide)
  refine ⟨⟨n, probe, by rw [State.onward_line]; exact hact⟩, fun k => ?_, fun i => ?_⟩
  · rw [State.onward_marked]
    cases u with
    | seat i => rw [marked_seat, marked_seat]; exact congrArg (fun v : Vector SeatRec 64 => v[i].marks.has k) hseats
    | screen j =>
      rw [marked_screen, marked_screen]
      exact congrArg (fun v : Vector ScreenRec 4 => v[j].has k) hscreens
  · rw [State.onward_seat]
    exact congrArg (fun v : Vector SeatRec 64 => v[i]) hseats

/-! ## The end of a failed exchange (R162) -/

/-- What the end of an exchange counts on its line (R192, R193). -/
def countEnded : Exchange → Line → Line
  | .poll addr probe => pollEnded addr probe
  | _ => otherEnded

/-- The state in which a failed exchange has been counted. -/
def State.failed (l : LineId) (x : Exchange) (k : FailureKind) (s : State) : State :=
  quietLine l ((noteFailure l k (sentClean l s)).modLine l (countEnded x))

/-- A failed order or FETCH is marked again (R67, R143, R189). -/
def markAgain : Exchange → State → State
  | .order u c _ => takeOrderFailure u c
  | .fetch i => refetch i
  | _ => id

theorem failed_kept (l : LineId) (x : Exchange) (k : FailureKind) (s : State) :
    KeptBut [Block.ofLine l] s (s.failed l x k) :=
  (((modLine_kept l _ s).trans (modLine_kept l _ _)).trans (modLine_kept l _ _)).trans (modLine_kept l _ _)

theorem countFailure_counters (k : FailureKind) (x : Line) : (countFailure k x).counters = x.counters.after k := by
  cases k <;> rfl

theorem failed_line (l : LineId) (x : Exchange) (k : FailureKind) (s : State) :
    ((s.failed l x k).line l).counters = (s.line l).counters.after k
      ∧ ((s.failed l x k).line l).consecutive = 0
      ∧ ((s.line l).Free → ((s.failed l x k).line l).Free)
      ∧ ((∀ n p, x ≠ .poll n p) → ((s.failed l x k).line l).others = (s.line l).others + 1) := by
  have hline : (s.failed l x k).line l = { countEnded x (countFailure k { s.line l with consecutive := 0 }) with
      activity := .none, begun := false } := by
    unfold State.failed quietLine noteFailure sentClean
    simp only [State.modLine_line]
  have hcount : ∀ y : Line, (countEnded x y).counters = y.counters ∧ (countEnded x y).consecutive = y.consecutive
      ∧ (countEnded x y).second = y.second ∧ (countEnded x y).rescans = y.rescans
      ∧ (countEnded x y).sleepDue = y.sleepDue := fun y => by cases x <;> exact ⟨rfl, rfl, rfl, rfl, rfl⟩
  rw [hline]
  obtain ⟨hc, hn, h2, hr, hd⟩ := hcount (countFailure k { s.line l with consecutive := 0 })
  refine ⟨hc.trans (countFailure_counters k _), hn, fun hf => ⟨h2.trans hf.second, hr.trans hf.rescans,
    hd.trans hf.sleepDue⟩, fun hx => ?_⟩
  cases x with
  | poll n p => exact absurd rfl (hx n p)
  | _ => rfl

theorem exec_exchangeFailure {l : LineId} {x : Exchange} {a : LineAnswer} {s : State} (hp : s.powered = true)
    (hline : OnLine l x s) {k : FailureKind} :
    (∀ addr probe, x = .poll addr probe → judgePoll addr a = .error k →
      exec (.exchangeFailure l a) s = .next (settleLink (failPoll l addr probe k s)))
    ∧ (∀ i, x = .fetch i → judgeFetch (positionOfSeat i) a = .error k →
      exec (.exchangeFailure l a) s = .next (settleLink (failFetch l i k s)))
    ∧ (∀ u c seg, x = .order u c seg → judgeOrder (orderCheck u c seg) a = .error k →
      exec (.exchangeFailure l a) s = .next (settleLink (failOrder l u c k s))) := by
  have hexec : exec (.exchangeFailure l a) s = execExchangeFailure l a s := rfl
  rw [hexec]
  refine ⟨?_, ?_, ?_⟩
  · rintro addr probe rfl hj
    simp [execExchangeFailure, event, hp, State.exchangeOn, hline.2, hj]
  · rintro i rfl hj
    simp [execExchangeFailure, event, hp, State.exchangeOn, hline.2, hj]
  · rintro u c seg rfl hj
    simp [execExchangeFailure, event, hp, State.exchangeOn, hline.2, hj]

/-! ## A failed order or FETCH is marked again -/

theorem putMark_standing (u : Station) (k : OrderKind) (b : Bool) (s : State) (v : Station) :
    (putMark u k b s).standing v = s.standing v := by
  cases u with
  | seat i => exact modSeat_standing ⟨rfl, rfl⟩ v
  | screen j =>
    cases k with
    | confirm => exact modScreen_standing ⟨rfl, rfl⟩ v
    | item n => exact modScreen_standing ⟨rfl, rfl⟩ v
    | _ => rfl

theorem forgetDisplay_standing (u : Station) (c : OrderContent) (s : State) (v : Station) :
    (forgetDisplay u c s).standing v = s.standing v := by
  unfold forgetDisplay
  split
  · exact modSeat_standing ⟨rfl, rfl⟩ v
  · exact modSeat_standing ⟨rfl, rfl⟩ v
  · exact modScreen_standing ⟨rfl, rfl⟩ v
  · rfl

theorem forgetDisplay_marked (u : Station) (c : OrderContent) (s : State) (k : OrderKind) :
    (forgetDisplay u c s).marked u k = s.marked u k := by
  unfold forgetDisplay
  split
  · rw [marked_seat, marked_seat, State.modSeat_seat_same]
  · rw [marked_seat, marked_seat, State.modSeat_seat_same]
  · rw [marked_screen, marked_screen, State.modScreen_screen, if_pos rfl]
    cases k <;> rfl
  · rfl

theorem putMark_marked {u : Station} {c : OrderContent} (h : orderFor u c = true) (b : Bool) (s : State) :
    (putMark u (contentKind c) b s).marked u (contentKind c) = b := by
  cases u with
  | seat i =>
    rw [marked_seat]
    refine (congrArg (fun r : SeatRec => r.marks.has (contentKind c)) (State.modSeat_seat_same s i _)).trans ?_
    cases c with
    | item n x k => cases h
    | _ => rfl
  | screen j =>
    rw [marked_screen]
    cases c with
    | confirm => exact congrArg ScreenRec.confirmMark ((State.modScreen_screen s j j _).trans (if_pos rfl))
    | item n x k =>
      refine Eq.trans (congrArg (fun c : ScreenRec => c.itemMarks[n])
        ((State.modScreen_screen s j j _).trans (if_pos rfl))) ?_
      simp
    | _ => cases h

theorem putMark_kept (u : Station) (k : OrderKind) (b : Bool) (s : State) :
    KeptBut [.seats, .screens] s (putMark u k b s) := by
  cases u with
  | seat i => exact (modSeat_kept i _ s).mono (by decide)
  | screen j =>
    cases k with
    | confirm => exact (modScreen_kept j _ s).mono (by decide)
    | item n => exact (modScreen_kept j _ s).mono (by decide)
    | _ => exact .refl _ s

theorem forgetDisplay_kept (u : Station) (c : OrderContent) (s : State) :
    KeptBut [.seats, .screens] s (forgetDisplay u c s) := by
  unfold forgetDisplay
  split
  · exact (modSeat_kept _ _ s).mono (by decide)
  · exact (modSeat_kept _ _ s).mono (by decide)
  · exact (modScreen_kept _ _ s).mono (by decide)
  · exact .refl _ s

theorem refetch_eq (i : SeatId) (s : State) : refetch i s = s ∨ refetch i s = setFetchMark i true s := by
  unfold refetch
  split
  · exact .inr rfl
  · exact .inl rfl

theorem markAgain_kept (x : Exchange) (s : State) : KeptBut [.seats, .screens] s (markAgain x s) := by
  cases x with
  | order u c seg => exact (putMark_kept u _ true s).trans (forgetDisplay_kept u c _)
  | fetch i =>
    show KeptBut _ s (refetch i s)
    rcases refetch_eq i s with h | h
    · rw [h]; exact .refl _ s
    · rw [h]; exact (modSeat_kept i _ s).mono (by decide)
  | _ => exact .refl _ s

theorem markAgain_standing (x : Exchange) (s : State) (v : Station) : (markAgain x s).standing v = s.standing v := by
  cases x with
  | order u c seg => exact (forgetDisplay_standing u c _ v).trans (putMark_standing u _ true s v)
  | fetch i =>
    show (refetch i s).standing v = _
    rcases refetch_eq i s with h | h
    · rw [h]
    · rw [h]; exact modSeat_standing ⟨rfl, rfl⟩ v
  | _ => rfl

/-- A failed order is pending again at its unit, and a display record is UNKNOWN. -/
theorem markAgain_order {u : Station} {c : OrderContent} (seg : Segment) (s : State) (h : orderFor u c = true) :
    (markAgain (.order u c seg) s).marked u (contentKind c) = true
      ∧ (∀ i v, u = .seat i → c = .label v → ((markAgain (.order u c seg) s).seat i).labelSent = none)
      ∧ (∀ i v n, u = .seat i → c = .status v n → ((markAgain (.order u c seg) s).seat i).statusSent = none)
      ∧ (∀ j n v m, u = .screen j → c = .item n v m →
          ((markAgain (.order u c seg) s).screen j).itemSent[n] = none) := by
  refine ⟨(forgetDisplay_marked u c _ _).trans (putMark_marked h true s), ?_, ?_, ?_⟩
  · rintro i v rfl rfl
    exact congrArg SeatRec.labelSent (State.modSeat_seat_same _ i _)
  · rintro i v n rfl rfl
    exact congrArg SeatRec.statusSent (State.modSeat_seat_same _ i _)
  · rintro j n v m rfl rfl
    refine Eq.trans (congrArg (fun c : ScreenRec => c.itemSent[n])
      ((State.modScreen_screen _ j j _).trans (if_pos rfl))) ?_
    simp

theorem markAgain_fetch {i : SeatId} {s : State} (hserv : inService (s.presence (.seat i)) = true)
    (hread : (s.seat i).card.state = .reading) : ((markAgain (.fetch i) s).seat i).fetchMark = true := by
  have hserv' : inService (s.seat i).presence = true := hserv
  have h : markAgain (.fetch i) s = setFetchMark i true s := if_pos (by rw [hserv', hread]; rfl)
  rw [h]
  exact congrArg SeatRec.fetchMark (State.modSeat_seat_same s i _)

/-! ## The event -/

/-- The failed exchange of a unit: a poll, a probe exactly where the unit is LOST, a FETCH, or an order. -/
def FailedAt (u : Station) (x : Exchange) (k : FailureKind) (a : LineAnswer) (s : State) : Prop :=
  (∃ probe, x = .poll (addressOf u) probe ∧ judgePoll (addressOf u) a = .error k
      ∧ probe = decide (s.presence u = .lost))
    ∨ (∃ i, u = .seat i ∧ x = .fetch i ∧ judgeFetch (positionOfSeat i) a = .error k)
    ∨ ∃ c seg, x = .order u c seg ∧ judgeOrder (orderCheck u c seg) a = .error k

section failure
variable {s : State} {u : Station} {x : Exchange} {k : FailureKind} {a : LineAnswer}

/-- The state in which the failed order or FETCH is marked again, before its unit misses. -/
def State.remarked (u : Station) (x : Exchange) (k : FailureKind) (s : State) : State :=
  markAgain x (s.failed (lineOfStation u) x k)

theorem remarked_kept (u : Station) (x : Exchange) (k : FailureKind) (s : State) :
    KeptBut [.seats, .screens, Block.ofLine (lineOfStation u)] s (s.remarked u x k) :=
  ((failed_kept _ x k s).mono (by cases lineOfStation u <;> decide)).trans
    ((markAgain_kept x _).mono (by cases lineOfStation u <;> decide))

theorem failed_standing (l : LineId) (x : Exchange) (k : FailureKind) (s : State) (v : Station) :
    (s.failed l x k).standing v = s.standing v := by
  have hk := failed_kept l x k s
  have hseats : (s.failed l x k).seats = s.seats := hk.same .seats (by cases l <;> decide)
  have hscreens : (s.failed l x k).screens = s.screens := hk.same .screens (by cases l <;> decide)
  cases v with
  | seat i => exact congrArg (fun w : Vector SeatRec 64 => (w[i].presence, w[i].missCount)) hseats
  | screen j => exact congrArg (fun w : Vector ScreenRec 4 => (w[j].presence, w[j].missCount)) hscreens

theorem remarked_standing (u : Station) (x : Exchange) (k : FailureKind) (s : State) (v : Station) :
    (s.remarked u x k).standing v = s.standing v := (markAgain_standing x _ v).trans (failed_standing _ x k s v)

theorem remarked_floor (u : Station) (x : Exchange) (k : FailureKind) (s : State) :
    (s.remarked u x k).floor = s.floor := (remarked_kept u x k s).same .floor (by cases lineOfStation u <;> decide)

theorem remarked_line (u : Station) (x : Exchange) (k : FailureKind) (s : State) :
    (s.remarked u x k).line (lineOfStation u) = (s.failed (lineOfStation u) x k).line (lineOfStation u) :=
  (markAgain_kept x _).line (by cases lineOfStation u <;> decide)

/-- Every failure of a unit's exchange ends in its miss and the line's next exchange. -/
theorem exec_failure (hcalm : s.Calm) (hs : s.floor.Sound) (hline : OnLine (lineOfStation u) x s)
    (hf : FailedAt u x k a s) : exec (.exchangeFailure (lineOfStation u) a) s
      = .next ((recordMiss u (s.remarked u x k)).onward (lineOfStation u)) := by
  have hmissed := recordMiss_missed (s := s.remarked u x k) (by rw [remarked_floor]; exact hs) u
  have hkept := ((remarked_kept u x k s).mono
    (m := [.floor, .log, .seats, .screens, .sequencer, .marks, Block.ofLine (lineOfStation u)])
    (by cases lineOfStation u <;> decide)).trans (hmissed.records.kept.mono (by cases lineOfStation u <;> decide))
  rw [← settleLink_nextExchange hcalm hkept _ (by cases lineOfStation u <;> decide)]
  obtain ⟨hpoll, hfetch, horder⟩ := exec_exchangeFailure (k := k) (a := a) hcalm.1 hline
  rcases hf with ⟨probe, hx, hj, hprobe⟩ | ⟨i, hu, hx, hj⟩ | ⟨c, seg, hx, hj⟩
  · rw [hpoll _ _ hx hj]
    unfold failPoll
    rw [pollStation_addressOf]
    subst hx
    have hsame : (if probe then s.failed (lineOfStation u) (.poll (addressOf u) probe) k
        else recordMiss u (s.failed (lineOfStation u) (.poll (addressOf u) probe) k))
        = recordMiss u (s.remarked u (.poll (addressOf u) probe) k) := by
      cases hprobe' : probe with
      | false => rfl
      | true =>
        have hlost : s.presence u = .lost := by simpa [hprobe'] using hprobe
        rw [hprobe'] at hmissed
        refine (hmissed.out ?_).symm
        have hpres : (s.remarked u (.poll (addressOf u) true) k).presence u = s.presence u :=
          congrArg Prod.fst (remarked_standing u _ k s u)
        rw [hpres, hlost]
        rfl
    exact congrArg (fun v => Host.Outcome.next (settleLink (nextExchange (lineOfStation u) v))) hsame
  · rw [hfetch i hx hj]
    subst hx hu
    rfl
  · rw [horder u c seg hx hj]
    subst hx
    rfl

end failure

/-- Settles O48: the exchange is counted and marked again, its unit misses, and the line goes on. -/
theorem exchangeFailureIsMiss : Obligations.ExchangeFailureIsMiss := by
  unfold Obligations.ExchangeFailureIsMiss
  intro s u x k a hcalm hs l hline h2 hr hd hf
  set y := s.remarked u x k with hy
  set w := recordMiss u y with hw
  have hyfloor : y.floor = s.floor := remarked_floor u x k s
  have hykept : KeptBut [.seats, .screens, Block.ofLine l] s y := remarked_kept u x k s
  have hystand := remarked_standing u x k s u
  have hypres : y.presence u = s.presence u := congrArg Prod.fst hystand
  have hymiss : y.missCount u = s.missCount u := congrArg Prod.snd hystand
  have hmissed : UnitMissed u y w := recordMiss_missed (by rw [hyfloor]; exact hs) u
  have hwl : w.line l = (s.failed l x k).line l :=
    (hmissed.records.kept.line (by cases l <;> decide)).trans (remarked_line u x k s)
  obtain ⟨hcount, hcons, hfree, hothers⟩ := failed_line l x k s
  rw [← hwl] at hcount hcons hfree hothers
  have hpres (v : Station) : (w.onward l).presence v = w.presence v := w.onward_presence l v
  have hmiss : (w.onward l).missCount u = w.missCount u := w.onward_missCount l u
  have hpoll (hx : ∀ n p, x ≠ .poll n p) (h3 : 3 ≤ (s.line l).others)
      (hserv : inService ((w.onward l).presence u) = true) :=
    onward_poll (w := w) (u := u) (hfree ⟨h2, hr, hd⟩) (by rw [hothers hx]; omega) (by rw [← hpres]; exact hserv)
  have hstood {p : Presence} {n : Nat} (h : w.standing u = (p, n) ∧ w.floor = y.floor) :
      (w.onward l).presence u = p ∧ (w.onward l).missCount u = n ∧ (w.onward l).floor = s.floor := by
    obtain ⟨hst, hfl⟩ := h
    exact ⟨(hpres u).trans (congrArg Prod.fst hst), hmiss.trans (congrArg Prod.snd hst),
      (w.onward_floor l).trans (hfl.trans hyfloor)⟩
  refine ⟨_, exec_failure hcalm hs hline hf, ?_, ?_, fun v hv => ?_, ?_, fun hp => ?_, fun hp hm => ?_,
    fun hp hm => ?_, fun hp => ?_, fun c seg hx hfor => ?_, fun i hi hx hread hserv h3 => ?_⟩
  · rw [State.onward_counters, hcount]
  · rw [State.onward_consecutive, hcons]
  · exact (hpres v).trans ((hmissed.records.others v hv).trans (congrArg Prod.fst (remarked_standing u x k s v)))
  · exact ((hykept.mono (by cases l <;> decide)).trans
      (hmissed.records.kept.mono (by cases l <;> decide))).trans ((w.onward_kept l).mono (by cases l <;> decide))
  · exact hstood (hmissed.present (hypres.trans hp))
  · rw [← hymiss] at hm ⊢
    exact hstood (hmissed.silent (hypres.trans hp) hm)
  · rw [← hymiss] at hm
    obtain ⟨hst, hdrop⟩ := hmissed.third (hypres.trans hp) hm
    refine ⟨(hpres u).trans (congrArg Prod.fst hst), hmiss.trans (congrArg Prod.snd hst), fun i hi => ?_⟩
    obtain ⟨⟨hsp, hrq⟩, hcard, ⟨hfetch, hconf⟩, hfroz⟩ := hdrop i hi
    obtain ⟨m, f, hrec⟩ := w.onward_seats l i
    have hfl := w.onward_floor l
    refine ⟨⟨?_, ?_⟩, ?_, ⟨?_, ?_⟩, ?_⟩
    · exact (congrArg (fun f : Floor => f.speakers.any fun e => e.seat == i) hfl).trans hsp
    · exact (congrArg (fun f : Floor => f.requests.any fun e => e.seat == i) hfl).trans hrq
    · rw [hrec]; exact hcard
    · rw [State.onward_seat]
      rcases nextExchange_fetchMark l w i with h | ⟨h, _⟩
      · exact h.trans hfetch
      · exact h
    · rw [hrec]; exact hconf
    · rw [hrec]; exact hfroz
  · have hwy : w = y := hmissed.out (by rw [hypres, hp]; rfl)
    refine ⟨(hpres u).trans (by rw [hwy, hypres, hp]), (w.onward_floor l).trans (by rw [hwy, hyfloor])⟩
  · obtain ⟨hmark, hlabel, hstatus, hitem⟩ := markAgain_order seg (s.failed l x k) hfor
    have hyx : markAgain (.order u c seg) (s.failed l x k) = y := by rw [hy, State.remarked, hx]
    rw [hyx] at hmark hlabel hstatus hitem
    have hwmark := hmissed.records.marked _ hmark
    refine ⟨fun hlost => ?_, fun hserv h3 => ?_, fun i v hi hc => ?_, fun i v n hi hc => ?_, fun j n v m hj hc => ?_⟩
    · rw [State.onward_marked, nextExchange_marked_of_outOfService (by rw [← hpres, hlost]; rfl)]
      exact hwmark
    · obtain ⟨hnext, hmarks, _⟩ := hpoll (by rw [hx]; nofun) h3 hserv
      exact ⟨(hmarks _).trans hwmark, hnext⟩
    · obtain ⟨m, f, hrec⟩ := w.onward_seats l i
      obtain ⟨hsent, _⟩ := hmissed.records.seat i hi
      rw [hrec]
      exact hsent.trans (hlabel i v hi hc)
    · obtain ⟨m, f, hrec⟩ := w.onward_seats l i
      obtain ⟨_, hsent⟩ := hmissed.records.seat i hi
      rw [hrec]
      exact hsent.trans (hstatus i v n hi hc)
    · obtain ⟨m', f, hrec⟩ := w.onward_screens l j
      have hsent := hmissed.records.screen j hj
      rw [hrec]
      exact (congrArg (fun v : Vector (Option ItemKey) 16 => v[n]) hsent).trans (hitem j n v m hj hc)
  · obtain ⟨hnext, _, hseats⟩ := hpoll (by rw [hx]; nofun) h3 hserv
    have hin : inService (s.presence u) = true := by
      by_contra hout
      have hwy : w = y := hmissed.out (by rw [hypres]; simpa using hout)
      rw [hpres, hwy, hypres] at hserv
      exact hout hserv
    have hfpres : (s.failed l x k).presence u = s.presence u := congrArg Prod.fst (failed_standing l x k s u)
    have hyx : markAgain (.fetch i) (s.failed l x k) = y := by rw [hy, State.remarked, hx]
    have hread' : ((s.failed l x k).seat i).card.state = .reading :=
      (congrArg (fun w : Vector SeatRec 64 => w[i].card.state)
        ((failed_kept l x k s).same .seats (by cases l <;> decide))).trans hread
    have hymark := markAgain_fetch (by rw [← hi, hfpres]; exact hin) hread'
    rw [hyx] at hymark
    have hwmark := hmissed.fetchMark (by rw [← hpres]; exact hserv) i hi
    exact ⟨by rw [hseats]; exact hwmark.trans hymark, hnext⟩

end Sys2Proof.Machine
end

section
/-! The floor controller acts alike in two states that it cannot tell apart: with the same floor, log and refusal
codes, the same clock and meeting, and the same seat kinds, roles, eligibilities and bindings (R7 to R25). -/

open Sys2Proof Sys2Proof.Machine

namespace Sys2Proof.Machine

/-- Two states that the key events of the floor cannot tell apart. -/
structure Alike (s u : State) : Prop where
  floor : u.floor = s.floor
  log : u.log = s.log
  refusal : ∀ i, (u.seat i).refusal = (s.seat i).refusal
  clock : u.clock = s.clock
  current : u.seq.current = s.seq.current
  kind : ∀ i, (u.seat i).kind = (s.seat i).kind
  boundAttendee : ∀ i, u.boundAttendee i = s.boundAttendee i
  effRole : ∀ i, u.effRole i = s.effRole i
  seatDef : ∀ i, u.seatDef i = s.seatDef i
  eligibleToSpeak : ∀ i, u.eligibleToSpeak i = s.eligibleToSpeak i
  eligibleToRequest : ∀ i, u.eligibleToRequest i = s.eligibleToRequest i
  refusalFor : ∀ i, u.refusalFor i = s.refusalFor i

namespace Alike

variable {s u s' u' : State}

theorem refl (s : State) : Alike s s :=
  ⟨rfl, rfl, fun _ => rfl, rfl, rfl, fun _ => rfl, fun _ => rfl, fun _ => rfl, fun _ => rfl, fun _ => rfl,
    fun _ => rfl, fun _ => rfl⟩

theorem trans {v : State} (h : Alike s u) (k : Alike u v) : Alike s v :=
  ⟨k.floor.trans h.floor, k.log.trans h.log, fun i => (k.refusal i).trans (h.refusal i), k.clock.trans h.clock,
    k.current.trans h.current, fun i => (k.kind i).trans (h.kind i),
    fun i => (k.boundAttendee i).trans (h.boundAttendee i), fun i => (k.effRole i).trans (h.effRole i),
    fun i => (k.seatDef i).trans (h.seatDef i),
    fun i => (k.eligibleToSpeak i).trans (h.eligibleToSpeak i),
    fun i => (k.eligibleToRequest i).trans (h.eligibleToRequest i),
    fun i => (k.refusalFor i).trans (h.refusalFor i)⟩

/-- Steady steps that write the same floor, log and refusal codes leave two states alike. -/
theorem step (h : Alike s u) (hs : Steady s s') (hu : Steady u u') (hf : u'.floor = s'.floor) (hl : u'.log = s'.log)
    (hr : ∀ i, (u'.seat i).refusal = (s'.seat i).refusal) : Alike s' u' where
  floor := hf
  log := hl
  refusal := hr
  clock := hu.clock.trans (h.clock.trans hs.clock.symm)
  current := by rw [hu.seq, hs.seq, h.current]
  kind i := (hu.kind i).trans ((h.kind i).trans (hs.kind i).symm)
  boundAttendee i := (hu.boundAttendee i).trans ((h.boundAttendee i).trans (hs.boundAttendee i).symm)
  effRole i := (hu.effRole i).trans ((h.effRole i).trans (hs.effRole i).symm)
  seatDef i := (hu.seatDef i).trans ((h.seatDef i).trans (hs.seatDef i).symm)
  eligibleToSpeak i := (hu.eligibleToSpeak i).trans ((h.eligibleToSpeak i).trans (hs.eligibleToSpeak i).symm)
  eligibleToRequest i := (hu.eligibleToRequest i).trans ((h.eligibleToRequest i).trans (hs.eligibleToRequest i).symm)
  refusalFor i := (hu.refusalFor i).trans ((h.refusalFor i).trans (hs.refusalFor i).symm)

theorem ite {c d : Prop} [Decidable c] [Decidable d] (hcd : d ↔ c) (h : c → Alike s s') (k : ¬ c → Alike u u') :
    Alike (if c then s else u) (if d then s' else u') := by
  by_cases hc : c
  · rw [if_pos hc, if_pos (hcd.mpr hc)]
    exact h hc
  · rw [if_neg hc, if_neg fun hd => hc (hcd.mp hd)]
    exact k hc

theorem foldl {α : Type} {f : State → α → State} (hf : ∀ s u a, Alike s u → Alike (f s a) (f u a)) (l : List α)
    (h : Alike s u) : Alike (l.foldl f s) (l.foldl f u) := by
  induction l generalizing s u with
  | nil => exact h
  | cons a l ih => exact ih (hf s u a h)

section ops
variable (h : Alike s u)
include h

/-! ## Readings -/

theorem speaker (i : SeatId) : u.speaker i = s.speaker i := by simp only [State.speaker, h.floor]

theorem speaking (i : SeatId) : u.speaking i = s.speaking i := by simp only [State.speaking, h.floor]

theorem requesting (i : SeatId) : u.requesting i = s.requesting i := by simp only [State.requesting, h.floor]

theorem roomFor (c : Bool) : u.roomFor c = s.roomFor c := by simp only [State.roomFor, h.floor]

theorem bound : u.boundAttendee = s.boundAttendee := funext h.boundAttendee

theorem newSpeaker (i : SeatId) : u.newSpeaker i = s.newSpeaker i := by
  have hstamp : u.stamp = s.stamp := by simp only [State.stamp, h.clock]
  simp only [State.newSpeaker, h.seatDef, h.floor, hstamp]

theorem logRecordFor (a : Option Nat) (e : SpeakerEntry) (r : CloseReason) :
    u.logRecordFor a e r = s.logRecordFor a e r := by simp only [State.logRecordFor, h.current]

theorem logRecord (e : SpeakerEntry) (r : CloseReason) : u.logRecord e r = s.logRecord e r := by
  simp only [State.logRecord, h.boundAttendee, h.logRecordFor]

/-! ## Writes -/

theorem setFloor {f : Floor} (hp : f.policy = s.floor.policy) (ho : f.isOpen = s.floor.isOpen) :
    Alike (s.setFloor f) (u.setFloor f) :=
  h.step (.ofFloor hp ho) (.ofFloor (by rw [h.floor, hp]) (by rw [h.floor, ho])) rfl h.log h.refusal

theorem clearRefusal (i : SeatId) : Alike (Machine.clearRefusal i s) (Machine.clearRefusal i u) := by
  refine h.step (clearRefusal_steady i s) (clearRefusal_steady i u) h.floor h.log fun j => ?_
  unfold Machine.clearRefusal
  rw [State.modSeat_seat, State.modSeat_seat]
  split
  · rfl
  · exact h.refusal j

theorem refuse (i : SeatId) (c : RefusalCode) : Alike (Machine.refuse i c s) (Machine.refuse i c u) := by
  refine h.step (refuse_steady i c s) (refuse_steady i c u) h.floor h.log fun j => ?_
  unfold Machine.refuse
  rw [State.modSeat_seat, State.modSeat_seat]
  split
  · rfl
  · exact h.refusal j

/-- The refusal that want of eligibility gives (R7). -/
theorem refuseFor (i : SeatId) : Alike (Machine.refuse i (s.refusalFor i) s) (Machine.refuse i (u.refusalFor i) u) := by
  rw [h.refusalFor]
  exact h.refuse i _

theorem setSpeakers (l : List SpeakerEntry) : Alike (Machine.setSpeakers l s) (Machine.setSpeakers l u) := by
  unfold Machine.setSpeakers
  rw [h.floor]
  exact h.setFloor rfl rfl

theorem setRequests (l : List RequestEntry) : Alike (Machine.setRequests l s) (Machine.setRequests l u) := by
  unfold Machine.setRequests
  rw [h.floor]
  exact h.setFloor rfl rfl

theorem unmuteAll : Alike (Machine.unmuteAll s) (Machine.unmuteAll u) := by
  unfold Machine.unmuteAll
  rw [h.floor]
  exact h.setFloor rfl rfl

theorem logSpeech (a : Option Nat) (e : SpeakerEntry) (r : CloseReason) :
    Alike (Machine.logSpeech a e r s) (Machine.logSpeech a e r u) := by
  refine h.step (logSpeech_steady a e r s) (logSpeech_steady a e r u) h.floor ?_ h.refusal
  show u.log.push (u.logRecordFor a e r) = s.log.push (s.logRecordFor a e r)
  rw [h.log, h.logRecordFor]

theorem noteClose (i : SeatId) (r : CloseReason) : Alike (Machine.noteClose i r s) (Machine.noteClose i r u) :=
  h.step (noteClose_steady i r s) (noteClose_steady i r u) h.floor h.log h.refusal

theorem markSpeech (i : SeatId) : Alike (Machine.markSpeech i s) (Machine.markSpeech i u) :=
  h.step (markSpeech_steady i s) (markSpeech_steady i u) h.floor h.log h.refusal

/-! ## The shared steps (R8 to R13) -/

theorem dropHolder (i : SeatId) : Alike (Machine.dropHolder i s) (Machine.dropHolder i u) := by
  unfold Machine.dropHolder
  rw [h.floor]
  have hd : Alike (s.setFloor { s.floor with holders := s.floor.holders.filter fun j => !(j == i) })
      (u.setFloor { s.floor with holders := s.floor.holders.filter fun j => !(j == i) }) := h.setFloor rfl rfl
  refine ite .rfl (fun _ => ?_) fun _ => h
  exact ite .rfl (fun _ => hd.unmuteAll) fun _ => hd

theorem openSeat (i : SeatId) : Alike (Machine.openSeat i s) (Machine.openSeat i u) := by
  unfold Machine.openSeat
  rw [h.floor, h.newSpeaker]
  have ho : Alike (s.setFloor { s.floor with
      speakers := s.floor.speakers ++ [s.newSpeaker i]
      requests := s.floor.requests.filter (fun r => !(r.seat == i))
      speechCount := s.floor.speechCount + 1 }) (u.setFloor { s.floor with
      speakers := s.floor.speakers ++ [s.newSpeaker i]
      requests := s.floor.requests.filter (fun r => !(r.seat == i))
      speechCount := s.floor.speechCount + 1 }) := h.setFloor rfl rfl
  exact ite .rfl (fun _ => (ho.clearRefusal i).markSpeech i) fun _ => ho.clearRefusal i

theorem closeSeatAs (w : SeatId → Option Nat) (r : CloseReason) (i : SeatId) :
    Alike (Machine.closeSeatAs w r i s) (Machine.closeSeatAs w r i u) := by
  unfold Machine.closeSeatAs
  rw [h.speaker]
  cases s.speaker i with
  | none => exact h
  | some e =>
    have hn := (h.logSpeech (w i) e r).noteClose i r
    dsimp only
    rw [hn.floor]
    exact ((hn.setSpeakers _).clearRefusal i).dropHolder i

theorem closeSeat (r : CloseReason) (i : SeatId) : Alike (Machine.closeSeat r i s) (Machine.closeSeat r i u) := by
  unfold Machine.closeSeat
  rw [h.bound]
  exact h.closeSeatAs _ r i

theorem queueSeat (i : SeatId) : Alike (Machine.queueSeat i s) (Machine.queueSeat i u) := by
  unfold Machine.queueSeat
  rw [h.floor, h.seatDef]
  exact ite .rfl (fun _ => (h.setFloor (f := { s.floor with
      requests := insertRequest ⟨i, (s.seatDef i).band, s.floor.arrivalCounter⟩ s.floor.requests
      arrivalCounter := (s.floor.arrivalCounter + 1) % 65536 }) rfl rfl).clearRefusal i) fun _ => h.refuse i _

theorem withdrawSeat (i : SeatId) : Alike (Machine.withdrawSeat i s) (Machine.withdrawSeat i u) := by
  unfold Machine.withdrawSeat
  rw [h.requesting, h.floor]
  exact ite .rfl (fun _ => (h.setRequests _).clearRefusal i) fun _ => h

theorem closeOldest (r : CloseReason) : Alike (Machine.closeOldest r s) (Machine.closeOldest r u) := by
  unfold Machine.closeOldest State.oldestOrdinary
  rw [h.floor]
  split
  · exact h.closeSeat r _
  · exact h

theorem closeAll (r : CloseReason) (l : List SeatId) : Alike (Machine.closeAll r l s) (Machine.closeAll r l u) :=
  foldl (fun _ _ i h => h.closeSeat r i) l h

theorem emptyRequests : Alike (Machine.emptyRequests s) (Machine.emptyRequests u) := by
  unfold Machine.emptyRequests
  rw [h.floor]
  exact foldl (fun _ _ r h => h.withdrawSeat r.seat) _ h

end ops

theorem grantHeadLoop (h : Alike s u) (fuel : Nat) (r : Option CloseReason) :
    (Machine.grantHeadLoop fuel r u).1 = (Machine.grantHeadLoop fuel r s).1
      ∧ Alike (Machine.grantHeadLoop fuel r s).2 (Machine.grantHeadLoop fuel r u).2 := by
  induction fuel generalizing s u with
  | zero => exact ⟨rfl, h⟩
  | succ n ih =>
    unfold Machine.grantHeadLoop
    rw [h.floor]
    cases s.floor.requests with
    | nil => exact ⟨rfl, h⟩
    | cons q rest =>
      dsimp only
      rw [h.eligibleToSpeak, h.seatDef, h.roomFor]
      split
      · exact ih ((h.withdrawSeat q.seat).refuse q.seat .notPermitted)
      · split
        · exact ⟨rfl, h.openSeat q.seat⟩
        · cases r with
          | none => exact ⟨rfl, h⟩
          | some reason =>
            dsimp only
            split
            · exact ⟨rfl, h⟩
            · exact ⟨rfl, (h.closeOldest reason).openSeat q.seat⟩

section keys
variable (h : Alike s u)
include h

theorem grantHead (r : Option CloseReason) : (Machine.grantHead r u).1 = (Machine.grantHead r s).1
    ∧ Alike (Machine.grantHead r s).2 (Machine.grantHead r u).2 := by
  unfold Machine.grantHead
  rw [h.floor]
  exact h.grantHeadLoop _ r

theorem advance : Alike (Machine.advance s) (Machine.advance u) := by
  have hg := (h.grantHead none).2
  unfold Machine.advance
  rw [h.floor]
  split
  · exact ite .rfl (fun _ => h) fun _ => hg
  · exact ite .rfl (fun _ => hg) fun _ => h

theorem closeAdvance (r : CloseReason) (i : SeatId) :
    Alike (Machine.closeAdvance r i s) (Machine.closeAdvance r i u) := by
  unfold Machine.closeAdvance Machine.closeAdvanceAs
  rw [h.bound, h.speaker]
  cases s.speaker i with
  | none => exact h
  | some e =>
    have hc := h.closeSeatAs s.boundAttendee r i
    exact ite .rfl (fun _ => hc) fun _ => hc.advance

theorem endFloorEntry (r : CloseReason) (i : SeatId) :
    Alike (Machine.endFloorEntry r i s) (Machine.endFloorEntry r i u) := by
  unfold Machine.endFloorEntry
  rw [h.speaking]
  exact ite .rfl (fun _ => h.closeAdvance r i) fun _ => h.withdrawSeat i

/-! ## Keys (R17 to R25) -/

theorem micOpenMode (i : SeatId) : Alike (Machine.micOpenMode i s) (Machine.micOpenMode i u) := by
  unfold Machine.micOpenMode
  dsimp only
  rw [h.eligibleToSpeak, h.seatDef, h.roomFor, h.floor, h.eligibleToRequest]
  refine ite .rfl (fun _ => h.refuseFor i) fun _ => ite .rfl (fun _ => h.openSeat i) fun _ => ?_
  split
  · exact h.refuse i .full
  · exact ite .rfl (fun _ => h.queueSeat i) fun _ => h.refuse i .full
  · exact ite .rfl (fun _ => h.refuse i .full) fun _ => (h.closeOldest .replaced).openSeat i

theorem micRequestMode (i : SeatId) : Alike (Machine.micRequestMode i s) (Machine.micRequestMode i u) := by
  unfold Machine.micRequestMode
  rw [h.eligibleToRequest]
  exact ite .rfl (fun _ => h.queueSeat i) fun _ => h.refuseFor i

/-- A MIC press (R19 to R21). -/
theorem micPress (i : SeatId) : Alike (Machine.micPress i s) (Machine.micPress i u) := by
  have hc := h.clearRefusal i
  unfold Machine.micPress
  dsimp only
  rw [h.floor, hc.speaking, hc.requesting, hc.floor]
  refine ite .rfl (fun _ => h) fun _ => ite .rfl (fun _ => ?_) fun _ =>
    ite .rfl (fun _ => hc.withdrawSeat i) fun _ => ?_
  · exact ite .rfl (fun _ => hc.closeAdvance .own i) fun _ => hc.refuse i .noOwnClose
  · split
    · exact hc.micOpenMode i
    · exact hc.micRequestMode i

/-- A NEXT press (R22). -/
theorem nextPress (i : SeatId) : Alike (Machine.nextPress i s) (Machine.nextPress i u) := by
  have hc := h.clearRefusal i
  unfold Machine.nextPress
  dsimp only
  rw [h.floor, h.kind, hc.seatDef, hc.floor]
  refine ite .rfl (fun _ => h) fun _ => ite .rfl (fun _ => hc.refuse i .notPermitted) fun _ => ?_
  generalize (if (Machine.clearRefusal i s).floor.policy.fullAction = .replaceOldest then some CloseReason.chair
    else none) = r
  obtain ⟨hout, hstate⟩ := hc.grantHead r
  generalize Machine.grantHead r (Machine.clearRefusal i s) = p at hout hstate
  generalize Machine.grantHead r (Machine.clearRefusal i u) = q at hout hstate
  obtain ⟨o, v⟩ := p
  obtain ⟨o', v'⟩ := q
  obtain rfl : o' = o := hout
  cases o' with
  | opened => exact hstate
  | empty => exact hstate.refuse i .noneWaiting
  | noRoom => exact hstate.refuse i .full

theorem applyPriority : Alike (Machine.applyPriority s) (Machine.applyPriority u) := by
  unfold Machine.applyPriority
  rw [h.floor]
  split
  · exact h.setFloor rfl rfl
  · have he := h.emptyRequests
    dsimp only
    unfold State.ordinarySeats
    rw [he.floor]
    exact he.closeAll .priority _

/-- PRIORITY going held (R24). -/
theorem priorityHeld (i : SeatId) : Alike (Machine.priorityHeld i s) (Machine.priorityHeld i u) := by
  have hc := h.clearRefusal i
  unfold Machine.priorityHeld
  dsimp only
  rw [h.floor, h.kind, hc.seatDef, hc.eligibleToSpeak, hc.speaking, hc.roomFor, hc.floor]
  refine ite .rfl (fun _ => h) fun _ => ite .rfl (fun _ => hc.refuse i .notPermitted) fun _ =>
    ite .rfl (fun _ => hc.refuseFor i) fun _ => ite .rfl (fun _ => hc.refuse i .full) fun _ => ?_
  have hh : Alike ((Machine.clearRefusal i s).setFloor { (Machine.clearRefusal i s).floor with
      holders := if i ∈ (Machine.clearRefusal i s).floor.holders then (Machine.clearRefusal i s).floor.holders
        else (Machine.clearRefusal i s).floor.holders ++ [i] }) ((Machine.clearRefusal i u).setFloor {
      (Machine.clearRefusal i s).floor with
      holders := if i ∈ (Machine.clearRefusal i s).floor.holders then (Machine.clearRefusal i s).floor.holders
        else (Machine.clearRefusal i s).floor.holders ++ [i] }) := hc.setFloor rfl rfl
  rw [hh.speaking]
  exact (ite .rfl (fun _ => hh) fun _ => hh.openSeat i).applyPriority

/-- PRIORITY going not held (R25). -/
theorem priorityReleased (i : SeatId) : Alike (Machine.priorityReleased i s) (Machine.priorityReleased i u) := by
  unfold Machine.priorityReleased
  rw [h.floor, h.kind]
  exact ite .rfl (fun _ => h) fun _ => h.dropHolder i

end keys

end Alike

/-! ## What leaves a state alike -/

/-- A card part as the floor controller reads it: NONE and READING are alike no card (R84). -/
def CardPart.onFloor (c : CardPart) : CardPart := if noCard c then CardPart.empty else c

/-- What the floor controller reads of a seat's record, and the refusal code it writes. -/
structure SeatRec.FloorAlike (r r' : SeatRec) : Prop where
  kind : r'.kind = r.kind
  served : inService r'.presence = inService r.presence
  card : r'.card.onFloor = r.card.onFloor
  defaultRole : r'.defaultRole = r.defaultRole
  refusal : r'.refusal = r.refusal

theorem onFloor_cases {c c' : CardPart} (h : c'.onFloor = c.onFloor) : c' = c ∨ noCard c' = true ∧ noCard c = true := by
  have hempty : noCard CardPart.empty = true := rfl
  unfold CardPart.onFloor at h
  cases hc : noCard c <;> cases hc' : noCard c' <;> simp only [hc, hc', if_true, Bool.false_eq_true, if_false] at h
  · exact .inl h
  · rw [← h, hempty] at hc; cases hc
  · rw [h, hempty] at hc'; cases hc'
  · exact .inr ⟨rfl, rfl⟩

theorem noCard_iff {c : CardPart} : noCard c = true ↔ c.state = .none ∨ c.state = .reading := by
  simp [noCard]

theorem effRole_of_noCard {s : State} {i : SeatId} (h : noCard (s.seat i).card = true) :
    s.effRole i = ⟨s.uncardedRole i, s.floor.policy.cardsRequired⟩ := by
  rcases noCard_iff.mp h with hc | hc <;> simp [State.effRole, hc]

theorem boundAttendee_of_noCard {s : State} {i : SeatId} (h : noCard (s.seat i).card = true) :
    s.boundAttendee i = none := by
  rcases noCard_iff.mp h with hc | hc <;> simp [State.boundAttendee, hc]

theorem refusalFor_of_noCard {s : State} {i : SeatId} (h : noCard (s.seat i).card = true) : s.refusalFor i
    = if (s.effRole i).restricted then .cardNeeded else if s.barred i then .timeUsed else .notPermitted := by
  have hd : (s.seat i).card.state ≠ .duplicate := by rcases noCard_iff.mp h with hc | hc <;> rw [hc] <;> decide
  simp [State.refusalFor, h, hd]

/-- Two states that agree in what the floor controller reads are alike. -/
theorem Alike.ofFields {s u : State} (floor : u.floor = s.floor) (log : u.log = s.log) (clock : u.clock = s.clock)
    (roles : u.roles = s.roles) (seq : u.seq = s.seq)
    (seats : ∀ i, (s.seat i).FloorAlike (u.seat i)) : Alike s u := by
  have hentry : u.rosterEntry = s.rosterEntry := funext fun n => by simp only [State.rosterEntry, seq]
  have huncarded (i : SeatId) : u.uncardedRole i = s.uncardedRole i := by
    simp only [State.uncardedRole, State.assignedAttendee, (seats i).defaultRole, seq]
  have heff (i : SeatId) : u.effRole i = s.effRole i := by
    rcases onFloor_cases (seats i).card with hc | ⟨hu, hs⟩
    · simp only [State.effRole, hc, (seats i).defaultRole, hentry, huncarded, floor]
    · rw [effRole_of_noCard hu, effRole_of_noCard hs, huncarded, floor]
  have hdef (i : SeatId) : u.seatDef i = s.seatDef i := by simp only [State.seatDef, State.roleDef, heff, roles]
  have hbound (i : SeatId) : u.boundAttendee i = s.boundAttendee i := by
    rcases onFloor_cases (seats i).card with hc | ⟨hu, hs⟩
    · simp only [State.boundAttendee, hc]
    · rw [boundAttendee_of_noCard hu, boundAttendee_of_noCard hs]
  have hbarred (i : SeatId) : u.barred i = s.barred i := by
    simp only [State.barred, State.attendeeBarred, hbound, hentry, floor, hdef]
  refine ⟨floor, log, fun i => (seats i).refusal, clock, by rw [seq], fun i => (seats i).kind, hbound, heff, hdef,
    fun i => ?_, fun i => ?_, fun i => ?_⟩
  · simp only [State.eligibleToSpeak, (seats i).served, heff, hdef, hbarred]
  · simp only [State.eligibleToRequest, (seats i).served, heff, hdef, hbarred]
  · rcases onFloor_cases (seats i).card with hc | ⟨hu, hs⟩
    · simp only [State.refusalFor, hc, heff, hbarred]
    · rw [refusalFor_of_noCard hu, refusalFor_of_noCard hs, heff, hbarred]

theorem SeatRec.FloorAlike.ofCore {r r' : SeatRec} (h : r'.core = r.core) (hr : r'.refusal = r.refusal) :
    r.FloorAlike r' :=
  ⟨(congrArg SeatRec.kind h :), congrArg inService (congrArg SeatRec.presence h :),
    congrArg CardPart.onFloor (congrArg SeatRec.card h :), (congrArg SeatRec.defaultRole h :), hr⟩

/-- Between states alike no role has changed and no attendee has become bound (R86). -/
theorem Alike.roleConsequences {s u : State} (h : Alike s u) (hr : u.roles = s.roles) : roleConsequences s u = u :=
  roleConsequences_same (fun i => by simp only [State.roleKey, State.roleDef, h.effRole, hr])
    fun i => (h.boundAttendee i).symm

/-- What a change without consequences hands on leaves what its step left (R14). -/
theorem finishChange_alike {s u : State} (b : Bool) (h : roleConsequences s u = u) : Alike u (finishChange b s u) := by
  have ho : (finishChange b s u).outer = u.outer := outer_finishChange b s u
  refine .ofFields ((finishChange_floor b s u).trans (by rw [h])) ((finishChange_log b s u).trans (by rw [h]))
    (outer_clock ho) (outer_roles ho) (seq_finishChange b s u) fun i =>
      .ofCore (SeatRec.HandedOn.finishChange b s u i).core ((finishChange_refusal b s u i).trans (by rw [h]))

/-- A steady operation, handed on whole, leaves what the operation left (R14). -/
theorem Steady.change_alike {s : State} {f : State → State} (hf : Steady s (f s)) : Alike (f s) (change f s) :=
  finishChange_alike false hf.roleConsequences

end Sys2Proof.Machine
end

section
/-! The keys of a poll answer: each press is the floor's own event, each whole before the next, and every press resets
the idle count of the line (R168, R183). -/

open Sys2Proof Sys2Proof.Machine

namespace Sys2Proof.Machine

/-! ## A floor event, handed on whole (R14, R149) -/

/-- What a floor event, handed on whole, writes: the floor and its log, marks, targets and refusal codes. -/
structure Acted (u v : State) : Prop where
  core : ∀ j, (v.seat j).core = (u.seat j).core
  screens : ∀ j, v.standing (.screen j) = u.standing (.screen j)
  kept : KeptBut [.floor, .log, .seats, .screens, .marks] u v

theorem Acted.refl (u : State) : Acted u u := ⟨fun _ => rfl, fun _ => rfl, .refl _ u⟩

theorem Acted.trans {u v w : State} (h : Acted u v) (k : Acted v w) : Acted u w :=
  ⟨fun j => (k.core j).trans (h.core j), fun j => (k.screens j).trans (h.screens j), h.kept.trans k.kept⟩

theorem change_acted {u : State} {f : State → State} (hs : Steady u (f u)) (hc : (f u).screens = u.screens) :
    Acted u (change f u) := by
  have hkept : KeptBut _ u (change f u) := keptBut_of_outer ((outer_change f u).trans hs.outer)
  refine ⟨fun j => ?_, fun j => ?_, fun b hb => ?_⟩
  · exact (SeatRec.HandedOn.finishChange false u (f u) j).core.trans (congrArg SeatRec.core (hs.seats j) :)
  · refine (finishChange_standing false u (f u) (.screen j)).trans ?_
    exact congrArg (fun v : Vector ScreenRec 4 => (v[j].presence, v[j].missCount)) hc
  · by_cases hq : b = .sequencer
    · subst hq
      exact (seq_change f u).trans hs.seq
    · exact hkept b (by simp_all)

theorem remarkStatus_core (i : SeatId) (u : State) (j : SeatId) :
    ((remarkStatus i u).seat j).core = (u.seat j).core ∧ ((remarkStatus i u).seat j).refusal = (u.seat j).refusal := by
  unfold remarkStatus
  rw [State.modSeat_seat]
  split
  · next e =>
    subst e
    split <;> exact ⟨rfl, rfl⟩
  · exact ⟨rfl, rfl⟩

theorem keyEvent_acted {i : SeatId} {acts : Bool} {u : State} {f : State → State} (hs : Steady u (f u))
    (hc : (f u).screens = u.screens) : Acted u (keyEvent i acts f u) ∧ Alike (f u) (keyEvent i acts f u) := by
  have ha := change_acted hs hc
  have hl := hs.change_alike
  rcases keyEvent_eq i acts f u with h | h
  · rw [h]
    exact ⟨ha, hl⟩
  · rw [h]
    generalize change f u = v at ha hl
    have hcore := remarkStatus_core i v
    have hkept := remarkStatus_kept i v
    have hmark : Acted v (remarkStatus i v) := ⟨fun j => (hcore j).1, fun _ => rfl, hkept.mono (by decide)⟩
    refine ⟨ha.trans hmark, hl.trans (.ofFields (hkept.same .floor (by decide)) (hkept.same .log (by decide))
      (hkept.same .clock (by decide)) (hkept.same .roles (by decide)) (hkept.same .sequencer (by decide)) fun j => ?_)⟩
    obtain ⟨hc, hr⟩ := hcore j
    exact .ofCore hc hr

/-- Presses, each whole before the next, are the floor's presses. -/
theorem repeatStep_alike {f g : State → State} (hg : ∀ u, Acted u (g u) ∧ Alike (f u) (g u))
    (hf : ∀ s u, Alike s u → Alike (f s) (f u)) (n : Nat) {s u : State} (h : Alike s u) :
    Acted u (repeatStep g n u) ∧ Alike (f^[n] s) (repeatStep g n u) := by
  induction n generalizing s u with
  | zero => exact ⟨.refl u, h⟩
  | succ n ih =>
    obtain ⟨hacted, hstep⟩ := hg u
    obtain ⟨hacteds, hsteps⟩ := ih ((hf s u h).trans hstep)
    exact ⟨hacted.trans hacteds, hsteps⟩

/-! ## The idle count (R168) -/

/-- A line whose idle count a key or card event has reset, where there was one. -/
def Line.stirred (b : Bool) (now : Option Nat) (x : Line) : Line :=
  if b then { x with idle := 0, minuteLast := now, sleepDue := false } else x

theorem stirred_stirred (b c : Bool) (now : Option Nat) (x : Line) :
    (x.stirred b now).stirred c now = x.stirred (b || c) now := by
  cases b <;> cases c <;> rfl

/-- A part of a poll answer has been taken: the seat's record written, the idle count reset where an event came of it,
and what the event did to the floor. -/
structure PartTaken (i : SeatId) (b : Bool) (write : SeatRec → SeatRec) (u v : State) : Prop where
  self : (v.seat i).core = write (u.seat i).core
  others : ∀ j, j ≠ i → (v.seat j).core = (u.seat j).core
  screens : ∀ j, v.standing (.screen j) = u.standing (.screen j)
  line : v.line (lineOfSeat i) = (u.line (lineOfSeat i)).stirred b u.now
  kept : KeptBut [.floor, .log, .seats, .screens, .marks, Block.ofLine (lineOfSeat i)] u v

theorem PartTaken.now {i : SeatId} {b : Bool} {f : SeatRec → SeatRec} {u v : State} (h : PartTaken i b f u v) :
    v.now = u.now := by
  have hc : v.clock = u.clock := h.kept.same .clock (by cases lineOfSeat i <;> decide)
  simp only [State.now, hc]

theorem PartTaken.trans {i : SeatId} {b c : Bool} {f g : SeatRec → SeatRec} {u v w : State} (h : PartTaken i b f u v)
    (k : PartTaken i c g v w) : PartTaken i (b || c) (g ∘ f) u w where
  self := k.self.trans (congrArg g h.self)
  others j hj := (k.others j hj).trans (h.others j hj)
  screens j := (k.screens j).trans (h.screens j)
  line := by rw [k.line, h.line, h.now, stirred_stirred]
  kept := h.kept.trans k.kept

theorem PartTaken.acted {i : SeatId} {b : Bool} {f : SeatRec → SeatRec} {u v w : State} (h : PartTaken i b f u v)
    (k : Acted v w) : PartTaken i b f u w where
  self := (k.core i).trans h.self
  others j hj := (k.core j).trans (h.others j hj)
  screens j := (k.screens j).trans (h.screens j)
  line := (k.kept.line (by cases lineOfSeat i <;> decide)).trans h.line
  kept := h.kept.trans (k.kept.mono (by cases lineOfSeat i <;> decide))

/-- A write of what the seat holds, with the reset of its line's idle count. -/
def held (i : SeatId) (b : Bool) (write : SeatRec → SeatRec) (u : State) : State :=
  if b then resetIdle (lineOfSeat i) (u.modSeat i write) else u.modSeat i write

theorem held_taken (i : SeatId) (b : Bool) {write : SeatRec → SeatRec} (hw : ∀ r, (write r).core = write r.core)
    (u : State) : PartTaken i b write u (held i b write u) := by
  have hseat (j : SeatId) : (held i b write u).seat j = (u.modSeat i write).seat j := by
    unfold held resetIdle
    split
    · unfold State.seat
      rw [State.modLine_seats]
    · rfl
  have hkept : KeptBut [.seats, Block.ofLine (lineOfSeat i)] u (held i b write u) := by
    have hm : KeptBut [.seats, Block.ofLine (lineOfSeat i)] u (u.modSeat i write) :=
      (modSeat_kept i write u).mono (by cases lineOfSeat i <;> decide)
    unfold held
    split
    · exact hm.trans ((modLine_kept _ _ _).mono (by cases lineOfSeat i <;> decide))
    · exact hm
  refine ⟨?_, fun j hj => ?_, fun j => ?_, ?_, hkept.mono (by cases lineOfSeat i <;> decide)⟩
  · rw [hseat, State.modSeat_seat_same]
    exact hw _
  · rw [hseat, State.modSeat_seat, if_neg hj]
  · have hscreens : (held i b write u).screens = u.screens := hkept.same .screens (by cases lineOfSeat i <;> decide)
    exact congrArg (fun v : Vector ScreenRec 4 => (v[j].presence, v[j].missCount)) hscreens
  · unfold held Line.stirred
    split
    · unfold resetIdle
      rw [State.modLine_line]
      cases lineOfSeat i <;> rfl
    · cases lineOfSeat i <;> rfl

theorem held_alike (i : SeatId) (b : Bool) {write : SeatRec → SeatRec} (hw : ∀ r : SeatRec, r.FloorAlike (write r))
    (u : State) : Alike u (held i b write u) := by
  have hrefl (r : SeatRec) : r.FloorAlike r := ⟨rfl, rfl, rfl, rfl, rfl⟩
  have hm : Alike u (u.modSeat i write) := by
    refine .ofFields rfl rfl rfl rfl rfl fun j => ?_
    rw [State.modSeat_seat]
    split
    · next e => rw [e]; exact hw _
    · exact hrefl _
  have hl (v : State) (f : Line → Line) (l : LineId) : Alike v (v.modLine l f) := by
    have hk := modLine_kept l f v
    refine .ofFields (State.modLine_floor ..) (State.modLine_log ..) (State.modLine_clock ..) (State.modLine_roles ..)
      (State.modLine_seq ..) fun j => ?_
    unfold State.seat
    rw [State.modLine_seats]
    exact hrefl _
  unfold held
  split
  · exact hm.trans (hl _ _ _)
  · exact hm

/-! ## The keys of an answer (R183) -/

/-- The held MIC count, the held NEXT count and the held PRIORITY level are written (R182). -/
def holdMic (n : Nat) (r : SeatRec) : SeatRec := { r with heldMic := some n }

def holdNext (n : Nat) (r : SeatRec) : SeatRec := { r with heldNext := some n }

def holdPriority (b : Bool) (r : SeatRec) : SeatRec := { r with heldPriority := b }

section keys
variable (i : SeatId) (f : PollFields) (u : State)

theorem takeMic_eq : takeMic i f u = repeatStep (fun s => keyEvent i s.floor.isOpen (micPress i) s)
    (presses (u.seat i).heldMic f.mic)
    (held i (decide (presses (u.seat i).heldMic f.mic ≠ 0)) (holdMic f.mic) u) := by
  unfold takeMic held
  dsimp only
  by_cases h : presses (u.seat i).heldMic f.mic = 0 <;> simp [h] <;> rfl

theorem takeNext_eq : takeNext i f u = repeatStep (fun s => keyEvent i (s.chairKeyActs i) (nextPress i) s)
    (presses (u.seat i).heldNext f.next)
    (held i (decide (presses (u.seat i).heldNext f.next ≠ 0)) (holdNext f.next) u) := by
  unfold takeNext held
  dsimp only
  by_cases h : presses (u.seat i).heldNext f.next = 0 <;> simp [h] <;> rfl

theorem takeMic_taken : PartTaken i (decide (presses (u.seat i).heldMic f.mic ≠ 0))
      (holdMic f.mic) u (takeMic i f u)
    ∧ Alike ((micPress i)^[presses (u.seat i).heldMic f.mic] u) (takeMic i f u) := by
  obtain ⟨hacted, halike⟩ := repeatStep_alike (f := micPress i)
    (g := fun s => keyEvent i s.floor.isOpen (micPress i) s)
    (fun v => keyEvent_acted (micPress_steady i v) (unwritten_screens.micPress i v)) (fun _ _ h => h.micPress i)
    (presses (u.seat i).heldMic f.mic)
    (held_alike i (decide (presses (u.seat i).heldMic f.mic ≠ 0)) (write := holdMic f.mic)
      (fun _ => ⟨rfl, rfl, rfl, rfl, rfl⟩) u)
  rw [takeMic_eq]
  exact ⟨(held_taken i _ (write := holdMic f.mic) (fun _ => rfl) u).acted hacted, halike⟩

theorem takeNext_taken : PartTaken i (decide (presses (u.seat i).heldNext f.next ≠ 0))
      (holdNext f.next) u (takeNext i f u)
    ∧ Alike ((nextPress i)^[presses (u.seat i).heldNext f.next] u) (takeNext i f u) := by
  obtain ⟨hacted, halike⟩ := repeatStep_alike (f := nextPress i)
    (g := fun s => keyEvent i (s.chairKeyActs i) (nextPress i) s)
    (fun v => keyEvent_acted (nextPress_steady i v) (unwritten_screens.nextPress i v)) (fun _ _ h => h.nextPress i)
    (presses (u.seat i).heldNext f.next)
    (held_alike i (decide (presses (u.seat i).heldNext f.next ≠ 0))
      (write := holdNext f.next) (fun _ => ⟨rfl, rfl, rfl, rfl, rfl⟩) u)
  rw [takeNext_eq]
  exact ⟨(held_taken i _ (write := holdNext f.next) (fun _ => rfl) u).acted hacted, halike⟩

/-- What a changed PRIORITY level is to the floor (R23). -/
def priorityEvent (i : SeatId) (before after : Bool) (s : State) : State :=
  if after = before then s else if after then priorityHeld i s else priorityReleased i s

theorem takePriority_taken : PartTaken i (decide (f.priority ≠ (u.seat i).heldPriority))
      (holdPriority f.priority) u (takePriority i f u)
    ∧ Alike (priorityEvent i (u.seat i).heldPriority f.priority u) (takePriority i f u) := by
  unfold takePriority priorityEvent
  by_cases h : (u.seat i).heldPriority = f.priority
  · rw [if_pos h, if_pos h.symm]
    refine ⟨⟨?_, fun _ _ => rfl, fun _ => rfl, ?_, .refl _ u⟩, .refl u⟩
    · rw [← h]
      rfl
    · rw [h]
      simp [Line.stirred]
  · have hne : f.priority ≠ (u.seat i).heldPriority := fun e => h e.symm
    have ht := held_taken i true (write := holdPriority f.priority) (fun _ => rfl) u
    have ha := held_alike i true (write := holdPriority f.priority)
      (fun _ => ⟨rfl, rfl, rfl, rfl, rfl⟩) u
    have hv : resetIdle (lineOfSeat i) (u.modSeat i fun r => { r with heldPriority := f.priority })
        = held i true (holdPriority f.priority) u := rfl
    rw [if_neg h, if_neg hne, decide_eq_true hne]
    dsimp only
    rw [hv]
    generalize held i true (holdPriority f.priority) u = v at ht ha
    split
    · obtain ⟨hacted, halike⟩ := keyEvent_acted (i := i) (acts := v.chairKeyActs i) (priorityHeld_steady i v)
        (unwritten_screens.priorityHeld i v)
      exact ⟨ht.acted hacted, (ha.priorityHeld i).trans halike⟩
    · exact ⟨ht.acted (change_acted (priorityReleased_steady i v) (unwritten_screens.priorityReleased i v)),
        (ha.priorityReleased i).trans (priorityReleased_steady i v).change_alike⟩

end keys

/-- The floor's events of an answer's keys: the MIC presses, the NEXT presses, and a changed PRIORITY level. -/
def keyEvents (i : SeatId) (mics nexts : Nat) (before after : Bool) (s : State) : State :=
  priorityEvent i before after ((nextPress i)^[nexts] ((micPress i)^[mics] s))

theorem Alike.iterate {f : State → State} (hf : ∀ s u, Alike s u → Alike (f s) (f u)) (n : Nat) {s u : State}
    (h : Alike s u) : Alike (f^[n] s) (f^[n] u) := by
  induction n generalizing s u with
  | zero => exact h
  | succ n ih => exact ih (hf s u h)

theorem Alike.priorityEvent {s u : State} (h : Alike s u) (i : SeatId) (before after : Bool) :
    Alike (Machine.priorityEvent i before after s) (Machine.priorityEvent i before after u) :=
  .ite .rfl (fun _ => h) fun _ => .ite .rfl (fun _ => h.priorityHeld i) fun _ => h.priorityReleased i

theorem Alike.keyEvents {s u : State} (h : Alike s u) (i : SeatId) (mics nexts : Nat) (before after : Bool) :
    Alike (Machine.keyEvents i mics nexts before after s) (Machine.keyEvents i mics nexts before after u) :=
  (iterate (fun _ _ h => h.nextPress i) nexts (iterate (fun _ _ h => h.micPress i) mics h)).priorityEvent i _ _

/-- What an answer's key fields write of the seat. -/
def keysHeld (f : PollFields) (r : SeatRec) : SeatRec :=
  { r with heldMic := some f.mic, heldNext := some f.next, heldPriority := f.priority }

/-- The key fields of an answer, after its card fields have been taken (R183 step 4). -/
def takeKeys (i : SeatId) (f : PollFields) (u : State) : State := takePriority i f (takeNext i f (takeMic i f u))

theorem takeFields_eq (i : SeatId) (f : PollFields) (u : State) :
    takeFields i f u = takeKeys i f (takeCardFields i f u) := rfl

theorem takeKeys_taken (i : SeatId) (f : PollFields) (u : State) :
    PartTaken i (decide (presses (u.seat i).heldMic f.mic ≠ 0) || decide (presses (u.seat i).heldNext f.next ≠ 0)
        || decide (f.priority ≠ (u.seat i).heldPriority)) (keysHeld f) u (takeKeys i f u)
      ∧ Alike (keyEvents i (presses (u.seat i).heldMic f.mic) (presses (u.seat i).heldNext f.next)
        (u.seat i).heldPriority f.priority u) (takeKeys i f u) := by
  obtain ⟨hm, ham⟩ := takeMic_taken i f u
  obtain ⟨hn, han⟩ := takeNext_taken i f (takeMic i f u)
  obtain ⟨hp, hap⟩ := takePriority_taken i f (takeNext i f (takeMic i f u))
  have hnext : ((takeMic i f u).seat i).heldNext = (u.seat i).heldNext := (congrArg SeatRec.heldNext hm.self :)
  have hprio : ((takeNext i f (takeMic i f u)).seat i).heldPriority = (u.seat i).heldPriority :=
    (congrArg SeatRec.heldPriority (hm.trans hn).self :)
  rw [hnext] at hn han
  rw [hprio] at hp hap
  refine ⟨(hm.trans hn).trans hp, (Alike.priorityEvent ?_ i _ _).trans hap⟩
  exact (Alike.iterate (fun _ _ h => h.nextPress i) _ ham).trans han

end Sys2Proof.Machine
end

section
/-! A clean poll answer from a unit in service: its fields, its presence, and its keys (R162, R182 to R184, R224). -/

open Sys2Proof Sys2Proof.Machine

namespace Sys2Proof.Machine

/-! ## The judgement (R158, R162, R224) -/

theorem takeAnswer_of_carries {bytes : List Byte} {bound : Nat} {a : LineAnswer} (h : Carries bytes bound a) :
    takeAnswer a bytes.length bound = .ok bytes := by
  obtain ⟨⟨t, ht, h24⟩, hdata, hgood⟩ := h
  have hbegan : answerBegan a = true := by simp [answerBegan, ht, h24]
  have hlen : bytes.length ≤ a.chars.length := by
    have := congrArg List.length hdata
    simp only [List.length_map, List.length_take] at this
    omega
  have hall : (a.chars.take bytes.length).all (charGood bound) = true := by
    refine List.all_eq_true.mpr fun c hc => ?_
    obtain ⟨hframe, hmark, hend⟩ := hgood c hc
    simp [charGood, hframe, hmark, hend]
  unfold takeAnswer
  rw [if_neg (by rw [hbegan]; decide), if_pos ⟨hlen, hall⟩, hdata]

/-- A poll answer that carries its reply with a kind that fits its address is clean, with its fields. -/
theorem judgePoll_of_carries {addr : Nat} {b0 b1 b2 b3 : Byte} {a : LineAnswer} {k : UnitKind}
    (h : Carries (pollReply addr b0 b1 b2 b3) 94 a) (hk : answerKind b2 = some k) (hfit : kindFits addr k = true) :
    judgePoll addr a = .ok (pollFields b0 b1 k) := by
  have htake : takeAnswer a 5 (answerBound 5) = .ok (pollReply addr b0 b1 b2 b3) := takeAnswer_of_carries h
  have hheader : headerByte .poll addr = BitVec.ofNat 8 addr := BitVec.or_zero
  have hcheck : lineCheck (headerByte .poll addr :: (pollReply addr b0 b1 b2 b3).take 4)
      = byteAt (pollReply addr b0 b1 b2 b3) 4 := by
    rw [hheader]
    simp [pollReply, lineCheck, byteAt]
  have hkind : answerKind (byteAt (pollReply addr b0 b1 b2 b3) 2) = some k := hk
  unfold judgePoll
  rw [htake]
  dsimp only
  rw [if_pos hcheck, hkind]
  dsimp only
  rw [if_pos hfit]
  rfl

/-! ## The poll ends (R192, R193) -/

/-- The state in which a clean poll answer is taken. -/
def State.polled (l : LineId) (addr : Nat) (probe : Bool) (s : State) : State :=
  quietLine l ((sentClean l s).modLine l (pollEnded addr probe))

theorem polled_kept (l : LineId) (addr : Nat) (probe : Bool) (s : State) :
    KeptBut [Block.ofLine l] s (s.polled l addr probe) :=
  ((modLine_kept l _ s).trans (modLine_kept l _ _)).trans (modLine_kept l _ _)

theorem polled_seat (l : LineId) (addr : Nat) (probe : Bool) (s : State) (i : SeatId) :
    (s.polled l addr probe).seat i = s.seat i :=
  congrArg (fun v : Vector SeatRec 64 => v[i]) ((polled_kept l addr probe s).same .seats (by cases l <;> decide))

theorem polled_screen (l : LineId) (addr : Nat) (probe : Bool) (s : State) (j : ScreenId) :
    (s.polled l addr probe).screen j = s.screen j :=
  congrArg (fun v : Vector ScreenRec 4 => v[j]) ((polled_kept l addr probe s).same .screens (by cases l <;> decide))

theorem polled_presence (l : LineId) (addr : Nat) (probe : Bool) (s : State) (u : Station) :
    (s.polled l addr probe).presence u = s.presence u := by
  cases u with
  | seat i => exact congrArg SeatRec.presence (polled_seat l addr probe s i)
  | screen j => exact congrArg ScreenRec.presence (polled_screen l addr probe s j)

theorem polled_line (l : LineId) (addr : Nat) (probe : Bool) (s : State) :
    ∃ r, (s.polled l addr probe).line l = { s.line l with
      consecutive := 0, others := 0, round := r, activity := .none, begun := false } := by
  unfold State.polled quietLine sentClean
  simp only [State.modLine_line]
  exact ⟨_, rfl⟩

theorem polled_alike (l : LineId) (addr : Nat) (probe : Bool) (s : State) : Alike s (s.polled l addr probe) := by
  have hk := polled_kept l addr probe s
  exact .ofFields (hk.same .floor (by cases l <;> decide)) (hk.same .log (by cases l <;> decide))
    (hk.same .clock (by cases l <;> decide)) (hk.same .roles (by cases l <;> decide))
    (hk.same .sequencer (by cases l <;> decide)) fun i => by
      rw [polled_seat]
      exact ⟨rfl, rfl, rfl, rfl, rfl⟩

theorem exec_pollAnswer {u : Station} {probe : Bool} {a : LineAnswer} {s : State} {f : PollFields} {m : List Block}
    (hcalm : s.Calm) (hline : OnLine (lineOfStation u) (.poll (addressOf u) probe) s)
    (hj : judgePoll (addressOf u) a = .ok f)
    (hk : KeptBut m s (takePoll u probe f (s.polled (lineOfStation u) (addressOf u) probe)))
    (hm : Block.inputQueue ∉ m ∧ Block.store ∉ m) : exec (.pollAnswer (lineOfStation u) a) s
      = .next ((takePoll u probe f (s.polled (lineOfStation u) (addressOf u) probe)).onward (lineOfStation u)) := by
  have hexec : exec (.pollAnswer (lineOfStation u) a) s = execPollAnswer (lineOfStation u) a s := rfl
  have hend : endPoll (lineOfStation u) (addressOf u) probe f s
      = nextExchange (lineOfStation u) (takePoll u probe f (s.polled (lineOfStation u) (addressOf u) probe)) := by
    unfold endPoll
    rw [pollStation_addressOf]
    rfl
  rw [hexec, ← settleLink_nextExchange hcalm hk _ hm, ← hend]
  simp [execPollAnswer, event, hcalm.1, State.exchangeOn, hline.2, hj]

theorem nextExchange_idle (l : LineId) (s : State) : ((nextExchange l s).line l).idle = (s.line l).idle
    ∧ ((nextExchange l s).line l).minuteLast = (s.line l).minuteLast := by
  have harb {t : State} (h : Arbitrated l s t) :
      (t.line l).idle = (s.line l).idle ∧ (t.line l).minuteLast = (s.line l).minuteLast := by
    obtain ⟨_, _, _, _, _, _, _, hx⟩ := h.line
    rw [hx]
    exact ⟨rfl, rfl⟩
  unfold nextExchange
  dsimp only
  split
  · exact harb (arbiter_arbitrated l s)
  · split
    · unfold beginEnumeration
      rw [State.modLine_line]
      exact ⟨rfl, rfl⟩
    · split
      · exact harb (putExchange_arbitrated l _ s)
      · exact harb (arbiter_arbitrated l s)

/-! ## Presence (R183 steps 1 and 2, R184) -/

/-- A clean exchange writes neither a unit's kind nor its outstanding CONFIRM (R184). -/
theorem recordClean_unit (u : Station) (v : State) : (recordClean u v).confirmOutstanding u = v.confirmOutstanding u
    ∧ (recordClean u v).kind u = v.kind u := by
  have hset (p : Presence) (n : Nat) : (setPresence u p n v).confirmOutstanding u = v.confirmOutstanding u
      ∧ (setPresence u p n v).kind u = v.kind u := by
    cases u with
    | seat i =>
      have h : (setPresence (.seat i) p n v).seat i = { v.seat i with presence := p, missCount := n } :=
        State.modSeat_seat_same v i _
      simp [State.confirmOutstanding, State.kind, h]
    | screen j =>
      have h : (setPresence (.screen j) p n v).screen j = { v.screen j with presence := p, missCount := n } := by
        unfold setPresence
        simp only [State.modScreen_screen, if_true]
      simp [State.confirmOutstanding, State.kind, h]
  unfold recordClean
  split
  · exact hset _ _
  · exact hset _ _
  · exact ⟨rfl, rfl⟩

theorem takePresence_clean {u : Station} {f : PollFields} {v : State} (hserv : inService (v.presence u) = true)
    (hkind : v.kind u = some f.kind) (hfresh : f.fresh = true → v.confirmOutstanding u = true) :
    takePresence u f v = recordClean u v := by
  have hlost : v.presence u ≠ .lost := fun h => by rw [h] at hserv; cases hserv
  obtain ⟨hconf, hk⟩ := recordClean_unit u v
  unfold takePresence
  rw [if_neg hlost]
  dsimp only
  rw [hconf, hk, hkind, bne_self_eq_false, Bool.or_false]
  refine if_neg fun h => ?_
  rw [Bool.and_eq_true, Bool.not_eq_true'] at h
  obtain ⟨h1, h2⟩ := h
  rw [hfresh h1] at h2
  cases h2

/-- A seat's record after a clean exchange. -/
def SeatRec.found (r : SeatRec) : SeatRec := { r with presence := .present, missCount := 0 }

theorem recordClean_part {i : SeatId} {v : State} (hserv : inService (v.presence (.seat i)) = true) :
    PartTaken i false SeatRec.found v (recordClean (.seat i) v) ∧ Alike v (recordClean (.seat i) v) := by
  have hkept := recordClean_keptFloor (.seat i) v
  have hseat : (recordClean (.seat i) v).seat i = (v.seat i).found := by
    have hset : (setPresence (.seat i) .present 0 v).seat i = (v.seat i).found := State.modSeat_seat_same v i _
    unfold recordClean
    split
    · exact hset
    · exact hset
    · next h1 h2 => cases hp : v.presence (.seat i) <;> simp_all [inService]
  have hother (j : SeatId) (hj : j ≠ i) : (recordClean (.seat i) v).seat j = v.seat j := by
    have hset (p : Presence) (n : Nat) : (setPresence (.seat i) p n v).seat j = v.seat j :=
      (State.modSeat_seat v i j _).trans (if_neg hj)
    unfold recordClean
    split
    · exact hset _ _
    · exact hset _ _
    · rfl
  have hserv' : inService (v.seat i).presence = true := hserv
  refine ⟨⟨by rw [hseat]; rfl, fun j hj => by rw [hother j hj], fun j => ?_, ?_, hkept.mono ?_⟩,
    .ofFields (hkept.same .floor (by decide)) (hkept.same .log (by decide)) (hkept.same .clock (by decide))
      (hkept.same .roles (by decide)) (hkept.same .sequencer (by decide)) fun j => ?_⟩
  · unfold recordClean
    split <;> rfl
  · exact hkept.line (ofLine_notMem _)
  · cases lineOfSeat i <;> decide
  · by_cases hj : j = i
    · rw [hj, hseat]
      exact ⟨rfl, hserv'.symm, rfl, rfl, rfl⟩
    · rw [hother j hj]
      exact ⟨rfl, rfl, rfl, rfl, rfl⟩

/-! ## The card fields, where nothing happened at the reader (R78) -/

def holdCard (n : Nat) (r : SeatRec) : SeatRec := { r with heldCard := some n }

/-- A card count that has changed (R78, R182). -/
def changeSeen (r : SeatRec) (n : Nat) : Bool := r.heldCard != none && r.heldCard != some n

theorem takeCardFields_eq (i : SeatId) (f : PollFields) (u : State) : takeCardFields i f u
    = change (takeCard i f.cardPresent (changeSeen (u.seat i) f.card))
      (held i (changeSeen (u.seat i) f.card || cardThere (u.seat i).card != f.cardPresent) (holdCard f.card) u) := rfl

/-- A card that is found as the record knows it is left as it is. -/
theorem takeCard_same {i : SeatId} {u : State} {present : Bool} (h : present = cardThere (u.seat i).card) :
    takeCard i present false u = u := by
  have hself (c : CardPart) (hc : c = (u.seat i).card) : modCard i (fun _ => c) u = u := by
    have hr : { u.seat i with card := c } = u.seats[i] := by rw [hc]; rfl
    unfold modCard State.modSeat
    have hset : u.seats.set i.val { u.seats[i] with card := c } = u.seats := by
      rw [show ({ u.seats[i] with card := c } : SeatRec) = u.seats[i] from hr]
      simp
    exact (congrArg u.setSeats hset)
  unfold takeCard
  dsimp only
  subst h
  cases hs : (u.seat i).card.state with
  | none =>
    dsimp only
    cases hun : (u.seat i).card.unreadable with
    | false =>
      have hthere : cardThere (u.seat i).card = false := by simp [cardThere, hs, hun]
      rw [hthere]
      have := hself { (u.seat i).card with unreadable := false } (by rw [← hun])
      exact this
    | true =>
      have hthere : cardThere (u.seat i).card = true := by simp [cardThere, hs, hun]
      rw [hthere]
      rfl
  | reading =>
    have hthere : cardThere (u.seat i).card = true := by simp [cardThere, hs]
    rw [hthere]
    rfl
  | _ =>
    have hthere : cardThere (u.seat i).card = true := by simp [cardThere, hs]
    rw [hthere]
    rfl

theorem takeCardFields_same {i : SeatId} {f : PollFields} {u : State} (hheld : (u.seat i).heldCard = some f.card)
    (hthere : f.cardPresent = cardThere (u.seat i).card) :
    takeCardFields i f u = held i false (holdCard f.card) u := by
  have hseen : changeSeen (u.seat i) f.card = false := by simp [changeSeen, hheld]
  have hcard : ((held i false (holdCard f.card) u).seat i).card = (u.seat i).card :=
    (congrArg SeatRec.card (held_taken i false (write := holdCard f.card) (fun _ => rfl) u).self :)
  rw [takeCardFields_eq, hseen, ← hthere, bne_self_eq_false, Bool.or_false]
  exact change_of_same (takeCard_same (by rw [hcard]; exact hthere))

end Sys2Proof.Machine
end

section
/-! A poll answer with key presses and nothing new at the reader (R183, R184). -/

open Sys2Proof Sys2Proof.Machine

namespace Sys2Proof.Machine

/-- What a poll answer from a seat leaves at its end; `w` is the state in which it has been taken, and `stirred` says
whether a key or card event reset the line's idle count. -/
structure AnswerTaken (i : SeatId) (stirred : Bool) (s w : State) : Prop where
  standing : w.standing (.seat i) = (.present, 0)
  others : ∀ u : Station, u ≠ .seat i → w.presence u = s.presence u
  line : ∃ r, w.line (lineOfSeat i) = { s.line (lineOfSeat i) with
    consecutive := 0, others := 0, round := r, activity := .none, begun := false
    idle := if stirred then 0 else (s.line (lineOfSeat i)).idle
    minuteLast := if stirred then s.now else (s.line (lineOfSeat i)).minuteLast
    sleepDue := if stirred then false else (s.line (lineOfSeat i)).sleepDue }
  kept : KeptBut [.floor, .log, .seats, .screens, .sequencer, .marks, Block.ofLine (lineOfSeat i)] s w

namespace AnswerTaken

variable {i : SeatId} {b : Bool} {s w : State} (h : AnswerTaken i b s w)
include h

/-- The part that is alike for every answer of a seat. -/
theorem onward : ((w.onward (lineOfSeat i)).seat i).presence = .present
    ∧ ((w.onward (lineOfSeat i)).seat i).missCount = 0
    ∧ (∀ u : Station, u ≠ .seat i → (w.onward (lineOfSeat i)).presence u = s.presence u)
    ∧ ((w.onward (lineOfSeat i)).line (lineOfSeat i)).consecutive = 0
    ∧ ((w.onward (lineOfSeat i)).line (lineOfSeat i)).others = 0
    ∧ ((w.onward (lineOfSeat i)).line (lineOfSeat i)).counters = (s.line (lineOfSeat i)).counters := by
  obtain ⟨r, hline⟩ := h.line
  refine ⟨?_, ?_, fun u hu => ?_, ?_, ?_, ?_⟩
  · exact (w.onward_presence _ (.seat i)).trans (congrArg Prod.fst h.standing)
  · exact (w.onward_missCount _ (.seat i)).trans (congrArg Prod.snd h.standing)
  · exact (w.onward_presence _ u).trans (h.others u hu)
  · rw [State.onward_consecutive, hline]
  · rw [State.onward_others, hline]
  · rw [State.onward_counters, hline]

theorem onward_kept : KeptBut [.floor, .log, .seats, .screens, .sequencer, .transmitter, .marks,
    Block.ofLine (lineOfSeat i)] s (w.onward (lineOfSeat i)) :=
  (h.kept.mono (by cases lineOfSeat i <;> decide)).trans ((w.onward_kept _).mono (by cases lineOfSeat i <;> decide))

theorem onward_idle : ((w.onward (lineOfSeat i)).line (lineOfSeat i)).idle
      = (if b then 0 else (s.line (lineOfSeat i)).idle)
    ∧ ((w.onward (lineOfSeat i)).line (lineOfSeat i)).minuteLast
      = if b then s.now else (s.line (lineOfSeat i)).minuteLast := by
  obtain ⟨r, hline⟩ := h.line
  obtain ⟨hidle, hminute⟩ := nextExchange_idle (lineOfSeat i) w
  rw [State.onward_line, hidle, hminute, hline]
  exact ⟨rfl, rfl⟩

end AnswerTaken

/-- A part of an answer that follows the poll's end, with the seat PRESENT. -/
theorem PartTaken.answerTaken {i : SeatId} {b : Bool} {write : SeatRec → SeatRec} {addr : Nat} {probe : Bool}
    {s w : State} (h : PartTaken i b write (s.polled (lineOfSeat i) addr probe) w)
    (hw : ∀ r, (write r).presence = .present ∧ (write r).missCount = 0) : AnswerTaken i b s w where
  standing := by
    obtain ⟨hp, hm⟩ := hw ((s.polled (lineOfSeat i) addr probe).seat i).core
    exact Prod.ext ((congrArg SeatRec.presence h.self :).trans hp) ((congrArg SeatRec.missCount h.self :).trans hm)
  others u hu := by
    rw [← polled_presence (lineOfSeat i) addr probe s u]
    cases u with
    | seat j => exact (congrArg SeatRec.presence (h.others j fun e => hu (by rw [e])) :)
    | screen j => exact congrArg Prod.fst (h.screens j)
  line := by
    obtain ⟨r, hline⟩ := polled_line (lineOfSeat i) addr probe s
    have hnow : (s.polled (lineOfSeat i) addr probe).now = s.now := by
      simp only [State.now, (polled_alike (lineOfSeat i) addr probe s).clock]
    refine ⟨r, ?_⟩
    rw [h.line, hline, hnow]
    cases b <;> rfl
  kept := ((polled_kept _ _ _ _).mono (by cases lineOfSeat i <;> decide)).trans
    (h.kept.mono (by cases lineOfSeat i <;> decide))

section keys
variable {i : SeatId} {probe : Bool} {s : State} {f : PollFields}

/-- An answer with nothing of a return in it: the clean exchange is recorded, then the card and the keys are taken. -/
theorem takePoll_clean (hserv : inService (s.seat i).presence = true) (hkind : (s.seat i).kind = some f.kind)
    (hfresh : f.fresh = true → (s.seat i).confirmOutstanding = true) (addr : Nat) :
    let v := s.polled (lineOfSeat i) addr probe
    ∃ u, PartTaken i false SeatRec.found v u ∧ Alike s u
      ∧ takePoll (.seat i) probe f v = takeKeys i f (takeCardFields i f u) := by
  intro v
  have hseat : v.seat i = s.seat i := polled_seat _ addr probe s i
  have hserv' : inService (v.presence (.seat i)) = true := by rw [polled_presence]; exact hserv
  obtain ⟨hclean, haclean⟩ := recordClean_part hserv'
  refine ⟨_, hclean, (polled_alike _ addr probe s).trans haclean, ?_⟩
  have hin : (inService (v.presence (.seat i)) || probe && v.presence (.seat i) == .lost) = true := by
    rw [hserv']
    rfl
  have hpres : takePresence (.seat i) f v = recordClean (.seat i) v :=
    takePresence_clean hserv' ((congrArg SeatRec.kind hseat).trans hkind)
      fun h => (congrArg SeatRec.confirmOutstanding hseat).trans (hfresh h)
  unfold takePoll
  rw [if_pos hin]
  dsimp only
  rw [hpres, takeFields_eq]

/-- The state in which an answer with key presses alone has been taken. -/
theorem takePoll_keys (hserv : inService (s.seat i).presence = true) (hkind : (s.seat i).kind = some f.kind)
    (hfresh : f.fresh = true → (s.seat i).confirmOutstanding = true) (hheld : (s.seat i).heldCard = some f.card)
    (hthere : f.cardPresent = cardThere (s.seat i).card) (addr : Nat) :
    let v := s.polled (lineOfSeat i) addr probe
    let mics := presses (s.seat i).heldMic f.mic
    let nexts := presses (s.seat i).heldNext f.next
    PartTaken i (decide (mics ≠ 0) || decide (nexts ≠ 0) || decide (f.priority ≠ (s.seat i).heldPriority))
        (keysHeld f ∘ holdCard f.card ∘ SeatRec.found) v (takePoll (.seat i) probe f v)
      ∧ Alike (keyEvents i mics nexts (s.seat i).heldPriority f.priority s) (takePoll (.seat i) probe f v) := by
  intro v mics nexts
  have hseat : v.seat i = s.seat i := polled_seat _ addr probe s i
  obtain ⟨r, hclean, haclean, htake⟩ := takePoll_clean (probe := probe) hserv hkind hfresh addr
  have hcard : (r.seat i).heldCard = some f.card ∧ f.cardPresent = cardThere (r.seat i).card := by
    have h1 : (r.seat i).heldCard = (v.seat i).heldCard := (congrArg SeatRec.heldCard hclean.self :)
    have h2 : (r.seat i).card = (v.seat i).card := (congrArg SeatRec.card hclean.self :)
    rw [h1, h2, hseat]
    exact ⟨hheld, hthere⟩
  obtain ⟨hc1, hc2⟩ := hcard
  rw [htake, takeCardFields_same hc1 hc2]
  have hhold := hclean.trans (held_taken i false (write := holdCard f.card) (fun _ => rfl) r)
  have hahold := haclean.trans (held_alike i false (write := holdCard f.card) (fun _ => ⟨rfl, rfl, rfl, rfl, rfl⟩) r)
  generalize held i false (holdCard f.card) r = u at hhold hahold
  obtain ⟨hkeys, hakeys⟩ := takeKeys_taken i f u
  have hm : (u.seat i).heldMic = (s.seat i).heldMic := by rw [← hseat]; exact (congrArg SeatRec.heldMic hhold.self :)
  have hn : (u.seat i).heldNext = (s.seat i).heldNext := by rw [← hseat]; exact (congrArg SeatRec.heldNext hhold.self :)
  have hp : (u.seat i).heldPriority = (s.seat i).heldPriority := by
    rw [← hseat]; exact (congrArg SeatRec.heldPriority hhold.self :)
  rw [hm, hn, hp] at hkeys hakeys
  exact ⟨hhold.trans hkeys, (hahold.keyEvents i _ _ _ _).trans hakeys⟩

end keys

end Sys2Proof.Machine
end

section
/-! The card part of a poll answer where no role changes, and the return of a seat (R69, R78, R187). -/

open Sys2Proof Sys2Proof.Machine

namespace Sys2Proof.Machine

/-! ## A card event that changes no role (R78, R84) -/

theorem modSeat_alike {i : SeatId} {write : SeatRec → SeatRec} {u : State}
    (h : (u.seat i).FloorAlike (write (u.seat i))) : Alike u (u.modSeat i write) := by
  refine .ofFields rfl rfl rfl rfl rfl fun j => ?_
  rw [State.modSeat_seat]
  split
  · next e => rw [e]; exact h
  · exact ⟨rfl, rfl, rfl, rfl, rfl⟩

/-- A change that writes one seat's record, and nothing of it that the floor reads, writes that record alone. -/
theorem change_of_floorAlike {i : SeatId} {write : SeatRec → SeatRec} {g : State → State} {u : State}
    (h : (u.seat i).FloorAlike (write (u.seat i))) (hw : (write (u.seat i)).core = write (u.seat i).core)
    (hg : g u = u.modSeat i write) : PartTaken i false write u (change g u) ∧ Alike u (change g u) := by
  have ha := modSeat_alike h
  have hcons : roleConsequences u (g u) = g u := by
    rw [hg]
    exact ha.roleConsequences rfl
  have hchange : Alike (g u) (change g u) := finishChange_alike false hcons
  have hcore (j : SeatId) : ((change g u).seat j).core = ((g u).seat j).core :=
    (SeatRec.HandedOn.finishChange false u (g u) j).core
  have hstand : ∀ v, (change g u).standing v = (g u).standing v := finishChange_standing false u (g u)
  have hout : (change g u).outer = (g u).outer := outer_change g u
  have hseq : (change g u).seq = (g u).seq := seq_change g u
  rw [hg] at hchange hcore hstand hout hseq
  have hkept : KeptBut [.floor, .log, .seats, .screens, .marks] u (change g u) :=
    outer_keptBut (hout.trans (by rfl)) hseq
  refine ⟨⟨?_, fun j hj => ?_, fun j => hstand _, ?_, hkept.mono (by cases lineOfSeat i <;> decide)⟩, ha.trans hchange⟩
  · rw [hcore, State.modSeat_seat_same]
    exact hw
  · rw [hcore, State.modSeat_seat, if_neg hj]
  · exact hkept.line (by cases lineOfSeat i <;> decide)

/-- A seat's record after an insertion (R78). -/
def SeatRec.inserted (r : SeatRec) : SeatRec :=
  { r with card := { CardPart.empty with state := .reading }, fetchMark := true }

theorem insertCard_eq (i : SeatId) (u : State) : insertCard i u = u.modSeat i SeatRec.inserted := by
  unfold insertCard setFetchMark modCard State.modSeat
  simp [State.setSeats, SeatRec.inserted]

theorem inserted_floorAlike {r : SeatRec} (h : noCard r.card = true) : r.FloorAlike r.inserted := by
  refine ⟨rfl, rfl, ?_, rfl, rfl⟩
  unfold CardPart.onFloor
  rw [h]
  rfl

/-! ## A seat returns (R187) -/

/-- A seat's record after its return. -/
def SeatRec.returned (k : UnitKind) (r : SeatRec) : SeatRec :=
  { r with
    presence := .present
    missCount := 0
    card := CardPart.empty
    kind := some k
    heldMic := none
    heldNext := none
    heldCard := none
    heldPriority := false
    fetchMark := false
    sentMic := none
    sentSpeaker := none
    frozen := false
    labelSent := none
    statusSent := none
    marks := ⟨true, true, true, true, true, true⟩
    confirmOutstanding := true }

/-- A state in which a seat has returned; `v` is the state before. -/
structure Returned (i : SeatId) (k : UnitKind) (v r : State) : Prop where
  self : (r.seat i).core = ((v.seat i).returned k).core
  others : ∀ j, j ≠ i → (r.seat j).uncarded.core = (v.seat j).uncarded.core
  screens : ∀ j, r.standing (.screen j) = v.standing (.screen j)
  off : OffFloor i r
  kept : KeptBut [.floor, .log, .seats, .screens, .sequencer, .marks] v r

section returns
variable {i : SeatId} {k : UnitKind} {v : State}

theorem returned_congr {q p : SeatRec} (k : UnitKind) (h : q.uncarded.unrefused = p.uncarded.unrefused) :
    (q.returned k).unrefused = (p.returned k).unrefused := congrArg (SeatRec.returned k) h

/-- What a return writes of the seat, its presence and its card part set aside. -/
def SeatRec.renewed (k : UnitKind) (r : SeatRec) : SeatRec :=
  { r with
    kind := some k
    heldMic := none
    heldNext := none
    heldCard := none
    heldPriority := false
    fetchMark := false
    sentMic := none
    sentSpeaker := none
    frozen := false
    labelSent := none
    statusSent := none
    marks := ⟨true, true, true, true, true, true⟩
    confirmOutstanding := true }

theorem returnCore_eq (i : SeatId) (k : UnitKind) (v : State) : returnCore (.seat i) k v
    = markSeat (.seat i) ((clearCard i (setPresence (.seat i) .present 0 (endFloorEntry .lost i v))).modSeat i
      (SeatRec.renewed k)) := rfl

theorem markSeat_seat (u : Station) (s : State) (i : SeatId) : (markSeat u s).seat i = s.seat i := rfl

theorem setPresence_seat (i j : SeatId) (p : Presence) (n : Nat) (s : State) : (setPresence (.seat i) p n s).seat j
    = if j = i then { s.seat i with presence := p, missCount := n } else s.seat j := State.modSeat_seat s i j _

theorem modCard_seat (i j : SeatId) (f : CardPart → CardPart) (s : State) : (modCard i f s).seat j
    = if j = i then { s.seat i with card := f (s.seat i).card } else s.seat j := State.modSeat_seat s i j _

/-- The floor entry ends, the card part is cleared, and the seat's record is a new unit's. -/
theorem returnCore_seat (i : SeatId) (k : UnitKind) (v : State) :
    ((returnCore (.seat i) k v).seat i).unrefused = ((v.seat i).returned k).unrefused := by
  set e := endFloorEntry .lost i v with he
  set p := setPresence (.seat i) .present 0 e with hp
  set c := clearCard i p with hc
  have hend : (e.seat i).unrefused = (v.seat i).unrefused := (unwritten_unrefused i).endFloorEntry .lost i v
  have hpseat : p.seat i = { e.seat i with presence := .present, missCount := 0 } := State.modSeat_seat_same e i _
  have hcard : (c.seat i).card = CardPart.empty := clearCard_card i p
  have hrest : (c.seat i).uncarded = (p.seat i).uncarded := clearCard_uncarded i p i
  have hpres : (c.seat i).presence = .present := by
    have h : (c.seat i).presence = (p.seat i).presence := (congrArg SeatRec.presence hrest :)
    rw [h, hpseat]
  have hmiss : (c.seat i).missCount = 0 := by
    have h : (c.seat i).missCount = (p.seat i).missCount := (congrArg SeatRec.missCount hrest :)
    rw [h, hpseat]
  have hseat : (returnCore (.seat i) k v).seat i = (c.seat i).returned k := by
    rw [returnCore_eq, markSeat_seat, ← he, ← hp, ← hc, State.modSeat_seat_same]
    unfold SeatRec.returned SeatRec.renewed
    rw [← hpres, ← hmiss, ← hcard]
  rw [hseat, returned_congr k (congrArg SeatRec.unrefused hrest), hpseat]
  exact congrArg (SeatRec.returned k) hend

theorem returnCore_other {i j : SeatId} (hj : j ≠ i) (k : UnitKind) (v : State) :
    ((returnCore (.seat i) k v).seat j).uncarded.unrefused = (v.seat j).uncarded.unrefused := by
  rw [returnCore_eq, markSeat_seat, State.modSeat_seat, if_neg hj, clearCard_uncarded, setPresence_seat, if_neg hj]
  exact congrArg SeatRec.uncarded ((unwritten_unrefused j).endFloorEntry .lost i v)

theorem markSeat_screens (u : Station) (s : State) : (markSeat u s).screens = s.screens := rfl

theorem setPresence_screens (i : SeatId) (p : Presence) (n : Nat) (s : State) :
    (setPresence (.seat i) p n s).screens = s.screens := rfl

theorem returnCore_screens (i : SeatId) (k : UnitKind) (v : State) :
    (returnCore (.seat i) k v).screens = v.screens := by
  rw [returnCore_eq, markSeat_screens, State.modSeat_screens, clearCard_screens, setPresence_screens]
  exact unwritten_screens.endFloorEntry .lost i v

theorem markSeat_floor (u : Station) (s : State) : (markSeat u s).floor = s.floor := rfl

theorem setPresence_floor (i : SeatId) (p : Presence) (n : Nat) (s : State) :
    (setPresence (.seat i) p n s).floor = s.floor := rfl

theorem returnCore_floor (i : SeatId) (k : UnitKind) (v : State) :
    (returnCore (.seat i) k v).floor = (endFloorEntry .lost i v).floor := by
  rw [returnCore_eq, markSeat_floor, State.modSeat_floor, clearCard_floor, setPresence_floor]

theorem returnUnit_eq (u : Station) (k : UnitKind) (v : State) :
    returnUnit u k v = finishChange true v (returnCore u k v) := rfl

theorem returnUnit_returned (hs : v.floor.Sound) : Returned i k v (returnUnit (.seat i) k v) := by
  have hkept := keptBut_of_outer (outer_returnUnit (.seat i) k v)
  have hoff : OffFloor i (returnCore (.seat i) k v) :=
    (endFloorEntry_offFloor hs .lost i).ofFloor (returnCore_floor i k v)
  have hself := returnCore_seat i k v
  have hother (j : SeatId) (hj : j ≠ i) := returnCore_other hj k v
  have hscreens := returnCore_screens i k v
  rw [returnUnit_eq] at hkept ⊢
  generalize returnCore (.seat i) k v = c at *
  have hhand (j : SeatId) : ((finishChange true v c).seat j).core = (c.seat j).core :=
    (SeatRec.HandedOn.finishChange true v c j).core
  refine ⟨?_, fun j hj => ?_, fun j => ?_, hoff.finishChange true v, hkept⟩
  · exact (hhand i).trans (congrArg SeatRec.core hself :)
  · exact (congrArg SeatRec.uncarded (hhand j) :).trans (congrArg SeatRec.core (hother j hj) :)
  · refine (finishChange_standing true v c (.screen j)).trans ?_
    exact congrArg (fun w : Vector ScreenRec 4 => (w[j].presence, w[j].missCount)) hscreens

theorem modCard_outer (i : SeatId) (f : CardPart → CardPart) (s : State) : (modCard i f s).floor = s.floor
    ∧ (modCard i f s).log = s.log ∧ (modCard i f s).clock = s.clock ∧ (modCard i f s).roles = s.roles
    ∧ (modCard i f s).seq = s.seq := ⟨rfl, rfl, rfl, rfl, rfl⟩

theorem setPresence_outer (i : SeatId) (p : Presence) (n : Nat) (s : State) :
    (setPresence (.seat i) p n s).floor = s.floor ∧ (setPresence (.seat i) p n s).log = s.log
    ∧ (setPresence (.seat i) p n s).clock = s.clock ∧ (setPresence (.seat i) p n s).roles = s.roles
    ∧ (setPresence (.seat i) p n s).seq = s.seq := ⟨rfl, rfl, rfl, rfl, rfl⟩

theorem renewed_outer (i : SeatId) (k : UnitKind) (s : State) :
    (markSeat (.seat i) (s.modSeat i (SeatRec.renewed k))).floor = s.floor
    ∧ (markSeat (.seat i) (s.modSeat i (SeatRec.renewed k))).log = s.log
    ∧ (markSeat (.seat i) (s.modSeat i (SeatRec.renewed k))).clock = s.clock
    ∧ (markSeat (.seat i) (s.modSeat i (SeatRec.renewed k))).roles = s.roles
    ∧ (markSeat (.seat i) (s.modSeat i (SeatRec.renewed k))).seq = s.seq := ⟨rfl, rfl, rfl, rfl, rfl⟩

theorem endFloorEntry_offFloor_same (hoff : OffFloor i v) (r : CloseReason) : endFloorEntry r i v = v := by
  unfold endFloorEntry
  rw [if_neg (ne_true_of_eq_false hoff.speaking)]
  exact withdrawSeat_of_offFloor hoff

/-- The return of a seat in no list with no card writes its own record alone. -/
theorem returnCore_quiet (hoff : OffFloor i v) (hcard : (v.seat i).card = CardPart.empty) :
    returnCore (.seat i) k v = markSeat (.seat i)
      ((modCard i (fun _ => CardPart.empty) (setPresence (.seat i) .present 0 v)).modSeat i (SeatRec.renewed k)) := by
  have hpcard : ((setPresence (.seat i) .present 0 v).seat i).card = CardPart.empty := by
    rw [setPresence_seat, if_pos rfl]
    exact hcard
  rw [returnCore_eq, endFloorEntry_offFloor_same hoff]
  unfold clearCard unbind
  rw [boundAttendee_of_noCard (by rw [hpcard]; rfl)]

/-- A seat in no list with no card returns with its kind: nothing else of it is the floor's. -/
theorem returnUnit_alike (hoff : OffFloor i v) (hcard : (v.seat i).card = CardPart.empty) :
    Alike (v.modSeat i fun r => { r with presence := .present, kind := some k }) (returnUnit (.seat i) k v) := by
  have hquiet := returnCore_quiet (k := k) hoff hcard
  have hself : (returnCore (.seat i) k v).seat i
      = SeatRec.renewed k { v.seat i with presence := .present, missCount := 0, card := CardPart.empty } := by
    rw [hquiet, markSeat_seat, State.modSeat_seat_same, modCard_seat, if_pos rfl, setPresence_seat, if_pos rfl]
  have hother (j : SeatId) (hj : j ≠ i) : (returnCore (.seat i) k v).seat j = v.seat j := by
    rw [hquiet, markSeat_seat, State.modSeat_seat, if_neg hj, modCard_seat, if_neg hj, setPresence_seat, if_neg hj]
  obtain ⟨hfloor, hlog, hclock, hroles, hseq⟩ : (returnCore (.seat i) k v).floor = v.floor
      ∧ (returnCore (.seat i) k v).log = v.log ∧ (returnCore (.seat i) k v).clock = v.clock
      ∧ (returnCore (.seat i) k v).roles = v.roles ∧ (returnCore (.seat i) k v).seq = v.seq := by
    obtain ⟨a1, a2, a3, a4, a5⟩ := renewed_outer i k (modCard i (fun _ => CardPart.empty)
      (setPresence (.seat i) .present 0 v))
    obtain ⟨b1, b2, b3, b4, b5⟩ := modCard_outer i (fun _ => CardPart.empty) (setPresence (.seat i) .present 0 v)
    obtain ⟨c1, c2, c3, c4, c5⟩ := setPresence_outer i .present 0 v
    rw [hquiet]
    exact ⟨a1.trans (b1.trans c1), a2.trans (b2.trans c2), a3.trans (b3.trans c3), a4.trans (b4.trans c4),
      a5.trans (b5.trans c5)⟩
  rw [returnUnit_eq]
  generalize returnCore (.seat i) k v = c at *
  have hback : Alike (v.modSeat i fun r => { r with presence := .present, kind := some k }) c := by
    refine .ofFields hfloor hlog hclock hroles hseq fun j => ?_
    rw [State.modSeat_seat]
    split
    · next e =>
      rw [e, hself]
      refine ⟨rfl, rfl, ?_, rfl, rfl⟩
      show CardPart.onFloor CardPart.empty = CardPart.onFloor (v.seat i).card
      rw [hcard]
    · next e =>
      rw [hother j e]
      exact ⟨rfl, rfl, rfl, rfl, rfl⟩
  have hread (j : SeatId) : (c.seat j).card = (v.seat j).card ∧ (c.seat j).defaultRole = (v.seat j).defaultRole := by
    by_cases hj : j = i
    · rw [hj, hself]
      exact ⟨hcard.symm, rfl⟩
    · rw [hother j hj]
      exact ⟨rfl, rfl⟩
  have hentry : c.rosterEntry = v.rosterEntry := funext fun n => by simp only [State.rosterEntry, hseq]
  have hrole (j : SeatId) : v.effRole j = c.effRole j := by
    obtain ⟨hc, hd⟩ := hread j
    simp only [State.effRole, State.uncardedRole, State.assignedAttendee, hc, hd, hentry, hfloor, hseq]
  have hbound (j : SeatId) : v.boundAttendee j = c.boundAttendee j := by
    obtain ⟨hc, _⟩ := hread j
    simp only [State.boundAttendee, hc]
  have hcons : roleConsequences v c = c :=
    roleConsequences_same (fun j => by simp only [State.roleKey, State.roleDef, hrole j, hroles]) hbound
  exact hback.trans (finishChange_alike true hcons)

end returns

/-! ## The card of a unit that has just come (R78, R187) -/

/-- What the card fields of a first answer write of the seat. -/
def firstCard (f : PollFields) (r : SeatRec) : SeatRec :=
  if f.cardPresent then (holdCard f.card r).inserted else holdCard f.card r

/-- The card fields of the answer with which a seat returns: a card in the reader is an insertion. -/
theorem takeCardFields_first {i : SeatId} {f : PollFields} {u : State} (hheld : (u.seat i).heldCard = none)
    (hcard : (u.seat i).card = CardPart.empty) :
    PartTaken i f.cardPresent (firstCard f) u (takeCardFields i f u) ∧ Alike u (takeCardFields i f u) := by
  have hseen : changeSeen (u.seat i) f.card = false := by simp [changeSeen, hheld]
  have hthere : cardThere (u.seat i).card = false := by rw [hcard]; rfl
  have hevent : (false || (false != f.cardPresent)) = f.cardPresent := by cases f.cardPresent <;> rfl
  have hpart := held_taken i f.cardPresent (write := holdCard f.card) (fun _ => rfl) u
  have halike := held_alike i f.cardPresent (write := holdCard f.card) (fun _ => ⟨rfl, rfl, rfl, rfl, rfl⟩) u
  rw [takeCardFields_eq, hseen, hthere, hevent]
  have hcard' : ((held i f.cardPresent (holdCard f.card) u).seat i).card = CardPart.empty :=
    (congrArg SeatRec.card hpart.self :).trans hcard
  generalize held i f.cardPresent (holdCard f.card) u = v at *
  cases hp : f.cardPresent with
  | false =>
    rw [hp] at hpart
    have hw : firstCard f = holdCard f.card := funext fun r => by simp [firstCard, hp]
    rw [change_of_same (takeCard_same (by rw [hcard']; rfl)), hw]
    exact ⟨hpart, halike⟩
  | true =>
    rw [hp] at hpart
    have hw : firstCard f = SeatRec.inserted ∘ holdCard f.card := funext fun r => by simp [firstCard, hp]
    have hg : takeCard i true false v = v.modSeat i SeatRec.inserted := by
      rw [← insertCard_eq]
      unfold takeCard
      rw [hcard']
      rfl
    obtain ⟨hins, hains⟩ := change_of_floorAlike (inserted_floorAlike (by rw [hcard']; rfl)) rfl hg
    rw [hw]
    exact ⟨hpart.trans hins, halike.trans hains⟩

end Sys2Proof.Machine
end

section
/-! A poll answer with which a unit returns (R69, R183 step 2, R187). -/

open Sys2Proof Sys2Proof.Machine

namespace Sys2Proof.Machine

/-! ## The return of a screen (R153, R187) -/

/-- A screen's record after its return. -/
def ScreenRec.returned (k : UnitKind) (c : ScreenRec) : ScreenRec :=
  { c with
    presence := .present
    missCount := 0
    kind := some k
    itemSent := Vector.replicate 16 none
    itemMarks := Vector.replicate 16 true
    confirmMark := true
    confirmOutstanding := true }

theorem returnCore_screen_eq (j : ScreenId) (k : UnitKind) (v : State) :
    returnCore (.screen j) k v = markSeat (.screen j) (v.modScreen j (ScreenRec.returned k)) := rfl

theorem markSeat_screen (u : Station) (s : State) (j : ScreenId) : (markSeat u s).screen j = s.screen j := rfl

theorem returnCore_screen (j m : ScreenId) (k : UnitKind) (v : State) : (returnCore (.screen j) k v).screen m
    = if m = j then (v.screen j).returned k else v.screen m := by
  rw [returnCore_screen_eq, markSeat_screen, State.modScreen_screen]

theorem returnCore_screen_kept (j : ScreenId) (k : UnitKind) (v : State) :
    KeptBut [.screens, .marks] v (returnCore (.screen j) k v) := by
  rw [returnCore_screen_eq]
  exact ((modScreen_kept j _ v).mono (by decide)).trans ((markSeat_kept _ _).mono (by decide))

/-- A unit that has returned has its kind, and a CONFIRM outstanding. -/
theorem returnUnit_unit (u : Station) (k : UnitKind) (v : State) : (returnUnit u k v).confirmOutstanding u = true
    ∧ (returnUnit u k v).kind u = some k := by
  rw [returnUnit_eq]
  cases u with
  | seat i =>
    have hself := returnCore_seat i k v
    generalize returnCore (.seat i) k v = c at *
    have hcore := (SeatRec.HandedOn.finishChange true v c i).core.trans (congrArg SeatRec.core hself :)
    generalize finishChange true v c = t at *
    exact ⟨(congrArg SeatRec.confirmOutstanding hcore :), (congrArg SeatRec.kind hcore :)⟩
  | screen j =>
    have hself := (returnCore_screen j j k v).trans (if_pos rfl)
    generalize returnCore (.screen j) k v = c at *
    have hcore := (ScreenRec.HandedOn.finishChange true v c j).core
    rw [hself] at hcore
    generalize finishChange true v c = t at *
    exact ⟨(congrArg ScreenRec.confirmOutstanding hcore :), (congrArg ScreenRec.kind hcore :)⟩

/-! ## When a unit returns (R187) -/

/-- An answer that returns its unit: from a probed LOST unit, or fresh or of another kind from a unit in service. -/
def Returning (u : Station) (probe : Bool) (f : PollFields) (s : State) : Prop :=
  (probe = true ∧ s.presence u = .lost)
    ∨ (probe = false ∧ inService (s.presence u) = true
      ∧ ((f.fresh = true ∧ s.confirmOutstanding u = false) ∨ s.kind u ≠ some f.kind))

/-- The state from which an answer's unit returns: a unit in service has had its clean exchange recorded. -/
def FoundBefore (u : Station) (v v' : State) : Prop :=
  v' = v ∨ (inService (v.presence u) = true ∧ v' = recordClean u v)

/-- A returning unit returns once. -/
theorem takePresence_returning {u : Station} {probe : Bool} {f : PollFields} {v : State}
    (h : Returning u probe f v) :
    ∃ v', FoundBefore u v v' ∧ takePresence u f v = returnUnit u f.kind v' := by
  unfold takePresence
  rcases h with ⟨_, hlost⟩ | ⟨_, hserv, hwhy⟩
  · obtain ⟨hconf, hkind⟩ := returnUnit_unit u f.kind v
    refine ⟨v, .inl rfl, ?_⟩
    rw [if_pos hlost]
    dsimp only
    rw [hconf, hkind]
    simp
  · obtain ⟨hconf, hkind⟩ := recordClean_unit u v
    have hlost : v.presence u ≠ .lost := fun h => by rw [h] at hserv; cases hserv
    refine ⟨recordClean u v, .inr ⟨hserv, rfl⟩, ?_⟩
    rw [if_neg hlost]
    dsimp only
    rw [hconf, hkind]
    refine if_pos ?_
    rcases hwhy with ⟨h1, h2⟩ | h2
    · simp [h1, h2]
    · simp [h2]

theorem takePoll_returning {i : SeatId} {probe : Bool} {f : PollFields} {v : State}
    (h : Returning (.seat i) probe f v) : ∃ v', FoundBefore (.seat i) v v'
      ∧ takePoll (.seat i) probe f v = takeKeys i f (takeCardFields i f (returnUnit (.seat i) f.kind v')) := by
  obtain ⟨v', hv', hpres⟩ := takePresence_returning h
  refine ⟨v', hv', ?_⟩
  have hin : (inService (v.presence (.seat i)) || probe && v.presence (.seat i) == .lost) = true := by
    rcases h with ⟨hp, hl⟩ | ⟨_, hs, _⟩
    · rw [hp, hl]
      rfl
    · rw [hs]
      rfl
  unfold takePoll
  rw [if_pos hin]
  dsimp only
  rw [hpres, takeFields_eq]

/-- A seat's record with another presence and miss count. -/
def SeatRec.stood (p : Presence) (n : Nat) (r : SeatRec) : SeatRec := { r with presence := p, missCount := n }

theorem FoundBefore.part {i : SeatId} {v v' : State} (h : FoundBefore (.seat i) v v') :
    (∃ p n, PartTaken i false (SeatRec.stood p n) v v') ∧ Alike v v' := by
  rcases h with rfl | ⟨hserv, rfl⟩
  · exact ⟨⟨(v'.seat i).presence, (v'.seat i).missCount, rfl, fun _ _ => rfl, fun _ => rfl, rfl, .refl _ _⟩, .refl _⟩
  · obtain ⟨hpart, halike⟩ := recordClean_part hserv
    exact ⟨⟨.present, 0, hpart⟩, halike⟩

/-- A change between two parts of a seat's answer: of the other units it writes card parts at most. -/
structure Between (i : SeatId) (q x : State) : Prop where
  others : ∀ j, j ≠ i → (x.seat j).uncarded.core = (q.seat j).uncarded.core
  screens : ∀ j, x.standing (.screen j) = q.standing (.screen j)
  kept : KeptBut [.floor, .log, .seats, .screens, .sequencer, .marks] q x

/-- An answer taken in parts, with such a change between them, by which the seat is PRESENT. -/
theorem Between.answerTaken {i : SeatId} {b c : Bool} {f g : SeatRec → SeatRec} {addr : Nat} {probe : Bool}
    {s q x w : State} (h : Between i q x) (before : PartTaken i b f (s.polled (lineOfSeat i) addr probe) q)
    (after : PartTaken i c g x w) (hw : (w.seat i).presence = .present ∧ (w.seat i).missCount = 0) :
    AnswerTaken i (b || c) s w where
  standing := Prod.ext hw.1 hw.2
  others u hu := by
    rw [← polled_presence (lineOfSeat i) addr probe s u]
    cases u with
    | seat j =>
      have hj : j ≠ i := fun e => hu (by rw [e])
      have h1 : (w.seat j).presence = (x.seat j).presence := (congrArg SeatRec.presence (after.others j hj) :)
      have h2 : (x.seat j).presence = (q.seat j).presence := (congrArg SeatRec.presence (h.others j hj) :)
      exact h1.trans (h2.trans (congrArg SeatRec.presence (before.others j hj) :))
    | screen j =>
      exact (congrArg Prod.fst ((after.screens j).trans ((h.screens j).trans (before.screens j))) :)
  line := by
    obtain ⟨r, hline⟩ := polled_line (lineOfSeat i) addr probe s
    have hclock : x.clock = q.clock := h.kept.same .clock (by decide)
    have hnow : (s.polled (lineOfSeat i) addr probe).now = s.now := by
      simp only [State.now, (polled_alike (lineOfSeat i) addr probe s).clock]
    have hxnow : x.now = s.now := by
      rw [← hnow, ← before.now]
      simp only [State.now, hclock]
    refine ⟨r, ?_⟩
    rw [after.line, h.kept.line (by cases lineOfSeat i <;> decide), before.line, hline, hnow, hxnow, stirred_stirred]
    cases b || c <;> rfl
  kept := (((polled_kept _ addr probe s).mono (by cases lineOfSeat i <;> decide)).trans
      (before.kept.mono (by cases lineOfSeat i <;> decide))).trans
    ((h.kept.mono (by cases lineOfSeat i <;> decide)).trans (after.kept.mono (by cases lineOfSeat i <;> decide)))

section seat
variable {i : SeatId} {probe : Bool} {f : PollFields} {s : State}

/-- What an answer with which a seat returns writes of its record. -/
def returnWrite (f : PollFields) (r : SeatRec) : SeatRec := keysHeld f (firstCard f (r.returned f.kind))

theorem returnWrite_core (f : PollFields) (r : SeatRec) :
    keysHeld f (firstCard f r.core) = (keysHeld f (firstCard f r)).core := by
  unfold firstCard
  split <;> rfl

/-- The record, the idle count and the floor after an answer with which a seat returns; `r` is the state in which the
seat has returned. -/
structure ReturnTaken (i : SeatId) (f : PollFields) (s r w : State) : Prop where
  self : (w.seat i).core = (returnWrite f (s.seat i)).core
  answer : AnswerTaken i (f.cardPresent || f.priority) s w
  alike : Alike (priorityEvent i false f.priority r) w

theorem takePoll_return (hs : s.floor.Sound) (h : Returning (.seat i) probe f s) (addr : Nat) :
    let v := s.polled (lineOfSeat i) addr probe
    ∃ v', FoundBefore (.seat i) v v' ∧ OffFloor i (returnUnit (.seat i) f.kind v')
      ∧ ReturnTaken i f s (returnUnit (.seat i) f.kind v') (takePoll (.seat i) probe f v) := by
  intro v
  have hseat (j : SeatId) : v.seat j = s.seat j := polled_seat _ addr probe s j
  have hret : Returning (.seat i) probe f v := by
    unfold Returning State.confirmOutstanding State.kind State.presence
    dsimp only
    rw [hseat]
    exact h
  obtain ⟨v', hv', htake⟩ := takePoll_returning hret
  obtain ⟨⟨p, n, hfound⟩, hafound⟩ := hv'.part
  have hv's : v'.floor.Sound := by
    rw [hafound.floor, (polled_alike _ addr probe s).floor]
    exact hs
  have hr : Returned i f.kind v' (returnUnit (.seat i) f.kind v') := returnUnit_returned hv's
  refine ⟨v', hv', hr.off, ?_⟩
  rw [htake]
  generalize returnUnit (.seat i) f.kind v' = r at hr
  have hself : (r.seat i).core = ((s.seat i).returned f.kind).core := by
    rw [hr.self, ← hseat i]
    exact (congrArg (fun x : SeatRec => (x.returned f.kind).core) hfound.self :)
  obtain ⟨hcards, hacards⟩ := takeCardFields_first (i := i) (f := f) (u := r)
    (congrArg SeatRec.heldCard hself :) (congrArg SeatRec.card hself :)
  obtain ⟨hkeys, hakeys⟩ := takeKeys_taken i f (takeCardFields i f r)
  generalize takeCardFields i f r = u at hcards hacards hkeys hakeys
  generalize takeKeys i f u = w at hkeys hakeys
  have hfirst (x : SeatRec) : (firstCard f x).heldMic = x.heldMic ∧ (firstCard f x).heldNext = x.heldNext
      ∧ (firstCard f x).heldPriority = x.heldPriority := by
    unfold firstCard
    split <;> exact ⟨rfl, rfl, rfl⟩
  obtain ⟨hmic, hnext, hprio⟩ := hfirst (r.seat i).core
  have hm : (u.seat i).heldMic = none :=
    (congrArg SeatRec.heldMic hcards.self :).trans (hmic.trans (congrArg SeatRec.heldMic hself :))
  have hn : (u.seat i).heldNext = none :=
    (congrArg SeatRec.heldNext hcards.self :).trans (hnext.trans (congrArg SeatRec.heldNext hself :))
  have hp : (u.seat i).heldPriority = false :=
    (congrArg SeatRec.heldPriority hcards.self :).trans (hprio.trans (congrArg SeatRec.heldPriority hself :))
  rw [hm, hn, hp] at hkeys hakeys
  have hpart := hcards.trans hkeys
  have hpresses : (f.cardPresent || (decide (presses none f.mic ≠ 0) || decide (presses none f.next ≠ 0)
      || decide (f.priority ≠ false))) = (f.cardPresent || f.priority) := by
    cases f.cardPresent <;> cases f.priority <;> rfl
  rw [hpresses] at hpart
  have hw : (w.seat i).core = (returnWrite f (s.seat i)).core := by
    rw [hpart.self, hself]
    exact returnWrite_core f _
  have hwrote : (returnWrite f (s.seat i)).core.presence = .present
      ∧ (returnWrite f (s.seat i)).core.missCount = 0 := by
    unfold returnWrite firstCard
    split <;> exact ⟨rfl, rfl⟩
  obtain ⟨hwp, hwm⟩ := hwrote
  have hbetween : Between i v' r := ⟨hr.others, hr.screens, hr.kept⟩
  have hans := hbetween.answerTaken hfound hpart
    ⟨(congrArg SeatRec.presence hw :).trans hwp, (congrArg SeatRec.missCount hw :).trans hwm⟩
  rw [Bool.false_or] at hans
  exact ⟨hw, hans, (hacards.priorityEvent i false f.priority).trans hakeys⟩

/-- With PRIORITY held, a seat in no list and with no card returns, and then its going held is the floor's. -/
theorem takePoll_return_held (hs : s.floor.Sound) (h : Returning (.seat i) probe f s) (hoff : OffFloor i s)
    (hcard : (s.seat i).card = CardPart.empty) (hf : f.priority = true) (addr : Nat) :
    Alike (priorityHeld i (s.modSeat i fun r => { r with presence := .present, kind := some f.kind }))
      (takePoll (.seat i) probe f (s.polled (lineOfSeat i) addr probe)) := by
  obtain ⟨v', hv', _, ht⟩ := takePoll_return hs h addr
  obtain ⟨⟨p, n, hfound⟩, hafound⟩ := hv'.part
  have hpolled := polled_alike (lineOfSeat i) addr probe s
  have hsv' := hpolled.trans hafound
  have hcore (j : SeatId) : ((v'.seat j).card = (s.seat j).card ∧ (v'.seat j).defaultRole = (s.seat j).defaultRole)
      ∧ (j ≠ i → (v'.seat j).presence = (s.seat j).presence) := by
    rw [← polled_seat (lineOfSeat i) addr probe s j]
    by_cases hj : j = i
    · rw [hj]
      exact ⟨⟨(congrArg SeatRec.card hfound.self :), (congrArg SeatRec.defaultRole hfound.self :)⟩,
        fun h => absurd rfl h⟩
    · have := hfound.others j hj
      exact ⟨⟨(congrArg SeatRec.card this :), (congrArg SeatRec.defaultRole this :)⟩,
        fun _ => (congrArg SeatRec.presence this :)⟩
  have hback : Alike (s.modSeat i fun r => { r with presence := .present, kind := some f.kind })
      (v'.modSeat i fun r => { r with presence := .present, kind := some f.kind }) := by
    have hk : KeptBut [.floor, .log, .seats, .screens, .marks, Block.ofLine (lineOfSeat i)] s v' :=
      ((polled_kept (lineOfSeat i) addr probe s).mono (by cases lineOfSeat i <;> decide)).trans hfound.kept
    refine .ofFields hsv'.floor hsv'.log hsv'.clock (hk.same .roles (by cases lineOfSeat i <;> decide))
      (hk.same .sequencer (by cases lineOfSeat i <;> decide)) fun j => ?_
    obtain ⟨⟨hc, hd⟩, hp⟩ := hcore j
    have hr := hsv'.refusal j
    have hkind := hsv'.kind j
    rw [State.modSeat_seat, State.modSeat_seat]
    split
    · next e =>
      rw [e] at hc hd hr
      exact ⟨rfl, rfl, congrArg CardPart.onFloor hc, hd, hr⟩
    · next e => exact ⟨hkind, congrArg inService (hp e), congrArg CardPart.onFloor hc, hd, hr⟩
  have hcard' : (v'.seat i).card = CardPart.empty := ((hcore i).1.1).trans hcard
  have hret : Alike _ (returnUnit (.seat i) f.kind v') := returnUnit_alike (hoff.ofFloor hsv'.floor) hcard'
  have halike := ht.alike
  rw [hf] at halike
  exact ((hback.trans hret).priorityHeld i).trans halike

end seat

end Sys2Proof.Machine
end

section
/-! A clean poll answer from a seat, as the line takes it: its keys, and its return (R182 to R184, R187). -/

open Sys2Proof Sys2Proof.Machine

namespace Sys2Proof.Machine

/-- A seat's record less what the next exchange and a change handed on write. -/
def SeatRec.lasting (r : SeatRec) : SeatRec := { r.core with fetchMark := false }

theorem onward_lasting (w : State) (l : LineId) (i : SeatId) :
    ((w.onward l).seat i).lasting = (w.seat i).core.lasting := by
  obtain ⟨m, f, h⟩ := w.onward_seats l i
  rw [h]
  rfl

/-- The answer of a seat, with a kind that a seat can have, is clean. -/
theorem judgePoll_seat {i : SeatId} {b0 b1 b2 b3 : Byte} {a : LineAnswer} {k : UnitKind}
    (h : Carries (pollReply (positionOfSeat i) b0 b1 b2 b3) 94 a)
    (hk : (b2 = 1 ∧ k = .delegate) ∨ (b2 = 2 ∧ k = .chair)) :
    judgePoll (addressOf (.seat i)) a = .ok (pollFields b0 b1 k) := by
  have hpos : ¬ (positionOfSeat i = 48 ∨ positionOfSeat i = 49) := by
    unfold positionOfSeat
    omega
  refine judgePoll_of_carries h ?_ ?_
  · rcases hk with ⟨rfl, rfl⟩ | ⟨rfl, rfl⟩ <;> rfl
  · unfold kindFits
    rw [show addressOf (.seat i) = positionOfSeat i from rfl, if_neg hpos]
    rcases hk with ⟨_, rfl⟩ | ⟨_, rfl⟩ <;> rfl

section seat
variable {i : SeatId} {probe : Bool} {f : PollFields} {s : State} {a : LineAnswer}

/-- The state at the end of a poll answer from a seat. -/
def State.answered (i : SeatId) (probe : Bool) (f : PollFields) (s : State) : State :=
  takePoll (.seat i) probe f (s.polled (lineOfSeat i) (positionOfSeat i) probe)

theorem exec_seatAnswer {b : Bool} (hcalm : s.Calm) (hline : OnLine (lineOfSeat i) (.poll (positionOfSeat i) probe) s)
    (hj : judgePoll (addressOf (.seat i)) a = .ok f) (h : AnswerTaken i b s (s.answered i probe f)) :
    exec (.pollAnswer (lineOfSeat i) a) s = .next ((s.answered i probe f).onward (lineOfSeat i)) :=
  exec_pollAnswer (u := .seat i) hcalm hline hj h.kept (by cases lineOfSeat i <;> decide)

/-- R183: each press is the floor's own event. -/
theorem keyAnswer_onward (hserv : inService (s.seat i).presence = true) (hkind : (s.seat i).kind = some f.kind)
    (hfresh : f.fresh = true → (s.seat i).confirmOutstanding = true) (hheld : (s.seat i).heldCard = some f.card)
    (hthere : f.cardPresent = cardThere (s.seat i).card) :
    let mics := presses (s.seat i).heldMic f.mic
    let nexts := presses (s.seat i).heldNext f.next
    let stirred := decide (mics ≠ 0) || decide (nexts ≠ 0) || decide (f.priority ≠ (s.seat i).heldPriority)
    let t := (s.answered i probe f).onward (lineOfSeat i)
    AnswerTaken i stirred s (s.answered i probe f)
      ∧ (t.seat i).lasting = (keysHeld f (holdCard f.card (s.seat i).found)).lasting
      ∧ t.floor = (keyEvents i mics nexts (s.seat i).heldPriority f.priority s).floor
      ∧ t.log = (keyEvents i mics nexts (s.seat i).heldPriority f.priority s).log
      ∧ KeptBut [.floor, .log, .seats, .screens, .transmitter, .marks, Block.ofLine (lineOfSeat i)] s t := by
  obtain ⟨hpart, halike⟩ := takePoll_keys (probe := probe) hserv hkind hfresh hheld hthere (positionOfSeat i)
  have hkept := (s.answered i probe f).onward_kept (lineOfSeat i)
  refine ⟨hpart.answerTaken fun _ => ⟨rfl, rfl⟩, ?_, ?_, ?_, ?_⟩
  · rw [onward_lasting, State.answered, hpart.self, polled_seat]
    rfl
  · exact ((s.answered i probe f).onward_floor _).trans halike.floor
  · exact Eq.trans (hkept.same .log (by cases lineOfSeat i <;> decide)) halike.log
  · exact (((polled_kept _ _ probe s).mono (by cases lineOfSeat i <;> decide)).trans
      (hpart.kept.mono (by cases lineOfSeat i <;> decide))).trans (hkept.mono (by cases lineOfSeat i <;> decide))

/-- R187: the record of a seat that has returned with this answer. -/
theorem returnAnswer_onward (hs : s.floor.Sound) (h : Returning (.seat i) probe f s) :
    AnswerTaken i (f.cardPresent || f.priority) s (s.answered i probe f)
      ∧ (((s.answered i probe f).onward (lineOfSeat i)).seat i).lasting = (returnWrite f (s.seat i)).lasting := by
  obtain ⟨v', _, _, hself, htaken, _⟩ := takePoll_return hs h (positionOfSeat i)
  refine ⟨htaken, ?_⟩
  rw [onward_lasting, State.answered, hself]
  rfl

/-- What lasts of a seat's record after the answer with which it returns (R69, R78, R187). -/
theorem returnWrite_lasting (f : PollFields) (r : SeatRec) : (returnWrite f r).lasting =
    { (r.returned f.kind).lasting with
    heldMic := some f.mic
    heldNext := some f.next
    heldCard := some f.card
    heldPriority := f.priority
    card := ⟨if f.cardPresent then .reading else .none, none, none, none, false⟩ } := by
  unfold returnWrite firstCard
  cases f.cardPresent <;> rfl

/-- Without PRIORITY, the seat that has returned stands in no list. -/
theorem returnAnswer_offFloor (hs : s.floor.Sound) (h : Returning (.seat i) probe f s) (hf : f.priority = false) :
    OffFloor i ((s.answered i probe f).onward (lineOfSeat i)) := by
  obtain ⟨v', _, hoff, _, _, halike⟩ := takePoll_return hs h (positionOfSeat i)
  rw [hf] at halike
  exact hoff.ofFloor (((s.answered i probe f).onward_floor _).trans halike.floor)

/-- With PRIORITY held, its going held is the floor's event after the return. -/
theorem returnAnswer_held (hs : s.floor.Sound) (h : Returning (.seat i) probe f s) (hoff : OffFloor i s)
    (hcard : (s.seat i).card = CardPart.empty) (hf : f.priority = true) :
    let held := priorityHeld i (s.modSeat i fun r => { r with presence := .present, kind := some f.kind })
    let t := (s.answered i probe f).onward (lineOfSeat i)
    t.floor = held.floor ∧ t.log = held.log ∧ (t.seat i).refusal = (held.seat i).refusal := by
  have halike := takePoll_return_held hs h hoff hcard hf (positionOfSeat i)
  have hkept := (s.answered i probe f).onward_kept (lineOfSeat i)
  refine ⟨((s.answered i probe f).onward_floor _).trans halike.floor,
    Eq.trans (hkept.same .log (by cases lineOfSeat i <;> decide)) halike.log, ?_⟩
  obtain ⟨m, g, hseat⟩ := (s.answered i probe f).onward_seats (lineOfSeat i) i
  exact (congrArg SeatRec.refusal hseat).trans (halike.refusal i)

end seat

end Sys2Proof.Machine
end

section
/-! The removal of a read card: its seat's floor entry ends and its attendee is unbound (R80, R81). -/

open Sys2Proof Sys2Proof.Machine

namespace Sys2Proof.Machine

/-! ## An unbinding (R80) -/

section unbind
variable {s : State} {i : SeatId} {a : Nat}

theorem promoted_eq_none (h : ∀ j, ¬ ((s.seat j).card.state = .duplicate ∧ (s.seat j).card.attendee = some a)) :
    s.promoted a = none := List.find?_eq_none.mpr fun j _ => by simpa using h j

theorem promoted_eq_some {j : SeatId} (hj : (s.seat j).card.state = .duplicate ∧ (s.seat j).card.attendee = some a)
    (hfirst : ∀ k < j, ¬ ((s.seat k).card.state = .duplicate ∧ (s.seat k).card.attendee = some a)) :
    s.promoted a = some j := by
  refine List.find?_eq_some_iff_getElem.mpr ⟨decide_eq_true hj, j.val, by simp [allSeats], by simp [allSeats],
    fun k hk => ?_⟩
  have := hfirst ⟨k, hk.trans j.isLt⟩ hk
  simpa [allSeats, imp_iff_not_or] using this

theorem unbind_of_unbound (h : s.boundAttendee i = none) : unbind i s = s := by
  unfold unbind
  rw [h]

theorem unbind_alone (h : s.boundAttendee i = some a) (hp : s.promoted a = none) :
    unbind i s = setBoundSeat a none s := by
  unfold unbind
  rw [h]
  dsimp only
  rw [hp]

theorem unbind_promotes {j : SeatId} (h : s.boundAttendee i = some a) (hp : s.promoted a = some j) :
    unbind i s = modCard j (fun c => { c with state := .bound }) (setBoundSeat a (some j) s) := by
  unfold unbind
  rw [h]
  dsimp only
  rw [hp]

theorem boundAttendee_of_bound (hc : (s.seat i).card.state = .bound) :
    s.boundAttendee i = (s.seat i).card.attendee := if_pos hc

theorem boundAttendee_of_notBound (hc : (s.seat i).card.state ≠ .bound) : s.boundAttendee i = none := if_neg hc

end unbind

/-- The roster with the bound seat of one attendee written (R77). -/
def Sequencer.bindTo (n : Nat) (x : Option SeatId) (q : Sequencer) : Sequencer :=
  { q with roster := q.roster.map fun r => r.modify n fun y => { y with boundSeat := x } }

theorem setBoundSeat_seat (n : Nat) (x : Option SeatId) (s : State) (j : SeatId) :
    (setBoundSeat n x s).seat j = s.seat j := rfl

theorem modCard_seq (i : SeatId) (f : CardPart → CardPart) (s : State) : (modCard i f s).seq = s.seq := rfl

theorem modCard_card_other {i j : SeatId} (h : j ≠ i) (f : CardPart → CardPart) (s : State) :
    ((modCard i f s).seat j).card = (s.seat j).card := by rw [modCard_seat, if_neg h]

/-- A seat whose card is a DUPLICATE of the card at another. -/
def State.Twin (s : State) (i j : SeatId) : Prop :=
  (s.seat j).card.state = .duplicate ∧ (s.seat j).card.attendee = (s.seat i).card.attendee

/-- Between `s` and `t` the attendee bound at a seat, if any, has been unbound there: the first DUPLICATE of it in seat
order is BOUND in its place (R80). -/
structure Unbinding (i : SeatId) (s t : State) : Prop where
  unbound : (s.seat i).card.state ≠ .bound → t.seq = s.seq ∧ ∀ j, j ≠ i → (t.seat j).card = (s.seat j).card
  alone : ∀ n, (s.seat i).card.state = .bound → (s.seat i).card.attendee = some n → (∀ j, ¬ s.Twin i j) →
    t.seq = s.seq.bindTo n none ∧ ∀ j, j ≠ i → (t.seat j).card = (s.seat j).card
  promotes : ∀ n, (s.seat i).card.state = .bound → (s.seat i).card.attendee = some n →
    ∀ j, s.Twin i j → (∀ k < j, ¬ s.Twin i k) → t.seq = s.seq.bindTo n (some j)
      ∧ (t.seat j).card = { (s.seat j).card with state := .bound }
      ∧ ∀ k, k ≠ i → k ≠ j → (t.seat k).card = (s.seat k).card

theorem clearCard_unbinding (i : SeatId) (s : State) : Unbinding i s (clearCard i s) := by
  have hother {u : State} (hu : unbind i s = u) (j : SeatId) (hj : j ≠ i) :
      ((clearCard i s).seat j).card = (u.seat j).card := by
    unfold clearCard
    rw [hu, modCard_card_other hj]
  have hseq {u : State} (hu : unbind i s = u) : (clearCard i s).seq = u.seq := by
    unfold clearCard
    rw [hu, modCard_seq]
  refine ⟨fun hc => ?_, fun n hc hn htwin => ?_, fun n hc hn j hj hfirst => ?_⟩
  · have hu := unbind_of_unbound (boundAttendee_of_notBound hc)
    exact ⟨hseq hu, hother hu⟩
  · simp only [State.Twin, hn] at htwin
    have hu := unbind_alone ((boundAttendee_of_bound hc).trans hn) (promoted_eq_none htwin)
    exact ⟨hseq hu, fun j hj => by rw [hother hu j hj, setBoundSeat_seat]⟩
  · have hji : j ≠ i := by
      rintro rfl
      have := hj.1
      rw [hc] at this
      cases this
    simp only [State.Twin, hn] at hj hfirst
    have hu := unbind_promotes ((boundAttendee_of_bound hc).trans hn) (promoted_eq_some hj hfirst)
    refine ⟨hseq hu, ?_, fun k hk hkj => ?_⟩
    · rw [hother hu j hji, modCard_seat, if_pos rfl, setBoundSeat_seat]
    · rw [hother hu k hk, modCard_card_other hkj, setBoundSeat_seat]

/-- An unbinding reads the cards and the roster before it, and writes them. -/
theorem Unbinding.congr {i : SeatId} {s s' t t' : State} (h : Unbinding i s t)
    (hs : ∀ j, (s'.seat j).card = (s.seat j).card) (hq : s'.seq = s.seq)
    (ht : ∀ j, j ≠ i → (t'.seat j).card = (t.seat j).card) (hr : t'.seq = t.seq) : Unbinding i s' t' := by
  have htwin (j : SeatId) : s'.Twin i j ↔ s.Twin i j := by simp only [State.Twin, hs]
  refine ⟨fun hc => ?_, fun n hc hn hno => ?_, fun n hc hn j hj hfirst => ?_⟩
  · rw [hs] at hc
    obtain ⟨h1, h2⟩ := h.unbound hc
    exact ⟨by rw [hr, h1, hq], fun j hj => by rw [ht j hj, h2 j hj, hs]⟩
  · rw [hs] at hc hn
    obtain ⟨h1, h2⟩ := h.alone n hc hn fun j hj => hno j ((htwin j).mpr hj)
    exact ⟨by rw [hr, h1, hq], fun j hj => by rw [ht j hj, h2 j hj, hs]⟩
  · rw [hs] at hc hn
    rw [htwin] at hj
    have hji : j ≠ i := by
      rintro rfl
      have := hj.1
      rw [hc] at this
      cases this
    obtain ⟨h1, h2, h3⟩ := h.promotes n hc hn j hj fun k hk h => hfirst k hk ((htwin k).mpr h)
    exact ⟨by rw [hr, h1, hq], by rw [ht j hji, h2, hs], fun k hk hkj => by rw [ht k hk, h3 k hk hkj, hs]⟩

/-! ## The removal (R81) -/

/-- The removal of a card, with the insertion of the next one where a card is there (R78, R81). -/
def removal (i : SeatId) (present : Bool) (q : State) : State :=
  if present then insertCard i (removeCard i q) else removeCard i q

/-- What a removal writes of its seat's record. -/
def afterRemoval (present : Bool) (r : SeatRec) : SeatRec :=
  if present then SeatRec.inserted { r with card := CardPart.empty } else { r with card := CardPart.empty }

theorem takeCard_removal {i : SeatId} {present seen : Bool} {q : State} (hn : (q.seat i).card.state ≠ .none)
    (hr : (q.seat i).card.state ≠ .reading) (h : present = false ∨ seen = true) :
    takeCard i present seen q = removal i present q := by
  unfold takeCard removal
  dsimp only
  split
  · next hc => exact absurd hc hn
  · next hc => exact absurd hc hr
  · rcases h with rfl | rfl
    · rfl
    · cases present <;> rfl

section removal
variable (i : SeatId) (present : Bool) (q : State)

theorem removeCard_seat :
    ((removeCard i q).seat i).unrefused = { (q.seat i).unrefused with card := CardPart.empty } := by
  have hrest : ((removeCard i q).seat i).uncarded = ((endFloorEntry .cardOut i q).seat i).uncarded :=
    clearCard_uncarded i _ i
  have hcard : ((removeCard i q).seat i).card = CardPart.empty := clearCard_card i _
  have hself : ((removeCard i q).seat i).uncarded = (removeCard i q).seat i := by
    unfold SeatRec.uncarded
    rw [← hcard]
  rw [← hself, hrest]
  exact (congrArg SeatRec.uncarded ((unwritten_unrefused i).endFloorEntry .cardOut i q) :)

theorem removeCard_other {j : SeatId} :
    ((removeCard i q).seat j).uncarded.unrefused = (q.seat j).uncarded.unrefused := by
  have hrest : ((removeCard i q).seat j).uncarded = ((endFloorEntry .cardOut i q).seat j).uncarded :=
    clearCard_uncarded i _ j
  rw [hrest]
  exact (congrArg SeatRec.uncarded ((unwritten_unrefused j).endFloorEntry .cardOut i q) :)

theorem removeCard_unbinding : Unbinding i q (removeCard i q) :=
  (clearCard_unbinding i (endFloorEntry .cardOut i q)).congr
    (fun j => (congrArg SeatRec.card ((unwritten_unrefused j).endFloorEntry .cardOut i q).symm :))
    (endFloorEntry_steady .cardOut i q).seq.symm (fun _ _ => rfl) rfl

theorem removal_eq : removal i present q = if present then (removeCard i q).modSeat i SeatRec.inserted
    else removeCard i q := by
  unfold removal
  rw [insertCard_eq]

theorem removal_seat : ((removal i present q).seat i).unrefused = (afterRemoval present (q.seat i)).unrefused := by
  have h := removeCard_seat i q
  rw [removal_eq]
  cases present with
  | false => exact h
  | true =>
    rw [if_pos rfl, State.modSeat_seat_same]
    exact (congrArg SeatRec.inserted h :)

theorem removal_other {j : SeatId} (hj : j ≠ i) : (removal i present q).seat j = (removeCard i q).seat j := by
  rw [removal_eq]
  cases present with
  | false => rfl
  | true => rw [if_pos rfl, State.modSeat_seat, if_neg hj]

theorem removal_fields : (removal i present q).screens = q.screens
    ∧ (removal i present q).floor = (endFloorEntry .cardOut i q).floor
    ∧ (removal i present q).seq = (removeCard i q).seq := by
  have hs : (removeCard i q).screens = q.screens :=
    (clearCard_screens i _).trans (unwritten_screens.endFloorEntry .cardOut i q)
  have hf : (removeCard i q).floor = (endFloorEntry .cardOut i q).floor := clearCard_floor i _
  rw [removal_eq]
  cases present with
  | false => exact ⟨hs, hf, rfl⟩
  | true =>
    rw [if_pos rfl]
    exact ⟨(State.modSeat_screens ..).trans hs, (State.modSeat_floor ..).trans hf, State.modSeat_seq ..⟩

end removal

/-! ## A removal that changes one role alone (R81, R86) -/

/-- The removal of a seat's card changes the role of no other seat: its attendee, if one is bound there, has no
DUPLICATE, and no other seat is assigned to it (R80, R84). -/
def State.AloneWithCard (s : State) (i : SeatId) : Prop :=
  (s.seat i).card.state = .bound → ∀ n, (s.seat i).card.attendee = some n →
    (∀ j, ¬ s.Twin i j) ∧ ∀ x, s.rosterEntry n = some x → x.attendee.seat = none ∨ x.attendee.seat = some i

theorem RosterSeen.ofUnbound {i : SeatId} {s u : State} {n : Nat} (hu : u.seq = s.seq.bindTo n none)
    (h : ∀ x, s.rosterEntry n = some x → x.attendee.seat = none ∨ x.attendee.seat = some i) : RosterSeen i s u := by
  cases hr : s.seq.roster with
  | none => exact .ofRoster (by rw [hu, Sequencer.bindTo, hr]; rfl)
  | some r =>
    have hur : u.seq.roster = some (r.modify n fun y => { y with boundSeat := none }) := by
      rw [hu, Sequencer.bindTo, hr]
      rfl
    refine ⟨fun j hj => ?_, fun a => ?_⟩
    · simp only [State.assignedAttendee, hr, hur, Option.getD_some]
      refine find?_modify_of_neg (p := fun y => y.attendee.seat == some j)
        (f := fun y => { y with boundSeat := none }) (fun _ => rfl) r n fun y hy => ?_
      rcases h y (by simp [State.rosterEntry, hr, hy]) with h | h <;> simp [h, Ne.symm hj]
    · have hmap := map_modify_of_eq (fun y : RosterEntry => (y.attendee, y.total))
        (fun y => { y with boundSeat := none }) (fun _ => rfl) r n
      simp only [State.rosterEntry, hr, hur, Option.getD_some, ← List.getElem?_map, hmap]

theorem clearCard_regiven {i : SeatId} {s : State} (hp : (s.seat i).presence = .present ∧ (s.seat i).missCount = 0)
    (h : s.AloneWithCard i) : Regiven i s (clearCard i s) := by
  have hcleared {u : State} (hu : unbind i s = u) (hseat : ∀ j, u.seat j = s.seat j)
      (hrest : u.floor = s.floor ∧ u.log = s.log ∧ u.roles = s.roles ∧ u.seq.current = s.seq.current) :
      CardTaken i CardPart.empty s (clearCard i s) := by
    obtain ⟨hf, hl, hro, hc⟩ := hrest
    unfold clearCard
    rw [hu]
    refine ⟨hf, hl, hro, hc, ?_, fun j hj => ?_⟩
    · rw [modCard_seat, if_pos rfl, hseat, ← hp.1, ← hp.2]
    · rw [modCard_seat, if_neg hj, hseat]
  have hun := clearCard_unbinding i s
  cases hb : s.boundAttendee i with
  | none =>
    have hcard : CardTaken i CardPart.empty s (clearCard i s) :=
      hcleared (unbind_of_unbound hb) (fun _ => rfl) ⟨rfl, rfl, rfl, rfl⟩
    refine hcard.regiven (.ofRoster ?_)
    unfold clearCard
    rw [unbind_of_unbound hb, modCard_seq]
  | some n =>
    have hc : (s.seat i).card.state = .bound := by
      by_contra hc
      rw [boundAttendee_of_notBound hc] at hb
      cases hb
    have hn : (s.seat i).card.attendee = some n := (boundAttendee_of_bound hc).symm.trans hb
    obtain ⟨htwin, hseat⟩ := h hc n hn
    have hu : unbind i s = setBoundSeat n none s := by
      refine unbind_alone hb (promoted_eq_none fun j hj => htwin j ?_)
      rw [State.Twin, hn]
      exact hj
    have hcard : CardTaken i CardPart.empty s (clearCard i s) :=
      hcleared hu (setBoundSeat_seat n none s) ⟨rfl, rfl, rfl, rfl⟩
    exact hcard.regiven (.ofUnbound (hun.alone n hc hn htwin).1 hseat)

theorem Regiven.alike {i : SeatId} {s u v : State} (h : Regiven i s u) (ha : Alike u v) (hr : v.roles = u.roles) :
    Regiven i s v where
  floor := ha.floor.trans h.floor
  log := ha.log.trans h.log
  roles := hr.trans h.roles
  current := ha.current.trans h.current
  refusal := (ha.refusal i).trans h.refusal
  effRole j hj := (ha.effRole j).trans (h.effRole j hj)
  eligible j hj := (ha.eligibleToSpeak j).trans (h.eligible j hj)
  bound j hj := (ha.boundAttendee j).trans (h.bound j hj)

theorem removal_regiven {i : SeatId} {present : Bool} {q : State}
    (hp : (q.seat i).presence = .present ∧ (q.seat i).missCount = 0) (h : q.AloneWithCard i) :
    Regiven i (endFloorEntry .cardOut i q) (removal i present q) := by
  have hrec (j : SeatId) : ((endFloorEntry .cardOut i q).seat j).unrefused = (q.seat j).unrefused :=
    (unwritten_unrefused j).endFloorEntry .cardOut i q
  have hseq := (endFloorEntry_steady .cardOut i q).seq
  generalize hepart : endFloorEntry .cardOut i q = e at *
  have hcard (j : SeatId) : (e.seat j).card = (q.seat j).card := (congrArg SeatRec.card (hrec j) :)
  have hpe : (e.seat i).presence = .present ∧ (e.seat i).missCount = 0 :=
    ⟨Eq.trans (congrArg SeatRec.presence (hrec i) :) hp.1, Eq.trans (congrArg SeatRec.missCount (hrec i) :) hp.2⟩
  have he : e.AloneWithCard i := by
    simp only [State.AloneWithCard, State.Twin, State.rosterEntry, hcard, hseq]
    exact h
  have hclear : Regiven i e (removeCard i q) := by
    unfold removeCard
    rw [hepart]
    exact clearCard_regiven hpe he
  rw [removal_eq]
  cases present with
  | false => exact hclear
  | true =>
    have hempty : ((removeCard i q).seat i).card = CardPart.empty := clearCard_card i _
    exact hclear.alike (modSeat_alike (inserted_floorAlike (by rw [hempty]; rfl))) rfl

/-- What the removal of a read card, handed on whole, leaves (R80, R81). -/
structure CardRemoved (i : SeatId) (present : Bool) (q x : State) : Prop where
  self : (x.seat i).core = (afterRemoval present (q.seat i)).core
  others : ∀ j, j ≠ i → (x.seat j).uncarded.core = (q.seat j).uncarded.core
  screens : ∀ j, x.standing (.screen j) = q.standing (.screen j)
  unbinding : Unbinding i q x
  kept : KeptBut [.floor, .log, .seats, .screens, .sequencer, .marks] q x
  quiet : q.AloneWithCard i → x.floor = (endFloorEntry .cardOut i q).floor ∧ x.log = (endFloorEntry .cardOut i q).log
    ∧ (x.seat i).refusal = ((endFloorEntry .cardOut i q).seat i).refusal

theorem change_removal {i : SeatId} {present : Bool} {q : State} {g : State → State} (hg : g q = removal i present q)
    (hs : q.floor.Sound) (hp : (q.seat i).presence = .present ∧ (q.seat i).missCount = 0)
    (hout : (g q).outer = q.outer) : CardRemoved i present q (change g q) := by
  have hchange : change g q = finishChange false q (removal i present q) := by rw [← hg]; rfl
  have hself := removal_seat i present q
  have hother (j : SeatId) (hj : j ≠ i) := removal_other i present q hj
  obtain ⟨hscreens, hfloor, hseq⟩ := removal_fields i present q
  have hregiven (h : q.AloneWithCard i) : Regiven i (endFloorEntry .cardOut i q) (removal i present q) :=
    removal_regiven hp h
  have hoff : OffFloor i (endFloorEntry .cardOut i q) := endFloorEntry_offFloor hs .cardOut i
  have hsteady := endFloorEntry_steady .cardOut i q
  rw [hg] at hout
  rw [hchange]
  generalize removal i present q = u at *
  have hhand (j : SeatId) : ((finishChange false q u).seat j).core = (u.seat j).core :=
    (SeatRec.HandedOn.finishChange false q u j).core
  have hfin : (finishChange false q u).floor = (roleConsequences q u).floor
      ∧ (finishChange false q u).log = (roleConsequences q u).log
      ∧ ((finishChange false q u).seat i).refusal = ((roleConsequences q u).seat i).refusal :=
    ⟨finishChange_floor false q u, finishChange_log false q u, finishChange_refusal false q u i⟩
  have hstand := finishChange_standing false q u
  have hqx : (finishChange false q u).seq = u.seq := seq_finishChange false q u
  have houter : (finishChange false q u).outer = u.outer := outer_finishChange false q u
  generalize finishChange false q u = x at *
  refine ⟨(hhand i).trans (congrArg SeatRec.core hself :), fun j hj => ?_, fun j => ?_, ?_,
    keptBut_of_outer (houter.trans hout), fun halone => ?_⟩
  · have h1 : (x.seat j).uncarded.core = (u.seat j).uncarded.core := (congrArg SeatRec.uncarded (hhand j) :)
    rw [h1, hother j hj]
    exact (congrArg SeatRec.core (removeCard_other i q) :)
  · exact (hstand _).trans (congrArg (fun w : Vector ScreenRec 4 => (w[j].presence, w[j].missCount)) hscreens)
  · refine (removeCard_unbinding i q).congr (fun _ => rfl) rfl (fun j hj => ?_) (hqx.trans hseq)
    have h1 : (x.seat j).card = (u.seat j).card := (congrArg SeatRec.card (hhand j) :)
    rw [h1, hother j hj]
  · have hr := hregiven halone
    have hcons : roleConsequences q u = u := by
      rw [roleConsequences_congr (fun j => (hsteady.roleKey j).symm) (fun j => (hsteady.boundAttendee j).symm)]
      cases ho : (endFloorEntry .cardOut i q).floor.isOpen with
      | true => exact hr.consequences_idle ho hoff.speaking hoff.requesting
      | false => exact roleConsequences_of_closed (by rw [hr.floor]; exact ho) _
    obtain ⟨hf, hl, hrf⟩ := hfin
    rw [hcons] at hf hl hrf
    exact ⟨hf.trans hr.floor, hl.trans hr.log, hrf.trans hr.refusal⟩

end Sys2Proof.Machine
end

section
/-! The card fields of a poll answer without key presses (R78, R81, R183 step 3). -/

open Sys2Proof Sys2Proof.Machine

namespace Sys2Proof.Machine

/-! ## Card events that change no role (R78) -/

/-- The card fields remove a card that has been read (R81). -/
def Removes (present seen : Bool) (c : CardPart) : Prop :=
  c.state ≠ .none ∧ c.state ≠ .reading ∧ (present = false ∨ seen = true)

/-- What the card fields write of the record of a seat with card part `c` where they remove no read card. -/
def quietWrite (present seen : Bool) (c : CardPart) (r : SeatRec) : SeatRec :=
  if c.state = .none then
    if present = false then { r with card := { c with unreadable := false } }
    else if seen = true ∨ c.unreadable = false then r.inserted else r
  else if c.state = .reading ∧ present = false then { r with card := CardPart.empty, fetchMark := false }
  else r

theorem quietWrite_core (present seen : Bool) (c : CardPart) (r : SeatRec) :
    (quietWrite present seen c r).core = quietWrite present seen c r.core := by
  unfold quietWrite
  repeat' split
  all_goals rfl

/-- A card part that is no card stays none for the floor. -/
theorem quietWrite_floorAlike (present seen : Bool) (r : SeatRec) :
    r.FloorAlike (quietWrite present seen r.card r) := by
  have hsame {c : CardPart} {m : Bool} (h : noCard r.card = true) (hc : noCard c = true) :
      r.FloorAlike { r with card := c, fetchMark := m } := by
    refine ⟨rfl, rfl, ?_, rfl, rfl⟩
    unfold CardPart.onFloor
    rw [h]
    show (if noCard c = true then _ else _) = _
    rw [hc, if_pos rfl, if_pos rfl]
  have hrefl : r.FloorAlike r := ⟨rfl, rfl, rfl, rfl, rfl⟩
  unfold quietWrite
  split
  · next h =>
    have hno : noCard r.card = true := noCard_iff.mpr (.inl h)
    split
    · exact hsame hno (noCard_iff.mpr (.inl h))
    · split
      · exact inserted_floorAlike hno
      · exact hrefl
  · split
    · next h => exact hsame (noCard_iff.mpr (.inr h.1)) rfl
    · exact hrefl

theorem modSeat_congr {i : SeatId} {q : State} {f g : SeatRec → SeatRec} (h : f (q.seat i) = g (q.seat i)) :
    q.modSeat i f = q.modSeat i g := by
  have h' : f q.seats[i] = g q.seats[i] := h
  unfold State.modSeat
  rw [h']

theorem modSeat_id (i : SeatId) (q : State) : q.modSeat i id = q := by
  unfold State.modSeat
  exact congrArg q.setSeats (by simp)

theorem modSeat_modSeat (i : SeatId) (q : State) (f g : SeatRec → SeatRec) :
    (q.modSeat i f).modSeat i g = q.modSeat i (g ∘ f) := by
  unfold State.modSeat
  simp [State.setSeats]

theorem takeCard_quiet {i : SeatId} {present seen : Bool} {q : State} (h : ¬ Removes present seen (q.seat i).card) :
    takeCard i present seen q = q.modSeat i (quietWrite present seen (q.seat i).card) := by
  have hsame (hw : quietWrite present seen (q.seat i).card (q.seat i) = q.seat i) :
      q = q.modSeat i (quietWrite present seen (q.seat i).card) := by
    rw [modSeat_congr (g := id) hw, modSeat_id]
  unfold takeCard
  dsimp only
  split
  · next hc =>
    cases present with
    | false =>
      rw [Bool.not_false, if_pos rfl]
      refine modSeat_congr ?_
      simp [quietWrite, hc]
    | true =>
      rw [Bool.not_true, if_neg Bool.false_ne_true]
      split
      · next hev =>
        have hins : seen = true ∨ (q.seat i).card.unreadable = false := by simpa using hev
        rw [insertCard_eq]
        refine modSeat_congr ?_
        unfold quietWrite
        rw [if_pos hc, if_neg nofun, if_pos hins]
      · next hev =>
        have hleft : ¬ (seen = true ∨ (q.seat i).card.unreadable = false) := by simpa using hev
        refine hsame ?_
        unfold quietWrite
        rw [if_pos hc, if_neg nofun, if_neg hleft]
  · next hc =>
    cases present with
    | false =>
      rw [if_neg Bool.false_ne_true]
      unfold setFetchMark modCard
      rw [modSeat_modSeat]
      refine modSeat_congr ?_
      simp [quietWrite, hc]
    | true =>
      rw [if_pos rfl]
      exact hsame (by simp [quietWrite, hc])
  · next hn hr =>
    have hkeep : present = true ∧ seen = false := by
      have := not_and.mp (not_and.mp h hn) hr
      simpa using this
    obtain ⟨rfl, rfl⟩ := hkeep
    refine hsame ?_
    unfold quietWrite
    rw [if_neg hn, if_neg fun h => hr h.1]

/-! ## The answer -/

section answer
variable {i : SeatId} {probe : Bool} {s : State} {f : PollFields}

/-- The card fields of an answer bring an event (R168). -/
def cardEvent (r : SeatRec) (f : PollFields) : Bool :=
  changeSeen r f.card || cardThere r.card != f.cardPresent

/-- An answer without key presses, of a seat that is in service and does not return. -/
structure CardsOnly (i : SeatId) (f : PollFields) (s : State) : Prop where
  serv : inService (s.seat i).presence = true
  kind : (s.seat i).kind = some f.kind
  fresh : f.fresh = true → (s.seat i).confirmOutstanding = true
  mic : (s.seat i).heldMic = some f.mic ∧ f.mic < 4
  next : (s.seat i).heldNext = some f.next ∧ f.next < 4
  priority : f.priority = (s.seat i).heldPriority

/-- The state in which the card count of such an answer is held, before its card is taken. -/
structure CardHeld (i : SeatId) (probe : Bool) (f : PollFields) (s q : State) : Prop where
  part : PartTaken i (cardEvent (s.seat i) f) (holdCard f.card ∘ SeatRec.found)
    (s.polled (lineOfSeat i) (positionOfSeat i) probe) q
  alike : Alike s q
  answered : s.answered i probe f
    = takeKeys i f (change (takeCard i f.cardPresent (changeSeen (s.seat i) f.card)) q)

theorem CardsOnly.held (h : CardsOnly i f s) (probe : Bool) : ∃ q, CardHeld i probe f s q := by
  obtain ⟨u, hclean, haclean, htake⟩ := takePoll_clean (probe := probe) h.serv h.kind h.fresh (positionOfSeat i)
  have hread : (u.seat i).heldCard = (s.seat i).heldCard ∧ (u.seat i).card = (s.seat i).card := by
    rw [← polled_seat (lineOfSeat i) (positionOfSeat i) probe s i]
    exact ⟨(congrArg SeatRec.heldCard hclean.self :), (congrArg SeatRec.card hclean.self :)⟩
  obtain ⟨hcount, hcard⟩ := hread
  have hseen : changeSeen (u.seat i) f.card = changeSeen (s.seat i) f.card := by simp only [changeSeen, hcount]
  have hevent : (changeSeen (s.seat i) f.card || cardThere (u.seat i).card != f.cardPresent)
      = cardEvent (s.seat i) f := by rw [hcard, cardEvent]
  rw [takeCardFields_eq, hseen, hevent] at htake
  refine ⟨_, ?_,
    haclean.trans (held_alike i _ (write := holdCard f.card) (fun _ => ⟨rfl, rfl, rfl, rfl, rfl⟩) u), htake⟩
  have hpart := hclean.trans (held_taken i (cardEvent (s.seat i) f) (write := holdCard f.card) (fun _ => rfl) u)
  rwa [Bool.false_or] at hpart

/-- The keys of such an answer leave all but what they hold. -/
theorem CardsOnly.keys {x : State} (h : CardsOnly i f s) (hx : (x.seat i).heldMic = (s.seat i).heldMic
    ∧ (x.seat i).heldNext = (s.seat i).heldNext ∧ (x.seat i).heldPriority = (s.seat i).heldPriority) :
    PartTaken i false (keysHeld f) x (takeKeys i f x) ∧ Alike x (takeKeys i f x) := by
  obtain ⟨hkeys, hakeys⟩ := takeKeys_taken i f x
  obtain ⟨hm, hn, hp⟩ := hx
  obtain ⟨hm', hm4⟩ := h.mic
  obtain ⟨hn', hn4⟩ := h.next
  have hzero (n : Nat) (hn : n < 4) : presses (some n) n = 0 := by
    show (n + 4 - n) % 4 = 0
    omega
  rw [hm, hn, hp, hm', hn', ← h.priority, hzero _ hm4, hzero _ hn4] at hkeys hakeys
  have hnone : (decide ((0 : Nat) ≠ 0) || decide ((0 : Nat) ≠ 0) || decide (f.priority ≠ f.priority)) = false := by
    simp
  rw [hnone] at hkeys
  refine ⟨hkeys, ?_⟩
  unfold keyEvents priorityEvent at hakeys
  rwa [if_pos rfl] at hakeys

/-- An answer that removes no read card: the seat's record alone is written. -/
theorem CardsOnly.quiet (h : CardsOnly i f s) (probe : Bool)
    (hno : ¬ Removes f.cardPresent (changeSeen (s.seat i) f.card) (s.seat i).card) :
    PartTaken i (cardEvent (s.seat i) f) (keysHeld f
        ∘ quietWrite f.cardPresent (changeSeen (s.seat i) f.card) (s.seat i).card ∘ holdCard f.card ∘ SeatRec.found)
      (s.polled (lineOfSeat i) (positionOfSeat i) probe) (s.answered i probe f)
      ∧ Alike s (s.answered i probe f) := by
  obtain ⟨q, hq, haq, hans⟩ := h.held probe
  set seen := changeSeen (s.seat i) f.card
  have hcard : (q.seat i).card = (s.seat i).card := by
    rw [← polled_seat (lineOfSeat i) (positionOfSeat i) probe s i]
    exact (congrArg SeatRec.card hq.self :)
  obtain ⟨hx, hax⟩ := change_of_floorAlike (quietWrite_floorAlike f.cardPresent seen (q.seat i))
    (quietWrite_core ..) (takeCard_quiet (present := f.cardPresent) (seen := seen) (by rw [hcard]; exact hno))
  rw [hcard] at hx
  have hqx := hq.trans hx
  generalize change (takeCard i f.cardPresent seen) q = x at hans hqx hax
  have hwrote (r : SeatRec) : (quietWrite f.cardPresent seen (s.seat i).card r).heldMic = r.heldMic
      ∧ (quietWrite f.cardPresent seen (s.seat i).card r).heldNext = r.heldNext
      ∧ (quietWrite f.cardPresent seen (s.seat i).card r).heldPriority = r.heldPriority := by
    unfold quietWrite
    repeat' split
    all_goals exact ⟨rfl, rfl, rfl⟩
  have hself := hqx.self
  rw [polled_seat] at hself
  obtain ⟨h1, h2, h3⟩ := hwrote (holdCard f.card (s.seat i).core.found)
  obtain ⟨hkeys, hakeys⟩ := h.keys (x := x) ⟨(congrArg SeatRec.heldMic hself).trans h1,
    (congrArg SeatRec.heldNext hself).trans h2, (congrArg SeatRec.heldPriority hself).trans h3⟩
  rw [hans]
  refine ⟨?_, (haq.trans hax).trans hakeys⟩
  have hall := hqx.trans hkeys
  rwa [Bool.or_false, Bool.or_false] at hall

theorem afterRemoval_core (present : Bool) {r r' : SeatRec} (h : r'.core = r.core) :
    (afterRemoval present r').core = (afterRemoval present r).core := by
  have hcard (x : SeatRec) : (afterRemoval present x).core = afterRemoval present x.core := by
    unfold afterRemoval
    split <;> rfl
  rw [hcard, hcard, h]

/-- An answer that removes a read card, with the insertion of the next one where a card is there. -/
structure AnswerRemoves (i : SeatId) (f : PollFields) (s w : State) : Prop where
  answer : AnswerTaken i (cardEvent (s.seat i) f) s w
  self : (w.seat i).core = (keysHeld f (afterRemoval f.cardPresent (holdCard f.card (s.seat i).found))).core
  unbinding : Unbinding i s w
  quiet : s.AloneWithCard i → w.floor = (endFloorEntry .cardOut i s).floor ∧ w.log = (endFloorEntry .cardOut i s).log
    ∧ (w.seat i).refusal = ((endFloorEntry .cardOut i s).seat i).refusal

theorem CardsOnly.removes (h : CardsOnly i f s) (probe : Bool) (hs : s.floor.Sound)
    (hre : Removes f.cardPresent (changeSeen (s.seat i) f.card) (s.seat i).card) :
    AnswerRemoves i f s (s.answered i probe f) := by
  obtain ⟨q, hq, haq, hans⟩ := h.held probe
  set v := s.polled (lineOfSeat i) (positionOfSeat i) probe with hv
  set seen := changeSeen (s.seat i) f.card
  have hvseat (j : SeatId) : v.seat j = s.seat j := polled_seat _ _ probe s j
  have hself := hq.self
  rw [hvseat] at hself
  have hcards (j : SeatId) : (q.seat j).card = (s.seat j).card := by
    by_cases hj : j = i
    · rw [hj]
      exact (congrArg SeatRec.card hself :)
    · rw [← hvseat j]
      exact (congrArg SeatRec.card (hq.others j hj) :)
  have hqv : q.seq = v.seq := hq.kept.same .sequencer (by cases lineOfSeat i <;> decide)
  have hvs : v.seq = s.seq := (polled_kept _ _ probe s).same .sequencer (by cases lineOfSeat i <;> decide)
  have hstand : (q.seat i).presence = .present ∧ (q.seat i).missCount = 0 :=
    ⟨(congrArg SeatRec.presence hself :), (congrArg SeatRec.missCount hself :)⟩
  obtain ⟨hn, hr, hwhy⟩ := hre
  rw [← hcards i] at hn hr
  have hx := change_removal (takeCard_removal hn hr hwhy) (by rw [haq.floor]; exact hs) hstand
    (outer_takeCard i f.cardPresent seen q)
  generalize change (takeCard i f.cardPresent seen) q = x at hans hx
  have hxcore : (x.seat i).core = (afterRemoval f.cardPresent (holdCard f.card (s.seat i).found)).core := by
    rw [hx.self]
    exact afterRemoval_core f.cardPresent hself
  have hwrote (r : SeatRec) : (afterRemoval f.cardPresent r).heldMic = r.heldMic
      ∧ (afterRemoval f.cardPresent r).heldNext = r.heldNext
      ∧ (afterRemoval f.cardPresent r).heldPriority = r.heldPriority := by
    unfold afterRemoval
    split <;> exact ⟨rfl, rfl, rfl⟩
  obtain ⟨h1, h2, h3⟩ := hwrote (holdCard f.card (s.seat i).found)
  obtain ⟨hkeys, hakeys⟩ := h.keys (x := x) ⟨(congrArg SeatRec.heldMic hxcore :).trans h1,
    (congrArg SeatRec.heldNext hxcore :).trans h2, (congrArg SeatRec.heldPriority hxcore :).trans h3⟩
  rw [← hans] at hkeys hakeys
  generalize s.answered i probe f = w at hkeys hakeys
  have hwcore : (w.seat i).core
      = (keysHeld f (afterRemoval f.cardPresent (holdCard f.card (s.seat i).found))).core := by
    rw [hkeys.self, hxcore]
    rfl
  have hwseq : w.seq = x.seq := hkeys.kept.same .sequencer (by cases lineOfSeat i <;> decide)
  have hwp : (keysHeld f (afterRemoval f.cardPresent (holdCard f.card (s.seat i).found))).presence = .present
      ∧ (keysHeld f (afterRemoval f.cardPresent (holdCard f.card (s.seat i).found))).missCount = 0 := by
    unfold afterRemoval
    split <;> exact ⟨rfl, rfl⟩
  have hbetween : Between i q x := ⟨hx.others, hx.screens, hx.kept⟩
  have hanswer := hbetween.answerTaken hq hkeys
    ⟨(congrArg SeatRec.presence hwcore :).trans hwp.1, (congrArg SeatRec.missCount hwcore :).trans hwp.2⟩
  rw [Bool.or_false] at hanswer
  refine ⟨hanswer, hwcore, ?_, fun halone => ?_⟩
  · exact hx.unbinding.congr (fun j => (hcards j).symm) (hqv.trans hvs).symm
      (fun j hj => (congrArg SeatRec.card (hkeys.others j hj) :)) hwseq
  · have hqalone : q.AloneWithCard i := by
      simp only [State.AloneWithCard, State.Twin, State.rosterEntry, hcards, hqv, hvs]
      exact halone
    obtain ⟨hf, hl, hrf⟩ := hx.quiet hqalone
    have hend := haq.endFloorEntry .cardOut i
    exact ⟨hakeys.floor.trans (hf.trans hend.floor), hakeys.log.trans (hl.trans hend.log),
      (hakeys.refusal i).trans (hrf.trans (hend.refusal i))⟩

end answer

end Sys2Proof.Machine
end

section
/-! The card of a poll answer at the end of its poll (R78, R80, R81, R168). -/

open Sys2Proof Sys2Proof.Machine

namespace Sys2Proof.Machine

theorem Closed.ofFloor {e : SpeakerEntry} {r : CloseReason} {s v t : State} (h : Closed e r s v)
    (hf : t.floor = v.floor) (hl : t.log = v.log) : Closed e r s t where
  log := hl.trans h.log
  gone := (speaking_of_floor hf e.seat).trans h.gone
  quiet hq := hf.trans (h.quiet hq)
  advance := by
    rw [hf]
    exact h.advance

/-- The end of a seat's floor entry, as the floor, the log and the seat's refusal code show it (R11, R81). -/
theorem endFloorEntry_ends {s t : State} {i : SeatId} {r : CloseReason} (hs : s.floor.Sound)
    (hf : t.floor = (endFloorEntry r i s).floor) (hl : t.log = (endFloorEntry r i s).log)
    (hr : (t.seat i).refusal = ((endFloorEntry r i s).seat i).refusal) :
    (∀ e ∈ s.floor.speakers, e.seat = i → Closed e r s t)
      ∧ (s.requesting i = true → Withdrawn i none s t)
      ∧ (s.speaking i = false → s.requesting i = false → t.floor = s.floor ∧ t.log = s.log) := by
  refine ⟨fun e he hi => ?_, fun hrq => ?_, fun hsp hrq => ?_⟩
  · subst hi
    have hsp : s.speaking e.seat = true := (speaking_iff s e.seat).mpr ⟨e, he, rfl⟩
    have hend : endFloorEntry r e.seat s = closeAdvance r e.seat s := if_pos hsp
    rw [hend] at hf hl
    exact (closeAdvance_closed hs he r).ofFloor hf hl
  · have hsp : s.speaking i = false := by
      rw [← Bool.not_eq_true, speaking_iff]
      rintro ⟨e, he, rfl⟩
      obtain ⟨q, hq, hqe⟩ := (requesting_iff s e.seat).mp hrq
      exact hs.requester_not_speaker hq he hqe.symm
    have hend : endFloorEntry r i s = withdrawSeat i s := if_neg (ne_true_of_eq_false hsp)
    rw [hend] at hf hl hr
    refine ⟨hf.trans (withdrawSeat_floor i s), hr.trans ?_, hl.trans (withdrawSeat_log i s)⟩
    rw [withdrawSeat_refusal, if_pos ⟨hrq, rfl⟩]
  · rw [endFloorEntry_offFloor_same ⟨hsp, hrq⟩] at hf hl
    exact ⟨hf, hl⟩

/-- A fetch mark, or the FETCH that has taken it up (R79, R193). -/
theorem onward_fetchMark (w : State) (l : LineId) (i : SeatId) :
    ((w.seat i).fetchMark = true → ((w.onward l).seat i).fetchMark = true
        ∨ ((w.onward l).line l).activity = .exchange (.fetch i))
      ∧ ((w.seat i).fetchMark = false → ((w.onward l).seat i).fetchMark = false) := by
  rw [State.onward_seat, State.onward_line]
  rcases nextExchange_fetchMark l w i with h | ⟨h, hact⟩
  · rw [h]
    exact ⟨.inl, id⟩
  · exact ⟨fun _ => .inr hact, fun _ => h⟩

theorem onward_card (w : State) (l : LineId) (j : SeatId) : ((w.onward l).seat j).card = (w.seat j).card :=
  (congrArg SeatRec.card (onward_lasting w l j) :)

theorem onward_seq (w : State) (l : LineId) : (w.onward l).seq = w.seq :=
  (w.onward_kept l).same .sequencer (by cases l <;> decide)

theorem onward_log (w : State) (l : LineId) : (w.onward l).log = w.log :=
  (w.onward_kept l).same .log (by cases l <;> decide)

theorem onward_heldCard (w : State) (l : LineId) (j : SeatId) :
    ((w.onward l).seat j).heldCard = (w.seat j).heldCard := (congrArg SeatRec.heldCard (onward_lasting w l j) :)

theorem changeSeen_of_held {r : SeatRec} {m : Nat} (h : r.heldCard = some m) (n : Nat) :
    changeSeen r n = decide (n ≠ m) := by simp [changeSeen, h, eq_comm, bne, beq_eq_decide]

section cards
variable {i : SeatId} {probe : Bool} {s : State} {f : PollFields}

/-- A seat has a card that has just come (R78). -/
def Inserted (i : SeatId) (t : State) : Prop := (t.seat i).card = { CardPart.empty with state := .reading }
  ∧ ((t.seat i).fetchMark = true ∨ (t.line (lineOfSeat i)).activity = .exchange (.fetch i))

theorem inserted_onward {w : State} {r : SeatRec} (h : (w.seat i).core = (keysHeld f r.inserted).core) :
    Inserted i (w.onward (lineOfSeat i)) :=
  ⟨(onward_card w _ i).trans (congrArg SeatRec.card h :),
    (onward_fetchMark w _ i).1 (congrArg SeatRec.fetchMark h :)⟩

/-- The part of an answer's card that is alike for every card. -/
theorem CardsOnly.answer (h : CardsOnly i f s) (probe : Bool) (hs : s.floor.Sound) :
    AnswerTaken i (cardEvent (s.seat i) f) s (s.answered i probe f)
      ∧ ((s.answered i probe f).seat i).heldCard = some f.card := by
  by_cases hre : Removes f.cardPresent (changeSeen (s.seat i) f.card) (s.seat i).card
  · obtain ⟨hans, hself, _, _⟩ := h.removes probe hs hre
    refine ⟨hans, (congrArg SeatRec.heldCard hself :).trans ?_⟩
    unfold afterRemoval
    split <;> rfl
  · obtain ⟨hpart, _⟩ := h.quiet probe hre
    have hkeep (r : SeatRec) : (quietWrite f.cardPresent (changeSeen (s.seat i) f.card) (s.seat i).card r).presence
        = r.presence ∧ (quietWrite f.cardPresent (changeSeen (s.seat i) f.card) (s.seat i).card r).missCount
        = r.missCount ∧ (quietWrite f.cardPresent (changeSeen (s.seat i) f.card) (s.seat i).card r).heldCard
        = r.heldCard := by
      unfold quietWrite
      repeat' split
      all_goals exact ⟨rfl, rfl, rfl⟩
    refine ⟨hpart.answerTaken fun r => ?_, ?_⟩
    · obtain ⟨h1, h2, _⟩ := hkeep (holdCard f.card r.found)
      exact ⟨h1, h2⟩
    · obtain ⟨_, _, h3⟩ := hkeep (holdCard f.card ((s.polled _ _ probe).seat i).core.found)
      exact (congrArg SeatRec.heldCard hpart.self).trans h3

/-- An answer that removes no read card leaves the floor, the log and the roster. -/
theorem CardsOnly.quiet_onward (h : CardsOnly i f s) (probe : Bool)
    (hno : ¬ Removes f.cardPresent (changeSeen (s.seat i) f.card) (s.seat i).card) :
    let w := s.answered i probe f
    let t := w.onward (lineOfSeat i)
    (t.floor = s.floor ∧ t.log = s.log ∧ t.seq = s.seq)
      ∧ (w.seat i).core = (keysHeld f (quietWrite f.cardPresent (changeSeen (s.seat i) f.card) (s.seat i).card
        (holdCard f.card (s.seat i).found))).core := by
  intro w t
  obtain ⟨hpart, halike⟩ := h.quiet probe hno
  have hpseq : w.seq = (s.polled (lineOfSeat i) (positionOfSeat i) probe).seq :=
    hpart.kept.same .sequencer (by cases lineOfSeat i <;> decide)
  have hsseq : (s.polled (lineOfSeat i) (positionOfSeat i) probe).seq = s.seq :=
    (polled_kept _ _ probe s).same .sequencer (by cases lineOfSeat i <;> decide)
  refine ⟨⟨(w.onward_floor _).trans halike.floor, (onward_log w _).trans halike.log,
    (onward_seq w _).trans (hpseq.trans hsseq)⟩, ?_⟩
  have hself := hpart.self
  rw [polled_seat] at hself
  have hcore := quietWrite_core f.cardPresent (changeSeen (s.seat i) f.card) (s.seat i).card
    (holdCard f.card (s.seat i).found)
  exact hself.trans (congrArg (keysHeld f) hcore.symm)

/-- The card part of a record that the keys and the card count are written to. -/
theorem onward_written {w : State} {g : SeatRec → SeatRec} (h : (w.seat i).core = (keysHeld f (g (holdCard f.card
    (s.seat i).found))).core) : ((w.onward (lineOfSeat i)).seat i).card = (g (holdCard f.card (s.seat i).found)).card :=
  (onward_card w _ i).trans (congrArg SeatRec.card h :)

section quiet
variable (h : CardsOnly i f s) (probe : Bool)
include h

/-- At NONE a card is an insertion, but for one found unreadable and not changed since (R78). -/
theorem CardsOnly.none_onward (hc : (s.seat i).card.state = .none) :
    let t := (s.answered i probe f).onward (lineOfSeat i)
    t.floor = s.floor ∧ t.log = s.log ∧ t.seq = s.seq
      ∧ (f.cardPresent = true → (changeSeen (s.seat i) f.card = true ∨ (s.seat i).card.unreadable = false) →
        Inserted i t)
      ∧ (f.cardPresent = true → changeSeen (s.seat i) f.card = false → (s.seat i).card.unreadable = true →
        (t.seat i).card = (s.seat i).card)
      ∧ (f.cardPresent = false → (t.seat i).card = { (s.seat i).card with unreadable := false }) := by
  intro t
  obtain ⟨⟨hfl, hlg, hsq⟩, hcore⟩ := h.quiet_onward probe fun hr => hr.1 hc
  unfold quietWrite at hcore
  rw [if_pos hc] at hcore
  refine ⟨hfl, hlg, hsq, fun hp hins => ?_, fun hp h0 hun => ?_, fun hp => ?_⟩
  · rw [hp, if_neg nofun, if_pos hins] at hcore
    exact inserted_onward hcore
  · rw [hp, h0, hun, if_neg nofun, if_neg (by simp)] at hcore
    exact onward_written (g := id) hcore
  · rw [if_pos hp] at hcore
    exact onward_written (g := fun r => { r with card := { (s.seat i).card with unreadable := false } }) hcore

/-- At READING an absent card is NONE again, and a change seen is nothing (R78). -/
theorem CardsOnly.reading_onward (hc : (s.seat i).card.state = .reading) :
    let t := (s.answered i probe f).onward (lineOfSeat i)
    t.floor = s.floor ∧ t.log = s.log ∧ t.seq = s.seq
      ∧ (f.cardPresent = true → (t.seat i).card = (s.seat i).card)
      ∧ (f.cardPresent = false → (t.seat i).card = CardPart.empty ∧ (t.seat i).fetchMark = false) := by
  intro t
  have hn : (s.seat i).card.state ≠ .none := by rw [hc]; decide
  obtain ⟨⟨hfl, hlg, hsq⟩, hcore⟩ := h.quiet_onward probe fun hr => hr.2.1 hc
  unfold quietWrite at hcore
  rw [if_neg hn] at hcore
  refine ⟨hfl, hlg, hsq, fun hp => ?_, fun hp => ?_⟩
  · rw [if_neg (by simp [hp])] at hcore
    exact onward_written (g := id) hcore
  · rw [if_pos ⟨hc, hp⟩] at hcore
    exact ⟨onward_written (g := fun r => { r with card := CardPart.empty, fetchMark := false }) hcore,
      (onward_fetchMark _ _ i).2 (congrArg SeatRec.fetchMark hcore :)⟩

/-- A read card that is there and has not changed is left as it is. -/
theorem CardsOnly.read_onward (hn : (s.seat i).card.state ≠ .none) (hr : (s.seat i).card.state ≠ .reading)
    (hp : f.cardPresent = true) (h0 : changeSeen (s.seat i) f.card = false) :
    let t := (s.answered i probe f).onward (lineOfSeat i)
    t.floor = s.floor ∧ t.log = s.log ∧ t.seq = s.seq ∧ (t.seat i).card = (s.seat i).card := by
  intro t
  obtain ⟨⟨hfl, hlg, hsq⟩, hcore⟩ := h.quiet_onward probe fun hr => by simpa [hp, h0] using hr.2.2
  unfold quietWrite at hcore
  rw [if_neg hn, if_neg fun hc => hr hc.1] at hcore
  exact ⟨hfl, hlg, hsq, onward_written (g := id) hcore⟩

/-- A read card that is absent, or has changed, is removed; a change is then an insertion (R81). -/
theorem CardsOnly.removed_onward (hs : s.floor.Sound)
    (hre : Removes f.cardPresent (changeSeen (s.seat i) f.card) (s.seat i).card) :
    let t := (s.answered i probe f).onward (lineOfSeat i)
    (f.cardPresent = false → (t.seat i).card = CardPart.empty) ∧ (f.cardPresent = true → Inserted i t)
      ∧ Unbinding i s t
      ∧ (s.AloneWithCard i → (∀ e ∈ s.floor.speakers, e.seat = i → Closed e .cardOut s t)
        ∧ (s.requesting i = true → Withdrawn i none s t)
        ∧ (s.speaking i = false → s.requesting i = false → t.floor = s.floor ∧ t.log = s.log)) := by
  intro t
  obtain ⟨_, hcore, hun, hquiet⟩ := h.removes probe hs hre
  refine ⟨fun hp => ?_, fun hp => ?_, hun.congr (fun _ => rfl) rfl (fun j _ => onward_card _ _ j) (onward_seq _ _),
    fun halone => ?_⟩
  · unfold afterRemoval at hcore
    rw [if_neg (by simp [hp])] at hcore
    exact onward_written (g := fun r => { r with card := CardPart.empty }) hcore
  · unfold afterRemoval at hcore
    rw [if_pos hp] at hcore
    exact inserted_onward hcore
  · obtain ⟨hf, hl, hr⟩ := hquiet halone
    obtain ⟨m, g, hseat⟩ := (s.answered i probe f).onward_seats (lineOfSeat i) i
    exact endFloorEntry_ends hs (((s.answered i probe f).onward_floor _).trans hf) ((onward_log _ _).trans hl)
      ((congrArg SeatRec.refusal hseat).trans hr)

end quiet

end cards

end Sys2Proof.Machine
end

section
/-! The urgent orders of a line come to an end: while a CONFIRM is pending there, one of them is sent (R63 to R65,
R191, R194). -/

open Sys2Proof Sys2Proof.Machine

namespace Sys2Proof.Machine

/-! ## How often a seat's level orders can be dropped -/

/-- A GAIN order of a seat would be sent: target and sent are different gains (R64). -/
def SeatRec.ramps (r : SeatRec) : Bool :=
  match r.targetMic, r.sentMic with
  | .gain g, some (.gain h) => g != h
  | _, _ => false

/-- A bound on the level orders of a seat that can be dropped one after another: a MIC order dropped marks a GAIN order
only where that is sent, and a GAIN order dropped may mark a MIC order (R63, R64). -/
def SeatRec.drops (r : SeatRec) : Nat :=
  r.marks.speaker.toNat + r.marks.mic.toNat + if r.ramps then 0 else 2 * r.marks.gain.toNat

theorem drops_le (r : SeatRec) : r.drops ≤ 4 := by
  unfold SeatRec.drops
  have h1 := Bool.toNat_le r.marks.speaker
  have h2 := Bool.toNat_le r.marks.mic
  have h3 := Bool.toNat_le r.marks.gain
  split <;> omega

/-- A record whose marks alone are written drops as its own levels say. -/
theorem drops_marks (r : SeatRec) (m : SeatPending) : { r with marks := m }.drops
    = m.speaker.toNat + m.mic.toNat + if r.ramps then 0 else 2 * m.gain.toNat := rfl

theorem chooseSpeaker_drops {r : SeatRec} (hm : r.marks.speaker = true) :
    (chooseSpeaker r).2.drops < r.drops := by
  have hdrop : (chooseSpeaker r).2 = { r with marks := { r.marks with speaker := false } } := by
    unfold chooseSpeaker
    dsimp only
    split <;> rfl
  rw [hdrop, drops_marks, SeatRec.drops, hm]
  simp only [Bool.toNat_false, Bool.toNat_true]
  omega

theorem chooseMic_drops {r : SeatRec} (hm : r.marks.mic = true) (h : (chooseMic r).1 = none) :
    (chooseMic r).2.drops < r.drops := by
  have hclear : { r with marks := { r.marks with mic := false } }.drops < r.drops := by
    rw [drops_marks, SeatRec.drops, hm]
    simp only [Bool.toNat_false, Bool.toNat_true]
    omega
  unfold chooseMic at h ⊢
  dsimp only at h ⊢
  split at h
  · exact hclear
  · cases h
  · next g g' ht hs =>
    split at h
    · next he =>
      rw [if_pos he]
      exact hclear
    · next he =>
      rw [if_neg he]
      have hramps : r.ramps = true := by simp [SeatRec.ramps, ht, hs, he]
      rw [drops_marks, SeatRec.drops, hramps, hm]
      simp only [Bool.toNat_false, Bool.toNat_true, if_true]
      omega
  · cases h

theorem chooseGain_drops {slew : Nat} {r : SeatRec} (hm : r.marks.gain = true) (hmic : r.marks.mic = false)
    (h : (chooseGain slew r).1 = none) : (chooseGain slew r).2.drops < r.drops := by
  unfold chooseGain at h ⊢
  dsimp only at h ⊢
  split at h
  · next g g' ht hs =>
    split at h
    · next he =>
      have hramps : r.ramps = false := by simp [SeatRec.ramps, ht, hs, he]
      rw [if_pos he, drops_marks, SeatRec.drops, hramps, hm]
      simp only [Bool.toNat_false, Bool.toNat_true, Bool.false_eq_true, if_false]
      omega
    · cases h
  · next hno =>
    have hramps : r.ramps = false := by
      unfold SeatRec.ramps
      split
      · next ht hs => exact absurd hs (hno _ _ ht)
      · rfl
    rw [drops_marks, SeatRec.drops, hramps, hm, hmic]
    simp only [Bool.toNat_false, Bool.toNat_true, Bool.false_eq_true, if_false]
    omega

/-! ## One urgent order -/

/-- A bound on the urgent orders that can be dropped one after another. -/
def State.drops (s : State) : Nat := ∑ i, (s.seat i).drops

theorem drops_le_256 (s : State) : s.drops ≤ 256 := by
  refine (Finset.sum_le_sum fun i _ => drops_le (s.seat i)).trans ?_
  simp

theorem drops_lt {s t : State} {i : SeatId} (hi : (t.seat i).drops < (s.seat i).drops)
    (h : ∀ j, j ≠ i → t.seat j = s.seat j) : t.drops < s.drops := by
  refine Finset.sum_lt_sum (fun j _ => ?_) ⟨i, Finset.mem_univ i, hi⟩
  by_cases hj : j = i
  · rw [hj]
    exact hi.le
  · rw [h j hj]

/-- The urgent kind of a seat is pending there, and MIC goes before GAIN (R194). -/
theorem urgentKind_seat_cases {s : State} {i : SeatId} {k : OrderKind} (h : s.urgentKind (.seat i) = some k) :
    k = .confirm ∨ (k = .speaker ∧ (s.seat i).marks.speaker = true) ∨ (k = .mic ∧ (s.seat i).marks.mic = true)
      ∨ (k = .gain ∧ (s.seat i).marks.gain = true ∧ (s.seat i).marks.mic = false) := by
  unfold State.urgentKind at h
  dsimp only at h
  split at h
  · exact .inl (Option.some.inj h).symm
  · split at h
    · next hm => exact .inr (.inl ⟨(Option.some.inj h).symm, hm⟩)
    · split at h
      · next hm => exact .inr (.inr (.inl ⟨(Option.some.inj h).symm, hm⟩))
      · next hno =>
        split at h
        · next hm => exact .inr (.inr (.inr ⟨(Option.some.inj h).symm, hm, by simpa using hno⟩))
        · cases h

theorem urgentKind_screen {s : State} {j : ScreenId} {k : OrderKind} (h : s.urgentKind (.screen j) = some k) :
    k = .confirm := by
  unfold State.urgentKind at h
  dsimp only at h
  split at h
  · exact (Option.some.inj h).symm
  · cases h

theorem modSeat_drops {s : State} {i : SeatId} {r : SeatRec} (h : r.drops < (s.seat i).drops) :
    (s.modSeat i fun _ => r).drops < s.drops :=
  drops_lt (i := i) (by rw [State.modSeat_seat_same]; exact h) fun j hj => by rw [State.modSeat_seat, if_neg hj]

/-- An urgent order that is dropped is a level order of a seat, and leaves fewer that can be dropped. -/
theorem formOrder_dropped {s : State} {u : Station} {k : OrderKind} (hk : s.urgentKind u = some k)
    (h : (formOrder u k s).1 = none) :
    (formOrder u k s).2.screens = s.screens ∧ (formOrder u k s).2.drops < s.drops := by
  cases u with
  | screen j =>
    rw [urgentKind_screen hk, formOrder_confirm] at h
    cases h
  | seat i =>
    rcases urgentKind_seat_cases hk with rfl | ⟨rfl, hm⟩ | ⟨rfl, hm⟩ | ⟨rfl, hm, hmic⟩
    · rw [formOrder_confirm] at h
      cases h
    · exact ⟨rfl, modSeat_drops (chooseSpeaker_drops hm)⟩
    · exact ⟨rfl, modSeat_drops (chooseMic_drops hm h)⟩
    · exact ⟨rfl, modSeat_drops (chooseGain_drops hm hmic h)⟩

/-- An urgent order never writes the item marks of a screen. -/
theorem formOrder_itemMarks {s : State} {u : Station} {k : OrderKind} (hk : s.urgentKind u = some k) (j : ScreenId) :
    ((formOrder u k s).2.screen j).itemMarks = (s.screen j).itemMarks := by
  have hconfirm (m : ScreenId) : ((putMark (.screen m) .confirm false s).screen j).itemMarks
      = (s.screen j).itemMarks := by
    refine (congrArg ScreenRec.itemMarks (State.modScreen_screen s m j _)).trans ?_
    split
    · next e => rw [e]
    · rfl
  cases u with
  | screen m =>
    rw [urgentKind_screen hk]
    exact hconfirm m
  | seat i =>
    rcases urgentKind_seat_cases hk with rfl | ⟨rfl, _⟩ | ⟨rfl, _⟩ | ⟨rfl, _, _⟩ <;> rfl

/-- While a CONFIRM is pending at a screen in service, an urgent order of its line is sent, and the screen's items stay
pending. -/
theorem serveUrgent_sends {j : ScreenId} {ptr : Nat → Line → Line} {p : Option Nat} (fuel : Nat) {s : State}
    (hfuel : s.drops < fuel) (hserv : inService (s.presence (.screen j)) = true)
    (hmark : (s.screen j).confirmMark = true) :
    (serveOrder State.urgentKind ptr (lineOfScreen j) p fuel s).1 = true
      ∧ ((serveOrder State.urgentKind ptr (lineOfScreen j) p fuel s).2.screen j).itemMarks
        = (s.screen j).itemMarks := by
  induction fuel generalizing s with
  | zero => omega
  | succ fuel ih =>
    have hclaim : (s.urgentKind (.screen j)).isSome = true := by simp [State.urgentKind, hmark]
    have hfound : ((s.inTurn (lineOfScreen j) p).find? fun u => (s.urgentKind u).isSome).isSome = true :=
      List.find?_isSome.mpr ⟨.screen j, mem_inTurn.mpr ⟨rfl, hserv⟩, hclaim⟩
    obtain ⟨u, hu⟩ := Option.isSome_iff_exists.mp hfound
    have hsome : (s.urgentKind u).isSome = true := List.find?_some (p := fun u => (s.urgentKind u).isSome) hu
    obtain ⟨k, hk⟩ := Option.isSome_iff_exists.mp hsome
    have hmod (v : State) (l : LineId) (f : Line → Line) (m : ScreenId) : (v.modLine l f).screen m = v.screen m := by
      unfold State.screen
      rw [State.modLine_screens]
    cases hc : (formOrder u k s).1 with
    | some c =>
      rw [serveOrder_of_sent hu hk hc]
      refine ⟨rfl, ?_⟩
      unfold putExchange
      rw [hmod, hmod]
      exact formOrder_itemMarks hk j
    | none =>
      obtain ⟨hscreens, hless⟩ := formOrder_dropped hk hc
      set t := (formOrder u k s).2.modLine (lineOfScreen j) (ptr (addressOf u)) with ht
      have hnext : serveOrder State.urgentKind ptr (lineOfScreen j) p (fuel + 1) s
          = serveOrder State.urgentKind ptr (lineOfScreen j) p fuel t := by
        simp only [serveOrder, hu, hk, hc, ht]
      have hscreen : t.screen j = s.screen j := by
        rw [ht, hmod]
        unfold State.screen
        rw [hscreens]
      have hdrops : t.drops = (formOrder u k s).2.drops := by
        unfold State.drops State.seat
        rw [ht, State.modLine_seats]
      have hserv' : inService (t.screen j).presence = true := by
        rw [hscreen]
        exact hserv
      obtain ⟨hsent, hitems⟩ := ih (s := t) (by omega) hserv' ((congrArg ScreenRec.confirmMark hscreen).trans hmark)
      rw [hnext]
      exact ⟨hsent, hitems.trans (congrArg ScreenRec.itemMarks hscreen)⟩

/-- The next exchange of a free line on which a screen awaits a CONFIRM is an urgent order: no item is served. -/
theorem nextExchange_itemMarks {s : State} {j : ScreenId} (hs : (s.line (lineOfScreen j)).second = none)
    (hr : (s.line (lineOfScreen j)).rescans = []) (hd : (s.line (lineOfScreen j)).sleepDue = false)
    (ho : (s.line (lineOfScreen j)).others < 4) (hserv : inService (s.presence (.screen j)) = true)
    (hmark : (s.screen j).confirmMark = true) :
    ((nextExchange (lineOfScreen j) s).screen j).itemMarks = (s.screen j).itemMarks := by
  have hdrops : s.drops < 600 := (drops_le_256 s).trans_lt (by decide)
  obtain ⟨hsent, hitems⟩ := serveUrgent_sends (ptr := fun a x => { x with urgentPtr := some a })
    (p := (s.line (lineOfScreen j)).urgentPtr) 600 hdrops hserv hmark
  rw [nextExchange_of_claim hs hr hd ho, chooseClaim_of_urgent hsent]
  exact hitems

end Sys2Proof.Machine
end

section
/-! A clean poll answer from a screen (R153, R183, R184, R187). -/

open Sys2Proof Sys2Proof.Machine

namespace Sys2Proof.Machine

/-! ## The return of a screen -/

/-- A state in which a screen has returned; `v` is the state before. -/
structure ScreenReturned (j : ScreenId) (k : UnitKind) (v r : State) : Prop where
  self : { r.screen j with itemMarks := Vector.replicate 16 true } = (v.screen j).returned k
  items : ∀ n : ItemId, (r.screen j).itemMarks[n] = true
  others : ∀ u : Station, u ≠ .screen j → r.presence u = v.presence u
  kept : KeptBut [.seats, .screens, .marks] v r

theorem returnUnit_screenReturned (j : ScreenId) (k : UnitKind) (v : State) :
    ScreenReturned j k v (returnUnit (.screen j) k v) := by
  have hkept := returnCore_screen_kept j k v
  have hscreen (m : ScreenId) := returnCore_screen j m k v
  have hout := outer_returnUnit (.screen j) k v
  rw [returnUnit_eq] at hout ⊢
  generalize returnCore (.screen j) k v = c at *
  have hseats : c.seats = v.seats := hkept.same .seats (by decide)
  have hseat (i : SeatId) : c.seat i = v.seat i := congrArg (fun w : Vector SeatRec 64 => w[i]) hseats
  have hcore : Alike v c := .ofFields (hkept.same .floor (by decide)) (hkept.same .log (by decide))
    (hkept.same .clock (by decide)) (hkept.same .roles (by decide)) (hkept.same .sequencer (by decide)) fun i => by
      rw [hseat i]
      exact ⟨rfl, rfl, rfl, rfl, rfl⟩
  have hfin : Alike c (finishChange true v c) :=
    finishChange_alike true (hcore.roleConsequences (hkept.same .roles (by decide)))
  have hstand := finishChange_standing true v c
  have hseq : (finishChange true v c).seq = c.seq := seq_finishChange true v c
  obtain ⟨hrec, hmarks⟩ := ScreenRec.HandedOn.finishChange true v c j
  rw [hscreen, if_pos rfl] at hrec hmarks
  generalize finishChange true v c = r at *
  refine ⟨hrec, fun n => ?_, fun u hu => ?_, fun b hb => ?_⟩
  · exact hmarks (.item n) (by simp [ScreenRec.has, ScreenRec.returned])
  · rw [show r.presence u = c.presence u from congrArg Prod.fst (hstand u)]
    cases u with
    | seat i => exact congrArg SeatRec.presence (hseat i)
    | screen m =>
      have hm : m ≠ j := fun e => hu (by rw [e])
      exact congrArg ScreenRec.presence ((hscreen m).trans (if_neg hm))
  · have hq : c.seq = v.seq := hkept.same .sequencer (by decide)
    by_cases h1 : b = .floor
    · subst h1
      exact hfin.floor.trans hcore.floor
    · by_cases h2 : b = .log
      · subst h2
        exact hfin.log.trans hcore.log
      · by_cases h3 : b = .sequencer
        · subst h3
          exact hseq.trans hq
        · exact keptBut_of_outer hout b (by simp_all)

/-! ## The answer -/

section screen
variable {j : ScreenId} {probe : Bool} {f : PollFields} {s : State} {a : LineAnswer}

theorem judgePoll_screen {b0 b1 b3 : Byte} (h : Carries (pollReply (addressOf (.screen j)) b0 b1 3 b3) 94 a) :
    judgePoll (addressOf (.screen j)) a = .ok (pollFields b0 b1 .screen) := by
  have haddr : addressOf (.screen j) = 48 ∨ addressOf (.screen j) = 49 := by
    show 48 + j.val % 2 = 48 ∨ 48 + j.val % 2 = 49
    omega
  refine judgePoll_of_carries h rfl ?_
  unfold kindFits
  rw [if_pos haddr]
  rfl

/-- The state at the end of a poll answer from a screen. -/
def State.screenAnswered (j : ScreenId) (probe : Bool) (f : PollFields) (s : State) : State :=
  takePoll (.screen j) probe f (s.polled (lineOfScreen j) (addressOf (.screen j)) probe)

theorem screenAnswered_eq (h : inService (s.presence (.screen j)) = true
      ∨ (probe = true ∧ s.presence (.screen j) = .lost)) : s.screenAnswered j probe f
    = takePresence (.screen j) f (s.polled (lineOfScreen j) (addressOf (.screen j)) probe) := by
  unfold State.screenAnswered takePoll
  refine if_pos ?_
  rw [polled_presence]
  rcases h with h | ⟨hp, hl⟩
  · rw [h]
    rfl
  · rw [hp, hl]
    rfl

theorem exec_screenAnswer (hcalm : s.Calm)
    (hline : OnLine (lineOfScreen j) (.poll (addressOf (.screen j)) probe) s)
    (hj : judgePoll (addressOf (.screen j)) a = .ok f)
    (hk : KeptBut [.seats, .screens, .marks, Block.ofLine (lineOfScreen j)] s (s.screenAnswered j probe f)) :
    exec (.pollAnswer (lineOfScreen j) a) s = .next ((s.screenAnswered j probe f).onward (lineOfScreen j)) :=
  exec_pollAnswer (u := .screen j) hcalm hline hj hk (by cases lineOfScreen j <;> decide)

/-- What a poll answer from a screen leaves at its end: the other units' presence and the line. -/
structure ScreenAnswered (j : ScreenId) (s w : State) : Prop where
  others : ∀ u : Station, u ≠ .screen j → w.presence u = s.presence u
  line : ∃ r, w.line (lineOfScreen j) = { s.line (lineOfScreen j) with
    consecutive := 0, others := 0, round := r, activity := .none, begun := false }
  kept : KeptBut [.seats, .screens, .marks, Block.ofLine (lineOfScreen j)] s w

theorem ScreenAnswered.ofPolled {v' : State} (h : FoundBefore (.screen j)
    (s.polled (lineOfScreen j) (addressOf (.screen j)) probe) v') : ScreenAnswered j s v' := by
  have hkept := polled_kept (lineOfScreen j) (addressOf (.screen j)) probe s
  have hline := polled_line (lineOfScreen j) (addressOf (.screen j)) probe s
  have hpres := polled_presence (lineOfScreen j) (addressOf (.screen j)) probe s
  generalize s.polled (lineOfScreen j) (addressOf (.screen j)) probe = v at *
  have hv : KeptBut [.seats, .screens, .marks, Block.ofLine (lineOfScreen j)] s v :=
    hkept.mono (by cases lineOfScreen j <;> decide)
  rcases h with rfl | ⟨_, rfl⟩
  · exact ⟨fun u _ => hpres u, hline, hv⟩
  · have hclean := recordClean_keptFloor (.screen j) v
    refine ⟨fun u hu => (recordClean_presence_other hu v).trans (hpres u), ?_,
      hv.trans (hclean.mono (by cases lineOfScreen j <;> decide))⟩
    rw [hclean.line (ofLine_notMem _)]
    exact hline

namespace ScreenAnswered

variable {w : State} (h : ScreenAnswered j s w)
include h

theorem returned {k : UnitKind} {r : State} (hr : ScreenReturned j k w r) : ScreenAnswered j s r where
  others u hu := (hr.others u hu).trans (h.others u hu)
  line := by
    rw [hr.kept.line (ofLine_notMem _)]
    exact h.line
  kept := h.kept.trans (hr.kept.mono (by cases lineOfScreen j <;> decide))

theorem onward : (∀ u : Station, u ≠ .screen j → (w.onward (lineOfScreen j)).presence u = s.presence u)
    ∧ ((w.onward (lineOfScreen j)).line (lineOfScreen j)).others = 0
    ∧ ((w.onward (lineOfScreen j)).line (lineOfScreen j)).idle = (s.line (lineOfScreen j)).idle
    ∧ KeptBut [.seats, .screens, .transmitter, .marks, Block.ofLine (lineOfScreen j)] s
      (w.onward (lineOfScreen j)) := by
  obtain ⟨r, hline⟩ := h.line
  obtain ⟨hidle, _⟩ := nextExchange_idle (lineOfScreen j) w
  refine ⟨fun u hu => (w.onward_presence _ u).trans (h.others u hu), ?_, ?_,
    (h.kept.mono (by cases lineOfScreen j <;> decide)).trans (w.onward_kept _)⟩
  · rw [State.onward_others, hline]
  · rw [State.onward_line, hidle, hline]

end ScreenAnswered

/-- R184: a screen in service that answers, with its kind and nothing fresh, is PRESENT. -/
theorem screenAnswer_clean (hserv : inService (s.screen j).presence = true) (hkind : (s.screen j).kind = some f.kind)
    (hfresh : f.fresh = true → (s.screen j).confirmOutstanding = true) :
    ScreenAnswered j s (s.screenAnswered j probe f)
      ∧ (s.screenAnswered j probe f).presence (.screen j) = .present
      ∧ (s.screenAnswered j probe f).missCount (.screen j) = 0 := by
  have hscreen := polled_screen (lineOfScreen j) (addressOf (.screen j)) probe s j
  have hserv' : inService ((s.polled (lineOfScreen j) (addressOf (.screen j)) probe).presence (.screen j)) = true := by
    rw [polled_presence]
    exact hserv
  have hfound : FoundBefore (.screen j) (s.polled (lineOfScreen j) (addressOf (.screen j)) probe)
      (recordClean (.screen j) (s.polled (lineOfScreen j) (addressOf (.screen j)) probe)) := .inr ⟨hserv', rfl⟩
  have hpres := takePresence_clean (f := f) hserv' ((congrArg ScreenRec.kind hscreen).trans hkind)
    fun h => (congrArg ScreenRec.confirmOutstanding hscreen).trans (hfresh h)
  rw [screenAnswered_eq (.inl hserv), hpres]
  exact ⟨.ofPolled hfound, recordClean_inService hserv'⟩

/-- R187: a screen that returns has every item and a CONFIRM pending, and it is a CONFIRM or an order before it in turn
that goes next. -/
theorem screenAnswer_returns (h : Returning (.screen j) probe f s)
    (hs : (s.line (lineOfScreen j)).second = none) (hr : (s.line (lineOfScreen j)).rescans = [])
    (hd : (s.line (lineOfScreen j)).sleepDue = false) :
    let w := s.screenAnswered j probe f
    let t := w.onward (lineOfScreen j)
    ScreenAnswered j s w ∧ t.presence (.screen j) = .present ∧ t.missCount (.screen j) = 0
      ∧ t.kind (.screen j) = some f.kind ∧ t.confirmOutstanding (.screen j) = true
      ∧ ∀ n : ItemId, (t.screen j).itemSent[n] = none ∧ (t.screen j).itemMarks[n] = true := by
  intro w t
  have hret : Returning (.screen j) probe f (s.polled (lineOfScreen j) (addressOf (.screen j)) probe) := by
    unfold Returning State.confirmOutstanding State.kind
    rw [polled_presence]
    dsimp only
    rw [polled_screen]
    exact h
  obtain ⟨v', hfound, hpres⟩ := takePresence_returning hret
  have hwr : w = returnUnit (.screen j) f.kind v' := by
    refine (screenAnswered_eq ?_).trans hpres
    rcases h with h | ⟨_, h, _⟩
    · exact .inr h
    · exact .inl h
  have hscreen : ScreenReturned j f.kind v' w := by
    rw [hwr]
    exact returnUnit_screenReturned j f.kind v'
  have hans : ScreenAnswered j s w := (ScreenAnswered.ofPolled hfound).returned hscreen
  obtain ⟨hself, hitems, _, _⟩ := hscreen
  have hwpres : (w.screen j).presence = .present := (congrArg ScreenRec.presence hself :)
  have hwmark : (w.screen j).confirmMark = true := (congrArg ScreenRec.confirmMark hself :)
  have hwsent : (w.screen j).itemSent = Vector.replicate 16 none := (congrArg ScreenRec.itemSent hself :)
  obtain ⟨m, c, hrec⟩ := w.onward_screens (lineOfScreen j) j
  obtain ⟨q, hline⟩ := hans.line
  have hkeep : ((nextExchange (lineOfScreen j) w).screen j).itemMarks = (w.screen j).itemMarks := by
    refine nextExchange_itemMarks ?_ ?_ ?_ ?_ ?_ hwmark
    · rw [hline]; exact hs
    · rw [hline]; exact hr
    · rw [hline]; exact hd
    · rw [hline]; exact (by decide : 0 < 4)
    · show inService (w.screen j).presence = true
      rw [hwpres]
      rfl
  refine ⟨hans, ?_, ?_, ?_, ?_, fun n => ⟨?_, ?_⟩⟩
  · exact (w.onward_presence _ _).trans hwpres
  · exact (w.onward_missCount _ _).trans (congrArg ScreenRec.missCount hself :)
  · exact (congrArg ScreenRec.kind hrec).trans (congrArg ScreenRec.kind hself :)
  · exact (congrArg ScreenRec.confirmOutstanding hrec).trans (congrArg ScreenRec.confirmOutstanding hself :)
  · have hsent : (t.screen j).itemSent = Vector.replicate 16 none := (congrArg ScreenRec.itemSent hrec).trans hwsent
    rw [hsent]
    simp
  · have hmarks : (t.screen j).itemMarks = (w.screen j).itemMarks :=
      (congrArg ScreenRec.itemMarks (w.onward_screen _ j)).trans hkeep
    rw [hmarks]
    exact hitems n

end screen

end Sys2Proof.Machine
end

section
/-! A clean poll answer is taken with its keys and its card, or returns its unit (O45). -/

open Sys2Proof Sys2Proof.Machine

namespace Sys2Proof.Machine

theorem presses_some (m n : Nat) : presses (some m) n = (n + 4 - m) % 4 := rfl

theorem cardThere_eq (c : CardPart) : cardThere c = (decide (c.state ≠ .none) || c.unreadable) := by
  unfold cardThere
  cases c.state <;> rfl

/-- Settles O45: the judgement gives the fields, and each part of R183 is said of the state in which the poll ends. -/
theorem pollAnswerTaken : Obligations.PollAnswerTaken := by
  unfold Obligations.PollAnswerTaken
  refine ⟨fun s i a b0 b1 b2 b3 k probe hcalm hs => ?_, fun s j a b0 b1 b3 probe hcalm => ?_⟩
  · intro l addr hcarries hkind hline
    have hj := judgePoll_seat hcarries hkind
    refine ⟨fun m n hm hn _ hserv hk hfresh hmic hnext hheld hthere => ?_, fun hret hprio => ?_,
      fun hret hprio hsp hrq hcard => ?_, fun h _ hserv hk hfresh hmic hnext hheld _ hprio => ?_⟩
    · intro mics nexts held pressed after
      obtain ⟨htaken, hlast, hfloor, hlog, hkept⟩ := keyAnswer_onward (f := pollFields b0 b1 k) (probe := probe) hserv
        hk hfresh hheld (hthere.trans (cardThere_eq _).symm)
      obtain ⟨hpres, hmiss, hothers, hcons, hoth, hcount⟩ := htaken.onward
      obtain ⟨hidle, hminute⟩ := htaken.onward_idle
      rw [hmic, hnext, presses_some, presses_some] at hfloor hlog hidle hminute
      refine ⟨_, exec_seatAnswer hcalm hline hj htaken, hpres, hmiss, (congrArg SeatRec.heldMic hlast :),
        (congrArg SeatRec.heldNext hlast :), (congrArg SeatRec.heldPriority hlast :), hfloor, hlog,
        (congrArg SeatRec.card hlast :), hothers, hcons, hoth, hcount, hkept, fun h1 h2 h3 => ?_, fun hev => ?_⟩
      · refine hidle.trans (if_neg ?_)
        show ¬ (decide (mics ≠ 0) || decide (nexts ≠ 0) || decide (held ≠ (s.seat i).heldPriority)) = true
        simp [h1, h2, h3]
      · have hev' : (decide (mics ≠ 0) || decide (nexts ≠ 0) || decide (held ≠ (s.seat i).heldPriority)) = true := by
          simpa [or_assoc] using hev
        exact ⟨hidle.trans (if_pos hev'), hminute.trans (if_pos hev')⟩
    · obtain ⟨htaken, hlast⟩ := returnAnswer_onward (f := pollFields b0 b1 k) hs hret
      obtain ⟨hsp, hrq⟩ := returnAnswer_offFloor (f := pollFields b0 b1 k) hs hret hprio
      obtain ⟨hpres, hmiss, hothers, _⟩ := htaken.onward
      rw [returnWrite_lasting] at hlast
      refine ⟨_, exec_seatAnswer hcalm hline hj htaken, hpres, hmiss, (congrArg SeatRec.kind hlast :),
        (congrArg SeatRec.heldMic hlast :), (congrArg SeatRec.heldNext hlast :), (congrArg SeatRec.heldCard hlast :),
        ?_, (congrArg SeatRec.card hlast :), (congrArg SeatRec.sentMic hlast :), (congrArg SeatRec.sentSpeaker hlast :),
        (congrArg SeatRec.frozen hlast :), (congrArg SeatRec.confirmOutstanding hlast :), hsp, hrq, hothers,
        htaken.onward_kept⟩
      exact Eq.trans (congrArg SeatRec.heldPriority hlast :) hprio
    · intro back
      obtain ⟨htaken, hlast⟩ := returnAnswer_onward (f := pollFields b0 b1 k) hs hret
      obtain ⟨hfloor, hlog, hrefusal⟩ :=
        returnAnswer_held (f := pollFields b0 b1 k) hs hret ⟨hsp, hrq⟩ hcard hprio
      obtain ⟨hpres, _⟩ := htaken.onward
      obtain ⟨hidle, _⟩ := htaken.onward_idle
      have hstirred : ((pollFields b0 b1 k).cardPresent || (pollFields b0 b1 k).priority) = true := by
        rw [show (pollFields b0 b1 k).priority = true from hprio, Bool.or_true]
      rw [returnWrite_lasting] at hlast
      exact ⟨_, exec_seatAnswer hcalm hline hj htaken, hpres, (congrArg SeatRec.kind hlast :),
        Eq.trans (congrArg SeatRec.heldPriority hlast :) hprio, (congrArg SeatRec.confirmOutstanding hlast :), hfloor,
        hlog, hrefusal, hidle.trans (if_pos hstirred), htaken.onward_kept⟩
    · intro c there seen empty inserted
      set f := pollFields b0 b1 k with hf
      have hcards : CardsOnly i f s := ⟨hserv, hk, hfresh, ⟨hmic, Nat.mod_lt _ (by decide)⟩,
        ⟨hnext, Nat.mod_lt _ (by decide)⟩, hprio⟩
      have hseen : changeSeen (s.seat i) f.card = seen := changeSeen_of_held hheld _
      obtain ⟨htaken, hcount⟩ := hcards.answer probe hs
      obtain ⟨hpres, hmiss, hothers, _⟩ := htaken.onward
      obtain ⟨hidle, hminute⟩ := htaken.onward_idle
      have hkept := htaken.onward_kept
      have hnone := hcards.none_onward probe
      have hreading := hcards.reading_onward probe
      have hread := hcards.read_onward probe
      have hremoved := hcards.removed_onward probe hs
      have hexec := exec_seatAnswer hcalm hline hj htaken
      have hcount' := (onward_heldCard _ (lineOfSeat i) i).trans hcount
      have hevent : (seen = true ∨ there ≠ (decide (c.state ≠ .none) || c.unreadable)) →
          cardEvent (s.seat i) f = true := by
        intro hev
        rw [cardEvent, hseen, cardThere_eq]
        rcases hev with h | h
        · rw [h, Bool.true_or]
        · rw [Bool.or_eq_true, bne_iff_ne]
          exact .inr (Ne.symm h)
      rw [hseen] at hnone hread hremoved
      generalize (s.answered i probe f).onward (lineOfSeat i) = t at *
      refine ⟨t, hexec, hpres, hmiss, hcount', hothers, hkept, fun hev => ?_, hnone, hreading, hread,
        fun hn hr hwhy => ?_⟩
      · rw [hevent hev] at hidle hminute
        exact ⟨hidle, hminute⟩
      · intro twin bindTo
        obtain ⟨hout, hin, hun, halone⟩ := hremoved ⟨hn, hr, hwhy⟩
        exact ⟨hout, hin, hun.unbound, fun n hb ha => ⟨hun.alone n hb ha, hun.promotes n hb ha⟩, halone⟩
  · intro u l addr hcarries hline hsecond hrescans hsleep
    have hj := judgePoll_screen (j := j) hcarries
    refine ⟨fun hp hserv hk hfresh => ?_, fun hret => ?_⟩
    · obtain ⟨hans, hpres, hmiss⟩ :=
        screenAnswer_clean (f := pollFields b0 b1 .screen) (probe := probe) hserv hk hfresh
      obtain ⟨hothers, hoth, hidle, hkept⟩ := hans.onward
      exact ⟨_, exec_screenAnswer hcalm hline hj hans.kept, (State.onward_presence _ _ _).trans hpres,
        (State.onward_missCount _ _ _).trans hmiss, hothers, hoth, hidle, hkept⟩
    · obtain ⟨hans, hpres, hmiss, hkind, hconf, hitems⟩ :=
        screenAnswer_returns (f := pollFields b0 b1 .screen) hret hsecond hrescans hsleep
      obtain ⟨hothers, _, _, hkept⟩ := hans.onward
      exact ⟨_, exec_screenAnswer hcalm hline hj hans.kept, hpres, hmiss, hkind, hconf, hitems, hothers, hkept⟩

end Sys2Proof.Machine
end
